-- ==== Sys2Proof/Word.lean ====
section
/-! DEFINITION. The word types of the device: the widths that 00_scope.md (Notation) and the register
files of 03_tablature.md R78 give. Counts, strokes and list positions are plain `Nat`. -/

namespace Sys2Proof

/-- One byte of memory or of a frame. -/
abbrev Byte := BitVec 8

/-- One management register (R580: every register is 32 bits wide). -/
abbrev Word := BitVec 32

/-- One scalar register (Table 3.5). -/
abbrev Dword := BitVec 64

/-- One vector or index register: 512 B (Table 3.5). -/
abbrev Vec := BitVec 4096

/-- One predicate register (Table 3.5). -/
abbrev Mask := BitVec 256

/-- The number of a switch-compute die, SCD0 to SCD31 (Table 1.1). -/
abbrev Scd := BitVec 5

/-- A 57-bit global byte address (R230). -/
abbrev Addr := BitVec 57

/-- A tenant number, 0 to 1,023. -/
abbrev Tenant := BitVec 10

/-- A logical port: 0 to 639 are the fabric ports, 640 is M0 and 641 is M1 (Table 15.13). -/
abbrev Port := BitVec 10

/-- A segment number (Table 3.12). -/
abbrev SegNo := BitVec 16

end Sys2Proof
end

