-- ==== Sys2Proof/Syntax.lean ====
section
/-! DEFINITION. The commands of the block: one constructor of `Instr` per row of spec/opcode_table.json, and the
records their operands are made of. Operands follow the field layouts of spec/: slot fields of Table 3.10, LMT header
fields of Table 11.2, command entries of Table 17.3, fabric-protocol headers of Table 16.2. -/

namespace Sys2Proof

/-- Fields of a scalar slot (SCA, SCB of Table 3.10). -/
structure ScaF where
  sd : BitVec 6
  sa : BitVec 6
  sb : BitVec 6
  imm : BitVec 17
  pred : BitVec 7
  deriving DecidableEq, Repr

/-- Fields of the predicate slot (PRD of Table 3.10). -/
structure PrdF where
  pd : BitVec 4
  pa : BitVec 4
  pb : BitVec 4
  sa : BitVec 6
  sb : BitVec 6
  imm : BitVec 11
  pred : BitVec 7
  deriving DecidableEq, Repr

/-- Fields of a scratchpad load slot (LDA, LDB of Table 3.10); `portB` says which of the two ports. -/
structure LdF where
  portB : Bool
  dst : BitVec 6
  fret : BitVec 8
  xreg : BitVec 6
  imm : BitVec 15
  pred : BitVec 7
  deriving DecidableEq, Repr

/-- Fields of the scratchpad store slot (STA of Table 3.10). -/
structure StF where
  src : BitVec 6
  fret : BitVec 8
  xreg : BitVec 6
  imm : BitVec 15
  pred : BitVec 7
  deriving DecidableEq, Repr

/-- Fields of a reduce slot (RDA, RDB of Table 3.10); `halfB` says which half of the unit. -/
structure RduF where
  halfB : Bool
  vd : BitVec 6
  va : BitVec 6
  vb : BitVec 6
  vc : BitVec 6
  sa : BitVec 6
  fmt : BitVec 4
  ofmt : BitVec 4
  mx : Bool
  rnd : BitVec 2
  sat : Bool
  sparse : Bool
  rsv : BitVec 8
  pred : BitVec 7
  deriving DecidableEq, Repr

/-- Fields of the filter slot (FLU of Table 3.10). -/
structure FluF where
  fret : BitVec 8
  xreg : BitVec 6
  fmt : BitVec 4
  cmp : BitVec 4
  va : BitVec 6
  vd : BitVec 6
  boff : BitVec 5
  rsv : BitVec 12
  pred : BitVec 7
  deriving DecidableEq, Repr

/-- Fields of the gather slot (GTE of Table 3.10). -/
structure GteF where
  src : BitVec 8
  dst : BitVec 8
  idx : BitVec 5
  xreg : BitVec 6
  nrow : BitVec 7
  rowlen : BitVec 10
  bmv : BitVec 6
  bmen : Bool
  ra : Bool
  ctr : BitVec 9
  ctren : Bool
  fmt : BitVec 4
  rsv : BitVec 17
  pred : BitVec 7
  deriving DecidableEq, Repr

/-- Fields of a distance slot (DXA0 to DXA3 of Table 3.10); `array` says which of the four arrays. -/
structure DxaF where
  array : BitVec 2
  vq : BitVec 6
  vr : BitVec 6
  vd : BitVec 6
  acc : BitVec 2
  fmt : BitVec 4
  mx : Bool
  sp24 : Bool
  sa : BitVec 6
  rsv : BitVec 11
  pred : BitVec 7
  deriving DecidableEq, Repr

/-- Fields of the rank slot (RKU of Table 3.10). -/
structure RkuF where
  vs : BitVec 6
  vi : BitVec 6
  vd : BitVec 6
  k : BitVec 10
  fmt : BitVec 4
  dir : Bool
  st : BitVec 2
  rsv : BitVec 16
  pred : BitVec 7
  deriving DecidableEq, Repr

/-- Fields of the move slot (MOV of Table 3.10). -/
structure MovF where
  src : BitVec 8
  dst : BitVec 8
  xreg : BitVec 6
  yreg : BitVec 6
  len : BitVec 9
  ctr : BitVec 9
  ctren : Bool
  inv : Bool
  rsv : BitVec 35
  pred : BitVec 7
  deriving DecidableEq, Repr

/-- Where a response goes and from where (R323): the requester's IP address and UDP source port, the request's
destination IP, whether the packet is IPv4, and its VLAN tag. -/
structure RetPath where
  ip : BitVec 128
  udp : BitVec 16
  dstIp : BitVec 128
  v4 : Bool
  vlan : Option (BitVec 16)
  deriving DecidableEq, Repr

/-- One line piece of an LMT frame as its home request lane sees it (R331): the header fields of Table 11.2, the piece's
address and bytes, the opcode's extension, and what the parser found out about the frame. -/
structure LineReq where
  cls : BitVec 3
  tenant : Tenant
  tepoch : BitVec 16
  mepoch : BitVec 16
  reqid : BitVec 16
  rkey : Word
  opid : Word
  fidx : BitVec 8
  nfrm : BitVec 8
  arg : Word
  addr : Addr
  /-- bytes of the piece, 1 to 128 -/
  len : BitVec 8
  /-- payload bytes of the piece, in address order, decrypted; for a piece of an XMAP or SAME record, its delta bytes -/
  data : List Byte
  /-- the frame was delta-compressed (CMP), and for a piece of an XMAP or SAME record its BASEID and BBLK (R432) -/
  cmp : Bool
  base : Option (BitVec 16 × Word)
  /-- opcode extension, at most 16 bytes (Table 11.4) -/
  ext : List Byte
  ctr : BitVec 16
  hint : BitVec 16
  /-- ingress port: 0 to 639, 640 for M0, 641 for M1 -/
  port : Port
  /-- first and last piece of its frame -/
  first : Bool
  last : Bool
  /-- some line of the frame is homed on an SCD other than the counter's (R282) -/
  spread : Bool
  /-- the frame arrived with CE, or was marked (R333, R369, R379) -/
  ce : Bool
  /-- the frame arrived encrypted -/
  enc : Bool
  /-- a contribution line of this device with PORT 0xFFFF (R338): no binding check, no response -/
  internal : Bool
  ret : RetPath
  /-- a meter marked its frame (R379): marked for every queue it enters -/
  yellow : Bool := false
  deriving DecidableEq, Repr

/-- A frame as a lane delivers it to a parser: its bytes from the destination MAC address, without FCS, whether the FCS was
good (R347), and the FEC codewords that it overlaps and that were corrected, or could not be (R389). -/
structure RxFrame where
  bytes : List Byte
  fcsOk : Bool
  fecCor : Nat := 0
  fecUnc : Nat := 0
  deriving DecidableEq, Repr

/-- What a response names its request by: tenant and OPID (R329, R344). -/
structure WireId where
  tenant : Tenant
  opid : BitVec 32
  deriving DecidableEq, Repr

/-- An assignment of the I3C target's dynamic address (R406): SETDASA names a static address, ENTDAA none. -/
structure I3cAssign where
  dasa : Option (BitVec 7)
  addr : BitVec 7
  deriving DecidableEq, Repr

/-- A command entry (Table 17.3) without its OPCODE, which the row implies: ring pair, CMDID, FENCE, arguments, buffer. -/
structure Cmd where
  q : BitVec 4
  cmdid : Word
  fence : Bool
  arg0 : Dword
  arg1 : Dword
  arg2 : Dword
  buf : Dword
  buflen : Word
  deriving DecidableEq, Repr

/-- A fabric-protocol message (Table 16.2) without its TYPE, which the row implies; `tagOk` says that its GCM tag
verifies under the fabric key. -/
structure FabMsg where
  fidx : BitVec 8
  nfrm : BitVec 8
  serial : Dword
  epoch : BitVec 16
  capo : Dword
  seq : Word
  chunk : Word
  payload : List Byte
  tagOk : Bool
  deriving DecidableEq, Repr

/-- A response of a tray to a forwarded request (R352): OPID, ADDR, STATUS, data, ECE. -/
structure TrayResp where
  tenant : Tenant
  opid : Word
  addr : Addr
  status : Byte
  data : List Byte
  ece : Bool
  deriving DecidableEq, Repr

/-- A shaper register (R376): subscriber s, or service v of subscriber s; RATE or BURST. -/
inductive ShaperReg
  | subRate (s : BitVec 14)
  | subBurst (s : BitVec 14)
  | svcRate (s : BitVec 14) (v : BitVec 3)
  | svcBurst (s : BitVec 14) (v : BitVec 3)
  deriving DecidableEq, Repr

/-- A placement register of a ring: base low, base high, size. -/
inductive RingReg
  | baseLo | baseHi | size
  deriving DecidableEq, Repr

/-- A register whose write changes the mapping of hierarchy frames (R364). -/
inductive SubMapReg
  | subA (s : BitVec 14)
  | subB (s : BitVec 14)
  | portcfg (p : Port)
  deriving DecidableEq, Repr

/-- A member's port or a device whose HEARTBEAT is missing (R483). -/
inductive Silent
  | device (serial : Dword)
  | port (p : Port)
  deriving DecidableEq, Repr

/-- A trace point of a firmware core (Table 17.6). -/
structure TracePoint where
  core : BitVec 5
  level : BitVec 2
  number : BitVec 16
  args : List Dword
  deriving DecidableEq, Repr

/-- What the outside world contributes to the end of a bring-up phase. -/
structure PhaseEnd where
  /-- the phase ended well -/
  ok : Bool
  /-- image type and first failing check, when image verification failed (R441) -/
  imgType : BitVec 4
  imgCheck : BitVec 8
  /-- PTP time of the alignment step, ns -/
  ptp : Dword
  deriving DecidableEq, Repr

/-- The sensor readings of one stroke (R526): the hottest die and the hottest stack in degrees Celsius, package power in W. -/
structure Sensors where
  die : BitVec 8
  stack : BitVec 8
  power : BitVec 16
  deriving DecidableEq, Repr

/-- A unit that can be lost (Table 19.2). -/
inductive LostUnit
  | scd (k : Scd)
  | stack (s : BitVec 5)
  | mid (m : BitVec 3)
  | seq (i : BitVec 1)
  | phe (n : BitVec 4)
  | eio (n : BitVec 2)
  deriving DecidableEq, Repr

/-- An uncorrectable entry that firmware rewrites (Table 19.1): an extent-table entry of an SCD, or a grant entry. -/
inductive TableEntry
  | extent (k : Scd) (x : BitVec 14)
  | grant (g : BitVec 16)
  deriving DecidableEq, Repr

/-- The commands of the block, one per row of spec/opcode_table.json. -/
inductive Instr
  /-- STROKE_BEGIN: R46 At cy 0 of every stroke the device starts the stroke and applies every change latched for that stroke number. -/
  | strokeBegin
  /-- CHORD_ISSUE: R42 On each cy from 0 to 1407 the SEQs issue chord c of the running segment, or the service chord, to all SCDs. -/
  | chordIssue (c : BitVec 11)
  /-- MAINTENANCE_WINDOW: R41 At cy 1408 the maintenance window begins: combining tables are cleared, invalidations are applied, counters are sampled and event records are latched. -/
  | maintenanceWindow
  /-- TURNAROUND: R60 At cy 1472 the SEQs decide whether the next stroke runs, read the next schedule entry, switch fret bases and latch the changes due at the next stroke. -/
  | turnaround
  /-- SLOT_SCHEDULE_ACTIVATE: R56 The armed slot schedule becomes active at cy 0 of its activation stroke. -/
  | slotScheduleActivate
  /-- SLOTSCHED_ARM: R56 A write of 1 to SEQ_SLOTSCHED.ARM arms the shadow schedule for its activation stroke. -/
  | slotschedArm (w : Word)
  /-- SLOTSCHED_CANCEL: R59 A write of 1 to SEQ_SLOTSCHED.CANCEL withdraws an armed schedule if it is made in time. -/
  | slotschedCancel (w : Word)
  /-- SKIPCTL_MASK_WRITE: R527 A write to SEQ_SKIPCTL.MASK sets USERMASK, and the mask becomes USERMASK OR the bits forced by the emergency level. -/
  | skipctlMaskWrite (w : Word)
  /-- SEQ_STROKE_LO_READ: R53 A read of SEQ_STROKE_LO latches the upper half of the stroke count into SEQ_STROKE_HI. -/
  | seqStrokeLoRead
  /-- PTP_MESSAGE: R49 A PTP message arrives on a management port, and SEQ0 trims the core clock toward PTP time. -/
  | ptpMessage (m1 : Bool) (time : Dword) (offset : BitVec 16)
  /-- SEQ_RESYNC_COMPLETE: R30 Eight strokes after a SEQ fails, the surviving SEQ drives all 32 SCDs. -/
  | seqResyncComplete
  /-- QUEUE_SLOT: R88 A queue slot dequeues the head request of the lowest-numbered class it serves into the request lane. -/
  | queueSlot (k : Scd) (mask : BitVec 8)
  /-- REQUEST_RESPONSE_BUILD: R332 At the end of a line piece's path its response is built with its status, and its followers' responses follow one per cy. -/
  | requestResponseBuild (k : Scd) (op : Nat)
  /-- ADD: R90 Scalar add of two registers. -/
  | add (k : Scd) (f : ScaF)
  /-- SUB: R90 Scalar subtract of two registers. -/
  | sub (k : Scd) (f : ScaF)
  /-- ADDI: R90 Scalar add of a register and an immediate. -/
  | addi (k : Scd) (f : ScaF)
  /-- MUL: R90 Low 64 bits of a scalar product. -/
  | mul (k : Scd) (f : ScaF)
  /-- AND: R90 Scalar bitwise AND. -/
  | and (k : Scd) (f : ScaF)
  /-- OR: R90 Scalar bitwise OR. -/
  | or (k : Scd) (f : ScaF)
  /-- XOR: R90 Scalar bitwise XOR. -/
  | xor (k : Scd) (f : ScaF)
  /-- SHL: R90 Scalar shift left by a register. -/
  | shl (k : Scd) (f : ScaF)
  /-- SHR: R90 Scalar logical shift right by a register. -/
  | shr (k : Scd) (f : ScaF)
  /-- SAR: R90 Scalar arithmetic shift right by a register. -/
  | sar (k : Scd) (f : ScaF)
  /-- MIN: R90 Signed scalar minimum. -/
  | min (k : Scd) (f : ScaF)
  /-- MAX: R90 Signed scalar maximum. -/
  | max (k : Scd) (f : ScaF)
  /-- MOVI: R90 Loads an immediate into a scalar register. -/
  | movi (k : Scd) (f : ScaF)
  /-- SHLI: R90 Scalar shift left by an immediate. -/
  | shli (k : Scd) (f : ScaF)
  /-- FGET: R90 Reads a field of a fret entry of the running segment. -/
  | fget (k : Scd) (f : ScaF)
  /-- CNTR: R90 Reads an arrival counter on the issue cy. -/
  | cntr (k : Scd) (f : ScaF)
  /-- VEXT: R90 Extracts a 64-bit lane of a vector register. -/
  | vext (k : Scd) (f : ScaF)
  /-- PAND: R91 Predicate AND. -/
  | pand (k : Scd) (f : PrdF)
  /-- POR: R91 Predicate OR. -/
  | por (k : Scd) (f : PrdF)
  /-- PXOR: R91 Predicate XOR. -/
  | pxor (k : Scd) (f : PrdF)
  /-- PANDN: R91 Predicate AND NOT. -/
  | pandn (k : Scd) (f : PrdF)
  /-- PNOT: R91 Predicate NOT. -/
  | pnot (k : Scd) (f : PrdF)
  /-- PSET: R91 Sets a predicate register to all ones. -/
  | pset (k : Scd) (f : PrdF)
  /-- PCLR: R91 Sets a predicate register to all zeros. -/
  | pclr (k : Scd) (f : PrdF)
  /-- PANY: R91 Gives all ones when any bit of the source predicate is 1. -/
  | pany (k : Scd) (f : PrdF)
  /-- PCMP: R91 Gives all ones when two scalars compare true under the selected comparison. -/
  | pcmp (k : Scd) (f : PrdF)
  /-- PCNT: R284 Gives all ones when an arrival counter has reached the target under the wrap-safe comparison. -/
  | pcnt (k : Scd) (f : PrdF)
  /-- PFIRST: R91 Sets the predicate bits below a scalar count. -/
  | pfirst (k : Scd) (f : PrdF)
  /-- PFROMV: R91 Copies 256 bits of a vector register into a predicate register. -/
  | pfromv (k : Scd) (f : PrdF)
  /-- LDV: R92 Loads 512 B from the scratchpad into a vector register. -/
  | ldv (k : Scd) (f : LdF)
  /-- LDS: R92 Loads 8 B from the scratchpad into a scalar register. -/
  | lds (k : Scd) (f : LdF)
  /-- LDX: R92 Loads 512 B from the scratchpad into an index register. -/
  | ldx (k : Scd) (f : LdF)
  /-- LDP: R92 Loads 32 B from the scratchpad into a predicate register. -/
  | ldp (k : Scd) (f : LdF)
  /-- STV: R93 Stores a vector register to the scratchpad. -/
  | stv (k : Scd) (f : StF)
  /-- STS: R93 Stores a scalar register to the scratchpad. -/
  | sts (k : Scd) (f : StF)
  /-- STP: R93 Stores a predicate register to the scratchpad. -/
  | stp (k : Scd) (f : StF)
  /-- RADD: R108 Element-wise add of two vector registers. -/
  | radd (k : Scd) (f : RduF)
  /-- RMAX: R111 Element-wise maximum of two vector registers. -/
  | rmax (k : Scd) (f : RduF)
  /-- RMIN: R111 Element-wise minimum of two vector registers. -/
  | rmin (k : Scd) (f : RduF)
  /-- RACC: R108 Accumulates one part of a register into wider accumulators. -/
  | racc (k : Scd) (f : RduF)
  /-- RWACC: R108 Accumulates a weighted part of a register into FP32 accumulators. -/
  | rwacc (k : Scd) (f : RduF)
  /-- RFMA: R110 Fused multiply-add of a scalar weight and a vector. -/
  | rfma (k : Scd) (f : RduF)
  /-- RARG: R108 Finds the largest element and its offset position. -/
  | rarg (k : Scd) (f : RduF)
  /-- RAMAX: R108 Merges pair vectors lane by lane, keeping the greater pair. -/
  | ramax (k : Scd) (f : RduF)
  /-- RGTOPK: R116 Selects the top k experts of a token and writes their weights. -/
  | rgtopk (k : Scd) (f : RduF)
  /-- RCVT: R108 Converts a scaled part of a register between formats. -/
  | rcvt (k : Scd) (f : RduF)
  /-- RMXQ: R192 Quantizes an FP32 part to a block-scaled format and writes its scales. -/
  | rmxq (k : Scd) (f : RduF)
  /-- RSPLAT: R108 Writes a scalar value to every element of a vector register. -/
  | rsplat (k : Scd) (f : RduF)
  /-- RNZM: R108 Writes the masks of the non-zero elements of each 64-element block. -/
  | rnzm (k : Scd) (f : RduF)
  /-- FSET: R146 Writes the filter comparison result of 512 B of column data as selection bits. -/
  | fSet (k : Scd) (f : FluF)
  /-- FAND: R150 ANDs the filter comparison result into the selection bits. -/
  | fAnd (k : Scd) (f : FluF)
  /-- FOR: R150 ORs the filter comparison result into the selection bits. -/
  | fOr (k : Scd) (f : FluF)
  /-- GIDX: R151 Gathers rows by index register into the scratchpad with a row-id trailer. -/
  | gidx (k : Scd) (f : GteF)
  /-- GLIN: R151 Gathers consecutive rows into the scratchpad with a row-id trailer. -/
  | glin (k : Scd) (f : GteF)
  /-- GPAGE: R157 Gathers tokens through a page table into the scratchpad. -/
  | gpage (k : Scd) (f : GteF)
  /-- GBAG: R158 Sums the gathered rows into one output row. -/
  | gbag (k : Scd) (f : GteF)
  /-- GTE_BITMAP_READ: R223 At cy t + 16 a run-ahead gather reads its selection bitmap and squashes the prefix lines of unselected rows. -/
  | gteBitmapRead (k : Scd) (op : Nat)
  /-- DQLD: R166 Loads a query register into a distance array under its control word. -/
  | dqld (k : Scd) (f : DxaF)
  /-- DSCORE: R161 Streams row data through a distance array into a tile. -/
  | dscore (k : Scd) (f : DxaF)
  /-- DOUT: R163 Writes 128 scores of a tile under the selected metric. -/
  | dout (k : Scd) (f : DxaF)
  /-- DCLR: R161 Empties a tile and resets its cursor. -/
  | dclr (k : Scd) (f : DxaF)
  /-- RKMRG: R172 Merges 128 candidates into a rank state. -/
  | rkmrg (k : Scd) (f : RkuF)
  /-- RKMRGP: R172 Merges 64 pair candidates into a rank state. -/
  | rkmrgp (k : Scd) (f : RkuF)
  /-- RKOUT: R174 Writes 64 ranks of a rank state as pairs. -/
  | rkout (k : Scd) (f : RkuF)
  /-- RKCLR: R171 Empties a rank state. -/
  | rkclr (k : Scd) (f : RkuF)
  /-- MCOPY: R176 Copies a data tile between fret extents. -/
  | mcopy (k : Scd) (f : MovF)
  /-- MSEND: R176 Sends a data tile as an LMT put to the endpoint in a send descriptor. -/
  | msend (k : Scd) (f : MovF)
  /-- MRED: R180 Sends a data tile as contribution lines to a reduction context. -/
  | mred (k : Scd) (f : MovF)
  /-- MDONE: R176 Sends the DONE line of a context with the SENT count and clears SENT. -/
  | mdone (k : Scd) (f : MovF)
  /-- ENGINE_OP_COMPLETE: R140 A GTE or MOV operation completes on its fixed cy, or at its last access, and advances its counter or partner counter. -/
  | engineOpComplete (k : Scd) (op : Nat)
  /-- ENGINE_HOLD_RELEASE: R273 A GTE or MOV operation held by the range tracker proceeds from the latest completion cy of its holders. -/
  | engineHoldRelease (k : Scd) (op : Nat)
  /-- ENGINE_CARRIED_START: R589 An engine operation that met carried occupancy takes the engine when the earlier occupancy ends. -/
  | engineCarriedStart (k : Scd) (op : Nat)
  /-- FRAME_RECEIVE: R321 A decoded frame reaches its owning SCD's parser and is classified, metered, split and enqueued. -/
  | frameReceive (p : Port) (f : RxFrame)
  /-- NEIGHBOR_SOLICITATION: R322 CTL-A answers ARP or a Neighbor Solicitation for a valid or management address on M0 or M1. -/
  | neighborSolicitation (p : Port) (ip : BitVec 128) (who : RetPath)
  /-- LOAD: R331 An LMT load piece reads its line and returns its bytes. -/
  | load (r : LineReq)
  /-- STORE: R331 An LMT store piece writes its line and returns a status. -/
  | store (r : LineReq)
  /-- PSTORE: R334 An LMT posted store piece commits in stream order and may advance an arrival counter. -/
  | pstore (r : LineReq)
  /-- PUT: R334 An LMT put piece commits on the posted write path and may advance an arrival counter. -/
  | put (r : LineReq)
  /-- GET: R331 An LMT get piece reads its line and returns its bytes. -/
  | get (r : LineReq)
  /-- ATOMIC_FADD: R336 Integer fetch-and-add. -/
  | atomicFadd (r : LineReq)
  /-- ATOMIC_FAND: R336 Fetch-and-AND. -/
  | atomicFand (r : LineReq)
  /-- ATOMIC_FOR: R336 Fetch-and-OR. -/
  | atomicFor (r : LineReq)
  /-- ATOMIC_FXOR: R336 Fetch-and-XOR. -/
  | atomicFxor (r : LineReq)
  /-- ATOMIC_FMINS: R336 Signed fetch-min. -/
  | atomicFmins (r : LineReq)
  /-- ATOMIC_FMAXS: R336 Signed fetch-max. -/
  | atomicFmaxs (r : LineReq)
  /-- ATOMIC_FMINU: R336 Unsigned fetch-min. -/
  | atomicFminu (r : LineReq)
  /-- ATOMIC_FMAXU: R336 Unsigned fetch-max. -/
  | atomicFmaxu (r : LineReq)
  /-- ATOMIC_SWAP: R336 Swaps the operand with the memory value. -/
  | atomicSwap (r : LineReq)
  /-- ATOMIC_CAS: R336 Compare-and-swap. -/
  | atomicCas (r : LineReq)
  /-- ATOMIC_FADDF: R336 FP32 fetch-and-add. -/
  | atomicFaddf (r : LineReq)
  /-- PUBLISH: R488 Publishes a region version when it is strictly greater than the stored one, otherwise completes with VERSION_CONFLICT. -/
  | publish (r : LineReq)
  /-- RED_DENSE_LINE: R121 A dense contribution line is combined into the context's accumulation buffer. -/
  | redDenseLine (r : LineReq)
  /-- RED_SPARSE_LINE: R121 A sparse contribution line is combined into 64 accumulators. -/
  | redSparseLine (r : LineReq)
  /-- RED_DONE_LINE: R123 A DONE line declares its contributor's line count for the generation. -/
  | redDoneLine (r : LineReq)
  /-- RETR: R340 A retrieval query is posted into a landing area for a segment and may advance a counter. -/
  | retr (r : LineReq)
  /-- RD_S: R301 An agent reads a line for sharing. -/
  | rdS (r : LineReq)
  /-- RD_X: R301 An agent reads a line for writing. -/
  | rdX (r : LineReq)
  /-- UPG: R301 An agent asks for write permission on a line held S or O. -/
  | upg (r : LineReq)
  /-- WB: R302 An agent writes back M data and gives up the line. -/
  | wb (r : LineReq)
  /-- WB_KEEP: R302 An agent writes back M data and keeps the line in E. -/
  | wbKeep (r : LineReq)
  /-- PUSH_DATA: R303 An agent's modified data is pushed to the home copy. -/
  | pushData (r : LineReq)
  /-- ACK: R296 An agent answers a snoop without data. -/
  | ack (r : LineReq)
  /-- ACK_WBPEND: R305 An agent with an unacknowledged WB answers a snoop, and the home waits for the WB. -/
  | ackWbpend (r : LineReq)
  /-- STASH_ACK: R317 An agent keeps a stashed line, clearing BUSY. -/
  | stashAck (r : LineReq)
  /-- STASH_NAK: R317 An agent declines a stashed line, setting the entry to I. -/
  | stashNak (r : LineReq)
  /-- SNOOP_RELEASE: R306 A snoop held by the sustain window is handed to the crossbar when the window ends. -/
  | snoopRelease (k : Scd) (txn : Nat) (agent : BitVec 5)
  /-- HOME_READ_COMPLETE: R305 A coherence transaction's home read or push ends, and its GRANT is built and BUSY clears. -/
  | homeReadComplete (k : Scd) (txn : Nat)
  /-- HELD_REQUEST_REENTER: R308 Requests held for a busy line re-enter the request lane after BUSY clears. -/
  | heldRequestReenter (k : Scd)
  /-- DOMAIN_TIMEOUT: R318 A snoop reply misses the domain timeout, so the request completes with TIMEOUT and the agent is marked FAILED. -/
  | domainTimeout (k : Scd) (txn : Nat) (agent : BitVec 5)
  /-- DIR_AGENT_WRITE: R293 A write to DIR_AGENT names or removes a domain agent from the next stroke. -/
  | dirAgentWrite (k : Scd) (i : BitVec 5) (w : Word)
  /-- DIR_PROBE: R320 A write of DIR_PROBE_HI looks up a line's directory entry. -/
  | dirProbe (k : Scd) (w : Word)
  /-- TRAY_RESPONSE: R352 A tray's response to a forwarded request arrives, and its status and data go to the requester or to the fill, flush or FTL. -/
  | trayResponse (r : TrayResp)
  /-- TRAY_FORWARD_TIMEOUT: R349 A tray forward gets no response within DOMAIN strokes, so a TIMEOUT response is built. -/
  | trayForwardTimeout (fwd : Nat)
  /-- GOVERNED_RESPONSE: R344 A response to a governed frame increments its flow's ACKS and, with ECE, MARKS. -/
  | governedResponse (opid : WireId) (ece : Bool)
  /-- GOVERNED_FRAME_RELEASE: R345 A paced frame is released to its queue when its flow's NEXT is reached. -/
  | governedFrameRelease (flow : BitVec 13)
  /-- EGRESS_START: R370 When a transmitter is free, the port selects and starts its next frame. -/
  | egressStart (p : Port)
  /-- SHAPER_TOKEN_GAIN: R372 Every 15 cy each shaper gains RATE bits up to its cap. -/
  | shaperTokenGain
  /-- METER_TOKEN_GAIN: R378 Every 15 cy each meter's buckets gain CIR and PIR bits up to their caps. -/
  | meterTokenGain
  /-- SHAPER_WRITE: R376 A write to a shaper's RATE or BURST sets its tokens to zero. -/
  | shaperWrite (x : ShaperReg) (w : Word)
  /-- METER_WRITE: R380 A write to a meter resets its buckets to full. -/
  | meterWrite (m : BitVec 13) (which : BitVec 2) (w : Word)
  /-- MIRROR_SESSION_WRITE: R382 A write to a mirror session sets its count to zero. -/
  | mirrorSessionWrite (i : BitVec 4) (w : Word)
  /-- SAMPLE_RING_CONFIG_WRITE: R385 A write to the sample ring base or size places the ring and resets HEAD and TAIL. -/
  | sampleRingConfigWrite (x : RingReg) (w : Word)
  /-- SAMPLE_RECORD_WRITE: R383 CTL-B writes a mirror sample to the sample ring, or drops it when full. -/
  | sampleRecordWrite
  /-- SUBSCRIBER_MAP_WRITE: R364 A write to a subscriber mapping or input group takes effect at the next boundary and sets BARRIER. -/
  | subscriberMapWrite (x : SubMapReg) (w : Word)
  /-- BARRIER_CLEAR: R364 A port clears BARRIER when every hierarchy frame enqueued before the change has left. -/
  | barrierClear (p : Port)
  /-- REFRESH_WINDOW: R237 A bank's 480-cy refresh window begins on the fixed rotation. -/
  | refreshWindow (stack : BitVec 5) (pchan : BitVec 6) (bank : BitVec 6)
  /-- STACK_CACHE_INVALIDATE_GO: R289 A write of 1 to SCD_SCINV_CMD.GO queues invalidation of a range of stack-cache lines. -/
  | stackCacheInvalidateGo (k : Scd)
  /-- RACLR: R229 A write of 1 to SCD_RACLR.CLR zeroes the run-ahead counters. -/
  | raclr (k : Scd)
  /-- RCX_ARM: R124 A write of 1 to a context's ARM opens it at the next boundary. -/
  | rcxArm (k : Scd) (i : BitVec 8)
  /-- RCX_ABORT: R124 A write of 1 to ABORT fails an OPEN context with TIMEOUT. -/
  | rcxAbort (k : Scd) (i : BitVec 8)
  /-- CONTEXT_OPEN: R124 An armed context becomes OPEN with its counts cleared at the boundary. -/
  | contextOpen (k : Scd) (i : BitVec 8)
  /-- CONTEXT_REOPEN: R124 A completed AUTO context reopens with GEN incremented at the boundary. -/
  | contextReopen (k : Scd) (i : BitVec 8)
  /-- CONTEXT_TIMEOUT: R124 An OPEN context reaches its timeout and fails with TIMEOUT. -/
  | contextTimeout (k : Scd) (i : BitVec 8)
  /-- EXT_SET: R249 Writes an extent descriptor. -/
  | extSet (c : Cmd)
  /-- EXTENT_DESCRIPTOR_APPLY: R250 A written descriptor applies from the next boundary. -/
  | extentDescriptorApply (x : BitVec 14)
  /-- EXT_GET: R257 Copies an extent descriptor with its state. -/
  | extGet (c : Cmd)
  /-- EXT_FILL: R252 Starts filling a far-cached extent's shadow from its tray. -/
  | extFill (c : Cmd)
  /-- FAR_CACHED_FILL_COMPLETE: R252 Every page is in the shadow, and the extent becomes VALID at the boundary. -/
  | farCachedFillComplete (x : BitVec 14)
  /-- EXT_FLUSH: R255 Writes back the dirty pages of a range of a far-cached extent. -/
  | extFlush (c : Cmd)
  /-- FLUSH_COMPLETE: R256 Every page of a flush is acknowledged by the tray, and the flush completes. -/
  | flushComplete (x : BitVec 14)
  /-- EXT_EVICT: R252 Starts evicting a valid far-cached extent. -/
  | extEvict (c : Cmd)
  /-- EVICT_COMPLETE: R252 A write-back pass finds nothing dirty, and the extent becomes UNBACKED at the boundary. -/
  | evictComplete (x : BitVec 14)
  /-- EXT_DIRTY: R257 Copies an extent's dirty bitmap to the control region. -/
  | extDirty (c : Cmd)
  /-- EXT_RESET: R252 Returns a LOST extent to UNBACKED. -/
  | extReset (c : Cmd)
  /-- COLD_DISCARD: R265 Unmaps whole 64 KiB units of a Cold extent. -/
  | coldDiscard (c : Cmd)
  /-- FTL_WRITE_ACK: R266 A Cold write is acknowledged once its data and journal record are on flash. -/
  | ftlWriteAck (op : Nat)
  /-- FTL_RELOCATION: R268 The FTL relocates a unit for garbage collection, wear levelling or read-disturb refresh. -/
  | ftlRelocation (u : BitVec 34)
  /-- FTL_GARBAGE_COLLECTION: R269 The FTL starts garbage collection when free blocks fall below threshold and holds foreground writes below the lower one. -/
  | ftlGarbageCollection (tray : Port) (freeBlocks : BitVec 32) (blocks : BitVec 32)
  /-- FTL_MAP_REBUILD_COMPLETE: R533 The FTL map is rebuilt from the journals, and FTLRDY becomes 1. -/
  | ftlMapRebuildComplete
  /-- BASE_REG: R420 Registers a delta base. -/
  | baseReg (c : Cmd)
  /-- BASE_DROP: R422 Drops a registered base. -/
  | baseDrop (c : Cmd)
  /-- BASE_APPLY: R420 A base registration or drop takes effect at the boundary. -/
  | baseApply (b : BitVec 12)
  /-- OCTCFG_WRITE: R393 A write to an octet's MODE, MEDIA or EN. -/
  | octcfgWrite (u : BitVec 5) (o : BitVec 2) (w : Word)
  /-- OCTET_MODE_APPLY: R393 An octet's new configuration takes effect at the boundary and its ports go down. -/
  | octetModeApply (u : BitVec 5) (o : BitVec 2)
  /-- LINK_TRAINING_COMPLETE: R393 A port completes training with its link partner and comes up. -/
  | linkTrainingComplete (p : Port)
  /-- LANE_FAULT: R395 A lane loses lock or signal, takes its port down and is swapped to its spare. -/
  | laneFault (u : BitVec 5) (lane : BitVec 5)
  /-- LANE_SERR_WINDOW: R395 A 64-stroke symbol-error window ends, and a lane over threshold is swapped. -/
  | laneSerrWindow (u : BitVec 5) (lane : BitVec 5) (count : BitVec 16)
  /-- SPARE_SWAP_COMPLETE: R396 The spare has retrained and carries traffic from cy 0 of stroke n+4 or when the partner relocks. -/
  | spareSwapComplete (u : BitVec 5) (g : BitVec 2)
  /-- LASER_FAULT: R402 LSR_FLT_N goes low, so the laser is disabled, the PHE's ports go down and an alert is raised. -/
  | laserFault (n : BitVec 4)
  /-- LSRCTL_EN_WRITE: R403 A write of PHE_LSRCTL.EN enables a laser source unless it is faulted. -/
  | lsrctlEnWrite (n : BitVec 4) (w : Word)
  /-- PPS_OUT_PULSE: R408 PPS_OUT rises for 1 ms on each PTP second while locked. -/
  | ppsOutPulse (second : Dword)
  /-- I3C_PRIVATE_WRITE: R559 An I3C private write addresses a register and optionally writes it. -/
  | i3cPrivateWrite (bytes : List Byte)
  /-- I3C_ADDRESS_ASSIGN: R406 The I3C controller assigns a dynamic address by SETDASA or ENTDAA. -/
  | i3cAddressAssign (a : I3cAssign)
  /-- TENANT_CREATE: R447 Creates a tenant with its key server hash. -/
  | tenantCreate (c : Cmd)
  /-- TENANT_REMOVE: R447 Removes a tenant, retiring its slots and revoking its grants. -/
  | tenantRemove (c : Cmd)
  /-- TENANT_EPOCH_ADVANCE: R447 At the boundary a tenant's epoch advances and its state changes; old operations stop at their next check point. -/
  | tenantEpochAdvance (t : Tenant)
  /-- KEY_ROTATE: R454 Exchanges the wire key with the spare key at the boundary. -/
  | keyRotate (c : Cmd)
  /-- KEYLOAD: R450 Loads a tenant key from an SPDM vendor message in a bound session. -/
  | keyload (session : BitVec 3) (body : List Byte)
  /-- WEIGHT_RESUME: R451 Returns a suspended weight slot to LOADED after fresh measurements. -/
  | weightResume (session : BitVec 3) (t : Tenant)
  /-- SPDM_MSG: R443 Carries one SPDM request to the responder and its response back. -/
  | spdmMsg (c : Cmd)
  /-- KEY_SLOT_DRAINED: R468 A RETIRING slot has sampled zero for four strokes and becomes SCRUBBING. -/
  | keySlotDrained (k : BitVec 12)
  /-- SLOT_SCRUB_COMPLETE: R452 The key is zeroised and the scrub is complete, so the slot becomes EMPTY and the tenant may become FREE. -/
  | slotScrubComplete (k : BitVec 12)
  /-- GRANT_SET: R461 Writes a grant entry. -/
  | grantSet (c : Cmd)
  /-- GRANT_ACTIVATE: R460 An accepted grant entry becomes ACTIVE or ZEROING at the boundary. -/
  | grantActivate (g : BitVec 16)
  /-- ZERO_FILL_COMPLETE: R465 An owner entry's zero-fill completes and it becomes ACTIVE. -/
  | zeroFillComplete (g : BitVec 16)
  /-- GRANT_GET: R457 Copies a grant entry to the control region. -/
  | grantGet (c : Cmd)
  /-- GRANT_REVOKE: R492 Moves a grant entry to REVOKING at the boundary. -/
  | grantRevoke (c : Cmd)
  /-- GRANT_INFLIGHT_ZERO: R460 A REVOKING entry's INFLIGHT reaches zero, so it becomes FREE or SCRUBBING and REVOKE_DONE is sent. -/
  | grantInflightZero (g : BitVec 16)
  /-- REVOKE_TIMEOUT: R493 At stroke b + DOMAIN + 2 the operations still counted complete with TIMEOUT and the entry leaves REVOKING. -/
  | revokeTimeout (g : BitVec 16)
  /-- GRANT_SCRUB_COMPLETE: R465 An owner entry's scrub under the device key completes, and it becomes FREE. -/
  | grantScrubComplete (g : BitVec 16)
  /-- HEARTBEAT_SEND: R476 A council member or worker sends HEARTBEAT on its stroke schedule. -/
  | heartbeatSend
  /-- HEARTBEAT: R476 A HEARTBEAT from another device is received and refreshes its liveness. -/
  | heartbeat (m : FabMsg)
  /-- LIVENESS_EXPIRY: R483 A member or device is silent for LIVE strokes, so liveness and manager choice change and LOSS is sent. -/
  | livenessExpiry (who : Silent)
  /-- PROPOSE: R478 A member receives a proposed map change and acknowledges it if allowed. -/
  | propose (m : FabMsg)
  /-- FABRIC_ACK: R478 The manager receives an acknowledgement and commits once a majority has acknowledged. -/
  | fabricAck (m : FabMsg)
  /-- COMMIT: R480 A device receives a committed map change to apply at its capo point. -/
  | commit (m : FabMsg)
  /-- SYNC_REQ: R479 A member answers a synchronization request with its state or map image. -/
  | syncReq (m : FabMsg)
  /-- FABRIC_STATE: R479 The new manager receives a member's current epoch and acknowledged proposal. -/
  | fabricState (m : FabMsg)
  /-- SYNC_DATA: R480 A chunk of the full map image arrives to restore a replica. -/
  | syncData (m : FabMsg)
  /-- LOSS: R483 The manager receives a loss report and commits a change marking it LOST and its compositions DOWN. -/
  | loss (m : FabMsg)
  /-- REVOKE_DONE: R493 The manager receives a device's report that a grant entry left REVOKING. -/
  | revokeDone (m : FabMsg)
  /-- CAPO_APPLY: R482 At cy 0 of the capo point a device applies the map, its bindings and port roles. -/
  | capoApply
  /-- GRACE_END: R485 At stroke K + 256 the previous map epoch is no longer accepted. -/
  | graceEnd
  /-- MAP_GET: R481 Copies the map replica to the control region. -/
  | mapGet (c : Cmd)
  /-- FAB_KEY: R478 Installs the fabric key. -/
  | fabKey (c : Cmd)
  /-- CDB_WRITE: R506 The host writes a command ring's tail doorbell. -/
  | cdbWrite (q : BitVec 4) (v : Word)
  /-- PDB_WRITE: R507 The host writes a completion ring's consumed-count doorbell. -/
  | pdbWrite (q : BitVec 4) (v : Word)
  /-- COMMAND_TAKE: R508 Firmware starts the next command of a ring when ready, ordered and not fenced. -/
  | commandTake (q : BitVec 4)
  /-- REG_READ: R510 Reads a register and returns its value. -/
  | regRead (c : Cmd)
  /-- REG_WRITE: R9 Writes a register that has no row of its own, discarding writes with reserved values. -/
  | regWrite (c : Cmd)
  /-- RING_CREATE: R511 Creates ring pair q. -/
  | ringCreate (c : Cmd)
  /-- RING_DELETE: R511 Deletes ring pair q. -/
  | ringDelete (c : Cmd)
  /-- SEG_LOAD: R97 Loads or replaces a segment image. -/
  | segLoad (c : Cmd)
  /-- SEGMENT_LOAD_COMPLETE: R98 A segment load finishes its checks and is accepted or refused. -/
  | segmentLoadComplete (seg : SegNo)
  /-- SEGMENT_READY: R100 A loaded segment becomes READY at the boundary. -/
  | segmentReady (seg : SegNo)
  /-- SEGMENT_REPLACE: R101 A verified replacement image takes effect at the boundary. -/
  | segmentReplace (seg : SegNo)
  /-- SEG_UNLOAD: R102 Requests removal of a segment. -/
  | segUnload (c : Cmd)
  /-- SEGMENT_REMOVE: R102 An unloaded segment is removed at the boundary. -/
  | segmentRemove (seg : SegNo)
  /-- SEG_DISABLE: R547 Requests disabling of a service function. -/
  | segDisable (c : Cmd)
  /-- SEGMENT_DISABLE_APPLY: R548 The segment becomes DISABLED at the boundary. -/
  | segmentDisableApply (seg : SegNo)
  /-- SEG_DISABLE_CLEANUP: R550 When every operation has completed, counters and destinations are zeroed and SEG_DISABLE completes. -/
  | segDisableCleanup (seg : SegNo)
  /-- TILE_REMAP: R104 After an SCD loss, firmware installs the 31-tile fret sections on the surviving SCDs. -/
  | tileRemap
  /-- FW_STAGE: R517 Verifies and stages a firmware image. -/
  | fwStage (c : Cmd)
  /-- FW_COMMIT: R521 Makes the staged or trial image the boot image, optionally raising SVNMIN. -/
  | fwCommit (c : Cmd)
  /-- FW_ACTIVATE: R516 Activates a staged image or defers it during an emergency. -/
  | fwActivate (c : Cmd)
  /-- FW_ACTIVATION_RETRY: R516 A pending activation starts 64 strokes after the emergency clears. -/
  | fwActivationRetry (y : BitVec 3)
  /-- FW_ACTIVATION_COMPLETE: R516 The last core of the TYPE starts on the new image, and the command completes. -/
  | fwActivationComplete (y : BitVec 3)
  /-- WATCHDOG_EXPIRE: R499 A core's watchdog expires, so the core is restarted or held and an alert is raised. -/
  | watchdogExpire (core : BitVec 5)
  /-- LOG_ENTRY_WRITE: R513 CTL-A writes an enabled trace point to the log ring, or drops it when full. -/
  | logEntryWrite (e : TracePoint)
  /-- LOG_RING_CONFIG_WRITE: R514 A write to the log ring base or size places the ring and resets HEAD and TAIL. -/
  | logRingConfigWrite (x : RingReg) (w : Word)
  /-- EVENT_RECORD_WRITE: R575 CTL-A writes a latched event record to the event ring, or drops it when full. -/
  | eventRecordWrite
  /-- EVT_RING_CONFIG_WRITE: R578 A write to the event ring base or size places the ring and resets HEAD and TAIL. -/
  | evtRingConfigWrite (x : RingReg) (w : Word)
  /-- POWER_ON_RESET: R531 FRST_N rises after power-up, and the full bring-up runs. -/
  | powerOnReset (straps : BitVec 4)
  /-- PIN_RESET: R531 FRST_N rises after being held low at least 1 ms with PWR_GOOD high, and the full bring-up runs. -/
  | pinReset (straps : BitVec 4)
  /-- FRST_N_ASSERT: R407 FRST_N goes low, so the device releases its outputs and boot flash. -/
  | frstNAssert
  /-- PWR_GOOD_CHANGE: R410 PWR_GOOD changes, and the device drives nothing while it is low. -/
  | pwrGoodChange (high : Bool)
  /-- BRINGUP_PHASE_END: R531 A bring-up phase ends, and the next begins or READY becomes 1. -/
  | bringupPhaseEnd (x : PhaseEnd)
  /-- ALIGNMENT_TIMEOUT: R534 LOCKED is still 0 at 10,000 ms, so bring-up completes on the device's own time. -/
  | alignmentTimeout
  /-- TEMPERATURE_SAMPLE: R526 At cy 0 sensors are read and the emergency level rises if a threshold is met. -/
  | temperatureSample (x : Sensors)
  /-- EMERGENCY_LEVEL_FALL: R528 Every cause has stayed clear for 1,024 strokes, so LEVEL falls by one. -/
  | emergencyLevelFall
  /-- RESET_WARM: R538 Requests a warm reset of every die but the root-of-trust domain. -/
  | resetWarm (c : Cmd)
  /-- RESET_SCD: R539 Requests a reset of one SCD. -/
  | resetScd (c : Cmd)
  /-- RESET_TENANT: R541 Requests a reset of one tenant's in-flight work. -/
  | resetTenant (c : Cmd)
  /-- RESET_BEGIN: R537 A requested reset begins at cy 0 of its boundary stroke. -/
  | resetBegin
  /-- SCD_HANDBACK_START: R540 From stroke r - 16 the substitute recalls the lines homed on the returning SCD. -/
  | scdHandbackStart (k : Scd)
  /-- SCD_RETURN_TO_SERVICE: R540 A reset SCD returns to service and takes back its lines, ports and held requests. -/
  | scdReturnToService (k : Scd)
  /-- PWR_STATE_L0: R542 Requests power state L0. -/
  | pwrStateL0 (c : Cmd)
  /-- PWR_STATE_L1: R542 Requests power state L1. -/
  | pwrStateL1 (c : Cmd)
  /-- PWR_STATE_L2: R543 Requests power state L2. -/
  | pwrStateL2 (c : Cmd)
  /-- PWR_STATE_L3: R543 Requests power state L3. -/
  | pwrStateL3 (c : Cmd)
  /-- LOW_POWER_DRAIN_COMPLETE: R544 Work in flight has ended, so the domains power down into L2 or L3. -/
  | lowPowerDrainComplete
  /-- PWRREQ_EXIT: R545 A write of CTL_PWRREQ, or a doorbell in L2, starts the exit to L0. -/
  | pwrreqExit (w : Word)
  /-- SHUTDOWN: R551 Requests shutdown with self-test and entry to L3. -/
  | shutdown (c : Cmd)
  /-- SELF_TEST_COMPLETE: R552 The shutdown self-tests finish, the record is written and the device enters L3. -/
  | selfTestComplete (x : List Byte)
  /-- UNIT_LOSS_DETECT: R567 A unit misses reports, reports a control-state error or cannot be retrained, and is lost. -/
  | unitLossDetect (x : LostUnit) (cause : BitVec 3)
  /-- UNIT_LOSS_RECORD: R570 At cy 1408 the loss is recorded, dependent contexts fail and extents are marked. -/
  | unitLossRecord
  /-- SCD_LOSS_REMAP: R571 At stroke n+8 the substitute owns the lost SCD's ports and the 31-tile layout runs. -/
  | scdLossRemap
  /-- TABLE_ENTRY_REPAIR: R562 Firmware rewrites an uncorrectable extent-table or grant-table entry from a good copy. -/
  | tableEntryRepair (x : TableEntry)
  /-- PPS_IN_PULSE: R49 A pulse on PPS_IN gives the phase of the PTP second when SEQ_ALIGN.SRC is 0b10, and SEQ0 trims the core clock toward it. -/
  | ppsInPulse (offset : BitVec 16)
  /-- COLD_WRITE_HOLD_TIMEOUT: R269 A Cold write held by the FTL for lack of free blocks reaches its timeout and completes with TIMEOUT. -/
  | coldWriteHoldTimeout (op : Nat)
  /-- MGMT_LINK_LOSS: R412 M0 or M1 loses its link, so CTL_MGMT.M0UP or M1UP clears and frames and PTP on that port stop until it trains again. -/
  | mgmtLinkLoss (m1 : Bool)
  deriving DecidableEq, Repr

end Sys2Proof
end

