-- ==== Sys2Proof/Decode.lean ====
section
/-! DEFINITION. Table words. spec/opcode_table.json gives no row any bits: the block takes its commands from outside, with
operands, and not as instruction words, so no word spells a command. -/

namespace Sys2Proof

/-- The command that a word spells by the bits of the table; the table gives no row bits, so no word spells one. -/
def decodeTableWord (_nbits _w : Nat) : Option Instr := none

end Sys2Proof
end

