-- ==== Sys2Proof/Machine/Bits.lean ====
section
/-! DEFINITION. Bit fields and byte orders: registers and memory are little-endian, packet headers are in network order
(Table 0.2, R327). -/

namespace Sys2Proof.Machine

/-- Bits [hi:lo] of a natural number. -/
def bits (w hi lo : Nat) : Nat := (w >>> lo) % 2 ^ (hi - lo + 1)

/-- Bit i of a natural number. -/
def bitAt (w i : Nat) : Bool := w.testBit i

/-- 1 for true, 0 for false. -/
def b2n (b : Bool) : Nat := if b then 1 else 0

/-- Place a value in the field that starts at bit `lo`. -/
def fld (v lo : Nat) : Nat := v <<< lo

/-- The value of a word with bits [hi:lo] replaced. -/
def setBits (w hi lo v : Nat) : Nat :=
  w - (bits w hi lo <<< lo) + ((v % 2 ^ (hi - lo + 1)) <<< lo)

/-- The bytes of a value, least significant first (little-endian). -/
def leBytes : Nat → Nat → List Byte
  | 0, _ => []
  | n + 1, v => BitVec.ofNat 8 v :: leBytes n (v / 256)

/-- The value of a byte list, least significant byte first. -/
def leNat : List Byte → Nat
  | [] => 0
  | b :: bs => b.toNat + 256 * leNat bs

/-- The bytes of a value in network order (most significant first). -/
def beBytes (n v : Nat) : List Byte := (leBytes n v).reverse

/-- The value of a byte list in network order. -/
def beNat (bs : List Byte) : Nat := bs.foldl (fun v b => v * 256 + b.toNat) 0

/-- `n` bytes of a list from offset `off`. -/
def sub (bs : List Byte) (off n : Nat) : List Byte := (bs.drop off).take n

/-- A little-endian field of `n` bytes at an offset. -/
def leAt (bs : List Byte) (off n : Nat) : Nat := leNat (sub bs off n)

/-- A network-order field of `n` bytes at an offset. -/
def beAt (bs : List Byte) (off n : Nat) : Nat := beNat (sub bs off n)

/-- A list cut or zero-filled to exactly `n` bytes. -/
def padTo (n : Nat) (bs : List Byte) : List Byte := (bs ++ List.replicate n 0).take n

/-- The 512 bytes of a vector register, lowest address first. -/
def vecBytes (v : Vec) : List Byte := leBytes 512 v.toNat

/-- The vector register of 512 bytes. -/
def vecOfBytes (bs : List Byte) : Vec := BitVec.ofNat 4096 (leNat bs)

/-- The two's complement value of an `n`-bit number. -/
def toSigned (n v : Nat) : Int := if v < 2 ^ (n - 1) then v else (v : Int) - 2 ^ n

/-- The `n`-bit number of an integer, modulo 2^n. -/
def ofSigned (n : Nat) (v : Int) : Nat := (v % 2 ^ n).toNat

/-- Quotient rounded up. -/
def ceilDiv (a b : Nat) : Nat := (a + b - 1) / b

/-- A 32-bit counter that wraps to zero. -/
def wrap32 (n : Nat) : Nat := n % 2 ^ 32

/-- Replace the bytes of a list from an offset on. -/
def patch (bs : List Byte) (off : Nat) (new : List Byte) : List Byte :=
  bs.take off ++ new ++ bs.drop (off + new.length)

/-- The lowest number below `n` that satisfies a test. -/
def firstBelow (n : Nat) (p : Nat → Bool) : Option Nat := (List.range n).find? p

/-- Count the elements of a list that satisfy a test. -/
def countIf {α : Type} (p : α → Bool) (xs : List α) : Nat := (xs.filter p).length

/-- Change the first element that satisfies a test. -/
def updFirst {α : Type} (p : α → Bool) (f : α → α) : List α → List α
  | [] => []
  | x :: xs => if p x then f x :: xs else x :: updFirst p f xs

/-- Remove the first element that satisfies a test. -/
def dropFirst {α : Type} (p : α → Bool) : List α → List α
  | [] => []
  | x :: xs => if p x then xs else x :: dropFirst p xs

end Sys2Proof.Machine
end

