-- ==== Sys2Proof/Machine/Numbers.lean ====
section
/-! DEFINITION. Number formats and arithmetic (06_number_formats.md): the layouts of Table 6.1, exact values, the single
rounding of R193 to R195, the special results of Table 6.4, integer wrap and saturation (R110, R208). A finite float is
an exact dyadic number, sign and magnitude m × 2^e, so no intermediate result is ever rounded. -/

namespace Sys2Proof.Machine

/-- Format codes of Table 3.4. -/
def fmtFp32 : Nat := 0x0
def fmtBf16 : Nat := 0x1
def fmtFp16 : Nat := 0x2
def fmtE4M3 : Nat := 0x3
def fmtE5M2 : Nat := 0x4
def fmtE3M2 : Nat := 0x5
def fmtE2M1 : Nat := 0x6
def fmtInt4 : Nat := 0x7
def fmtInt8 : Nat := 0x8
def fmtInt32 : Nat := 0x9
def fmtInt64 : Nat := 0xA
def fmtBin1 : Nat := 0xB

/-- Element width in bits (Tables 4.1 and 6.1); 0 for a reserved code. -/
def fmtWidth (f : Nat) : Nat :=
  match f with
  | 0x0 => 32 | 0x1 => 16 | 0x2 => 16 | 0x3 => 8 | 0x4 => 8 | 0x5 => 6 | 0x6 => 4
  | 0x7 => 4 | 0x8 => 8 | 0x9 => 32 | 0xA => 64 | 0xB => 1 | _ => 0

/-- Elements in a 512 B register (R106; FP6 fills 480 bytes). -/
def fmtCount (f : Nat) : Nat := if f = fmtE3M2 then 640 else if fmtWidth f = 0 then 0 else 4096 / fmtWidth f

/-- FP32, BF16, FP16, FP8-E4M3, FP8-E5M2, FP4-E2M1: the "floats" of 04_reduce_combine.md. -/
def isFloatFmt (f : Nat) : Bool := f ≤ 0x6 && f != fmtE3M2

/-- INT4, INT8, INT32, INT64: the "ints". -/
def isIntFmt (f : Nat) : Bool := 0x7 ≤ f && f ≤ 0xA

/-- A floating-point layout (Table 6.1): mantissa bits, bias, encoding of the largest finite magnitude, whether it has
infinities, encoding of the canonical NaN if it has NaNs. -/
structure FloatFmt where
  width : Nat
  mant : Nat
  bias : Int
  maxEnc : Nat
  inf : Option Nat
  nan : Option Nat
  deriving DecidableEq, Repr

/-- The layouts of Table 6.1. -/
def floatFmt (f : Nat) : FloatFmt :=
  match f with
  | 0x1 => ⟨16, 7, 127, 0x7F7F, some 0x7F80, some 0x7FC0⟩
  | 0x2 => ⟨16, 10, 15, 0x7BFF, some 0x7C00, some 0x7E00⟩
  | 0x3 => ⟨8, 3, 7, 0x7E, none, some 0x7F⟩
  | 0x4 => ⟨8, 2, 15, 0x7B, some 0x7C, some 0x7E⟩
  | 0x5 => ⟨6, 2, 3, 0x1F, none, none⟩
  | 0x6 => ⟨4, 1, 1, 0x7, none, none⟩
  | _ => ⟨32, 23, 127, 0x7F7FFFFF, some 0x7F800000, some 0x7FC00000⟩

/-- A value: not a number, an infinity, or a finite number (−1)^neg × m × 2^e; a zero keeps its sign. -/
inductive Num
  | nan
  | inf (neg : Bool)
  | fin (neg : Bool) (m : Nat) (e : Int)
  deriving DecidableEq, Repr

/-- The value +0. -/
def Num.zero : Num := .fin false 0 0

/-- Position of the highest 1 bit (0 for 0). -/
def msb (n : Nat) : Nat := Nat.log2 n

/-- Read an encoding of a float format (R184, R186). -/
def decodeFloat (f : Nat) (w : Nat) : Num :=
  let p := floatFmt f
  let mag := w % 2 ^ (p.width - 1)
  let neg := bitAt w (p.width - 1)
  if p.inf = some mag then .inf neg
  else if mag > p.maxEnc then .nan
  else
    let ex := mag / 2 ^ p.mant
    let m := mag % 2 ^ p.mant
    if ex = 0 then .fin neg m (1 - p.bias - p.mant)
    else .fin neg (m + 2 ^ p.mant) ((ex : Int) - p.bias - p.mant)

/-- How a result is rounded: to nearest even (RND 0b00), or stochastically with a draw (RND 0b01, R195). -/
inductive Rounding
  | nearest
  | stochastic (r : Nat)
  deriving DecidableEq, Repr

/-- An integer quotient m × 2^e / 2^q rounded in magnitude: lo or lo + 1 by R193 or R195, the sign deciding which of them
is the lower value. -/
def roundQuot (rd : Rounding) (neg : Bool) (m : Nat) (e q : Int) : Nat :=
  if q ≤ e then m * 2 ^ (e - q).toNat
  else
    let s := (q - e).toNat
    let lo := m / 2 ^ s
    let rem := m % 2 ^ s
    if rem = 0 then lo
    else
      match rd with
      | .nearest =>
        if 2 * rem > 2 ^ s then lo + 1
        else if 2 * rem = 2 ^ s then lo + lo % 2
        else lo
      | .stochastic r =>
        if neg then
          if r < (2 ^ 16 * (2 ^ s - rem)) / 2 ^ s then lo else lo + 1
        else if r < (2 ^ 16 * rem) / 2 ^ s then lo + 1 else lo

/-- The magnitude encoding of a finite non-zero value rounded to a layout; it may lie beyond the largest finite one
(R193 lifts the upper limit of the exponent range). -/
def roundMag (p : FloatFmt) (rd : Rounding) (neg : Bool) (m : Nat) (e : Int) : Nat :=
  let emin : Int := 1 - p.bias
  let ex : Int := (msb m : Int) + e
  let q : Int := (if ex < emin then emin else ex) - p.mant
  let n := roundQuot rd neg m e q
  (q - (emin - p.mant)).toNat * 2 ^ p.mant + n

/-- The encoding of a sign and a magnitude. -/
def withSign (p : FloatFmt) (neg : Bool) (mag : Nat) : Nat := mag + (if neg then 2 ^ (p.width - 1) else 0)

/-- The encoding of a result in a float format: rounding once, then Table 6.4 (R200). -/
def encodeFloat (f : Nat) (sat : Bool) (rd : Rounding) (x : Num) : Nat :=
  let p := floatFmt f
  let past (neg exactInf : Bool) : Nat :=
    match p.inf with
    | some i => if sat && !exactInf then withSign p neg p.maxEnc else withSign p neg i
    | none =>
      match p.nan with
      | some c => if sat then withSign p neg p.maxEnc else c
      | none => withSign p neg p.maxEnc
  match x with
  | .nan => p.nan.getD 0
  | .inf neg => past neg true
  | .fin neg 0 _ => withSign p neg 0
  | .fin neg m e =>
    let mag := roundMag p rd neg m e
    if mag > p.maxEnc then past neg false else withSign p neg mag

/-- The signed magnitude m × 2^e of a finite number as an integer multiple of 2^q, for q ≤ e. -/
def scaled (neg : Bool) (m : Nat) (e q : Int) : Int :=
  let v : Int := (m * 2 ^ (e - q).toNat : Nat)
  if neg then -v else v

/-- Exact sum (R194: a zero sum is +0 except of two −0; infinity minus infinity is a NaN). -/
def Num.add : Num → Num → Num
  | .nan, _ => .nan
  | _, .nan => .nan
  | .inf a, .inf b => if a = b then .inf a else .nan
  | .inf a, _ => .inf a
  | _, .inf b => .inf b
  | .fin na ma ea, .fin nb mb eb =>
    let q := min ea eb
    let v := scaled na ma ea q + scaled nb mb eb q
    if v = 0 then .fin (na && nb && ma == 0 && mb == 0) 0 0 else .fin (decide (v < 0)) v.natAbs q

/-- Exact product (zero times infinity is a NaN; the sign of a zero product is that of the factors). -/
def Num.mul : Num → Num → Num
  | .nan, _ => .nan
  | _, .nan => .nan
  | .inf a, .inf b => .inf (a != b)
  | .inf a, .fin nb mb _ => if mb = 0 then .nan else .inf (a != nb)
  | .fin na ma _, .inf b => if ma = 0 then .nan else .inf (na != b)
  | .fin na ma ea, .fin nb mb eb => .fin (na != nb) (ma * mb) (ea + eb)

/-- The value with its sign changed. -/
def Num.neg : Num → Num
  | .nan => .nan
  | .inf a => .inf (!a)
  | .fin a m e => .fin (!a) m e

/-- The value times 2^k. -/
def Num.scale (k : Int) : Num → Num
  | .fin a m e => .fin a m (e + k)
  | x => x

/-- A number of an integer. -/
def Num.ofInt (v : Int) : Num := .fin (decide (v < 0)) v.natAbs 0

/-- Comparison of two values that are not NaN, as IEEE 754 orders them (+0 equals −0). -/
def Num.cmp : Num → Num → Ordering
  | .inf a, .inf b => compare (b2n (!a)) (b2n (!b))
  | .inf a, _ => if a then .lt else .gt
  | _, .inf b => if b then .gt else .lt
  | .fin na ma ea, .fin nb mb eb =>
    let q := min ea eb
    compare (scaled na ma ea q) (scaled nb mb eb q)
  | _, _ => .eq

def Num.isNan : Num → Bool
  | .nan => true
  | _ => false

/-- The ranking of R111 for maxima: a NaN ranks below every number, two NaNs tie. -/
def Num.rank (a b : Num) : Ordering :=
  match a, b with
  | .nan, .nan => .eq
  | .nan, _ => .lt
  | _, .nan => .gt
  | a, b => a.cmp b

/-- The ranking of R111 for minima: a NaN ranks above every number. -/
def Num.rankMin (a b : Num) : Ordering :=
  match a, b with
  | .nan, .nan => .eq
  | .nan, _ => .gt
  | _, .nan => .lt
  | a, b => a.cmp b

/-- Bits of quotient kept before rounding; with a sticky bit below, one rounding to nearest even of the exact quotient
follows for every format of Table 6.1. -/
def quotBits : Nat := 64

/-- Quotient of two finite values, to `quotBits` bits with a sticky bit: rounding it once rounds the exact quotient.
A division by zero is a NaN (0/0) or an infinity. -/
def Num.div : Num → Num → Num
  | .nan, _ => .nan
  | _, .nan => .nan
  | .inf _, .inf _ => .nan
  | .inf a, .fin nb _ _ => .inf (a != nb)
  | .fin na _ _, .inf b => .fin (na != b) 0 0
  | .fin na ma ea, .fin nb mb eb =>
    if mb = 0 then (if ma = 0 then .nan else .inf (na != nb))
    else
      let k := quotBits + msb mb
      let n := ma * 2 ^ k
      .fin (na != nb) (2 * (n / mb) + b2n (n % mb != 0)) (ea - eb - k - 1)

/-- Integer square root by deciding bits from high to low. -/
def isqrtAux : Nat → Nat → Nat → Nat
  | 0, _, r => r
  | b + 1, n, r =>
    let r' := r + 2 ^ b
    if r' * r' ≤ n then isqrtAux b n r' else isqrtAux b n r

/-- The largest r with r × r ≤ n. -/
def isqrt (n : Nat) : Nat := isqrtAux (msb n / 2 + 1) n 0

/-- Square root of a finite value that is not negative, to enough bits with a sticky bit. -/
def Num.sqrt : Num → Num
  | .fin _ 0 _ => .zero
  | .fin false m e =>
    let k : Nat := 2 * quotBits + (if e % 2 = 0 then 0 else 1)
    let n := m * 2 ^ k
    let r := isqrt n
    .fin false (2 * r + b2n (r * r != n)) ((e - k) / 2 - 1)
  | .inf false => .inf false
  | _ => .nan

/-- Element i of width w of a packed register (R106). -/
def elemAt (w : Nat) (v : Nat) (i : Nat) : Nat := (v >>> (w * i)) % 2 ^ w

/-- Pack elements of width w upward from bit 0 (R106). -/
def packElems (w : Nat) (xs : List Nat) : Nat := xs.foldr (fun x v => x % 2 ^ w + v * 2 ^ w) 0

/-- The elements of a register in a format. -/
def elems (f : Nat) (v : Vec) : List Nat := (List.range (fmtCount f)).map (elemAt (fmtWidth f) v.toNat)

/-- The value of an element of any numeric format. -/
def numOf (f w : Nat) : Num :=
  if isIntFmt f then .ofInt (toSigned (fmtWidth f) w) else decodeFloat f w

/-- An exact integer as an element of an integer format: it wraps with SAT 0 and saturates with SAT 1 (R110). -/
def intResult (f : Nat) (sat : Bool) (v : Int) : Nat :=
  let w := fmtWidth f
  let hi : Int := 2 ^ (w - 1) - 1
  let lo : Int := -(2 ^ (w - 1))
  ofSigned w (if sat then (if v > hi then hi else if v < lo then lo else v) else v)

/-- The nearest limit of an integer format (R203). -/
def clampInt (f : Nat) (v : Int) : Int :=
  let w := fmtWidth f
  let hi : Int := 2 ^ (w - 1) - 1
  let lo : Int := -(2 ^ (w - 1))
  if v > hi then hi else if v < lo then lo else v

/-- A finite value rounded to an integer, to nearest even. -/
def roundToInt (neg : Bool) (m : Nat) (e : Int) : Int :=
  let n : Int := roundQuot .nearest neg m e 0
  if neg then -n else n

/-- The integer of an exact value that is one. -/
def Num.toInt : Num → Int
  | .fin neg m e => roundToInt neg m e
  | _ => 0

/-- The FP32 encoding of a value. -/
def fp32 (x : Num) : Nat := encodeFloat fmtFp32 false .nearest x

/-- Float-to-integer conversion (R203). -/
def floatToInt (f : Nat) (x : Num) : Nat :=
  let w := fmtWidth f
  match x with
  | .nan => 0
  | .inf neg => ofSigned w (if neg then -(2 ^ (w - 1)) else 2 ^ (w - 1) - 1)
  | .fin neg m e => ofSigned w (clampInt f (roundToInt neg m e))

/-- Conversion of an exact value to a format (R202 to R205). -/
def convert (src dst : Nat) (sat : Bool) (rd : Rounding) (x : Num) : Nat :=
  if isIntFmt dst then
    if isIntFmt src then
      match x with
      | .fin neg m e => intResult dst sat (roundToInt neg m e)
      | y => floatToInt dst y
    else floatToInt dst x
  else encodeFloat dst sat rd x

/-- The E8M0 block scale of a byte: 2^(e − 127), or none for NaN (R189). -/
def blockScale (b : Nat) : Option Int := if b = 0xFF then none else some ((b : Int) - 127)

/-- A block-scaled element (R191). -/
def scaleNum (b : Nat) (x : Num) : Num :=
  match blockScale b with
  | none => .nan
  | some k => x.scale k

/-- The exact sum of a list of values. -/
def sumNum (xs : List Num) : Num :=
  match xs with
  | [] => .zero
  | y :: ys => ys.foldl Num.add y

/-- One draw of the generator of R198: the next state and its upper 16 bits. -/
def draw (s : Dword) : Dword × Nat :=
  let a := s ^^^ (s <<< 13)
  let b := a ^^^ (a >>> 7)
  let c := b ^^^ (b <<< 17)
  (c, (c >>> 48).toNat)

/-- n draws in order. -/
def draws : Nat → Dword → Dword × List Nat
  | 0, s => (s, [])
  | n + 1, s =>
    let (s1, r) := draw s
    let (s2, rs) := draws n s1
    (s2, r :: rs)

/-- The generator state at cy 0 of a stroke (R198). -/
def reseed (seed : Dword) (stroke : Nat) (tile : Nat) : Dword :=
  let s := seed ^^^ (BitVec.ofNat 64 stroke * 0x9E3779B97F4A7C15) ^^^ BitVec.ofNat 64 tile
  if s = 0 then 1 else s

end Sys2Proof.Machine
end

