-- ==== Sys2Proof/Config.lean ====
section
/-! DEFINITION. What spec/ leaves open, as constants without a body: nothing can evaluate them, so every claim about the
model holds whatever they are. Each is named in notes/assumptions. -/

namespace Sys2Proof.Config

/-- The n-th free value the device draws: an unstated result (assumption 12). -/
opaque freeValue : Nat → BitVec 64

/-- The exponential that RGTOPK computes (R118): an FP32 encoding for the FP32 encoding of x. The device's is within 2 ulp of
the exact one, and the model takes this value only where it is (assumption 14). -/
opaque expFp32 : BitVec 32 → BitVec 32

/-- The stack-cache set of a line, 0 to 4,095 (R245 gives 4,096 sets and does not say which; assumption 13). -/
opaque scacheSet : Nat → BitVec 12

/-- The way evicted from a full stack-cache set, 0 to 15 (assumption 13). -/
opaque scacheVictim : Nat → BitVec 4

/-- The output port of a switched frame, none when no port leads on (R474: the forwarding tables of a map epoch and their hash;
their contents are not given): epoch, uplink ports live at the last capo point, the bytes that name the frame's flow
(assumption 15). -/
opaque forwardPort : BitVec 16 → List Nat → List Byte → Option (BitVec 10)

/-- The seven check bits of a 32-bit word under the (39,32) code of R26, whose matrix spec/ does not give (assumption 86). -/
opaque checkBits : BitVec 32 → BitVec 7

/-- Destination and source MAC address of a frame that the device sends, by port and destination address: spec/ gives none
(assumption 87). -/
opaque macAddresses : BitVec 10 → BitVec 128 → BitVec 96

/-- IPv4 identification (low 16 bits) and IPv6 flow label of a datagram that the device sends (assumption 87). -/
opaque ipLabel : List Byte → BitVec 20

/-- What a payload with tag looks like that is sent encrypted while its key slot holds no key (assumption 88). -/
opaque unkeyedSeal : List Byte → List Byte → List Byte

/-- The device key of a part, by its serial number; 64 bytes of it are used (R414; assumption 93). -/
opaque deviceKey : BitVec 64 → List Byte

/-- The tray on whose flash the FTL writes a unit: journal count, unit (assumption 95). -/
opaque ftlTray : Nat → Nat → BitVec 10

/-- The IP address of the flash tray on a port: spec/ names no field that holds it (assumption 95). -/
opaque flashTrayIp : BitVec 10 → BitVec 128

/-- Ed25519 verification of a signature: public key, message, signature (R440; assumption 6). -/
opaque ed25519Verify : List Byte → List Byte → List Byte → Bool

/-- ML-DSA-65 verification of a signature: public key, message, signature (R440; assumption 6). -/
opaque mldsaVerify : List Byte → List Byte → List Byte → Bool

/-- Ed25519 and ML-DSA-65 signatures: private key, message (R442, R444, R554; assumption 6). -/
opaque ed25519Sign : List Byte → List Byte → List Byte
opaque mldsaSign : List Byte → List Byte → List Byte

/-- The private and the public alias key that the root of trust derives from a DeviceID private key and the DIGEST of its
image (R442; assumption 96); `true` for ML-DSA-65. -/
opaque aliasPrivate : Bool → List Byte → BitVec 384 → List Byte
opaque aliasPublic : Bool → List Byte → BitVec 384 → List Byte

/-- The to-be-signed part of an alias certificate, from the alias public key (assumption 96). -/
opaque aliasCertificate : Bool → List Byte → List Byte

/-- The boot ROM, whose contents spec/ does not give (measurement 0x01, Table 15.4; assumption 96). -/
opaque bootRom : List Byte

/-- The measurements that an SPDM request asks for: the session it came in, the indices, the requester's nonce, and whether the
response is signed (assumption 6). -/
opaque spdmAsks : List Byte → List Byte → Option (Option (BitVec 3) × List Nat × List Byte × Bool)

/-- The response of the SPDM responder to a request, from the session state, the measurement blocks it carries, the two
certificate chains and the Ed25519 alias key that signs it (R443; assumption 6). -/
opaque spdmRespond : List Byte → List Byte → List (List Byte) → List (List Byte) → List Byte → List Byte

/-- What an accepted SPDM exchange changes: the session it opens and the key hash it authenticates, or the session it
closes (assumption 6). -/
opaque spdmOpens : List Byte → List Byte → Option (BitVec 3 × BitVec 384)
opaque spdmCloses : List Byte → List Byte → Option (BitVec 3)
/-- The plaintext vendor-defined KEYLOAD message that an SPDM request carries, and its session (assumption 6). -/
opaque spdmKeyload : List Byte → List Byte → Option (BitVec 3 × List Byte)
/-- The vendor-defined WEIGHT_RESUME message that an SPDM request carries: its session and tenant (assumption 6). -/
opaque spdmResume : List Byte → List Byte → Option (BitVec 3 × BitVec 10)

end Sys2Proof.Config
end

