-- ==== Sys2Proof/Machine/Sparse.lean ====
section
/-! DEFINITION. Sparse maps keyed by natural numbers: lists of (key, value) pairs in one canonical form, keys strictly
rising and no entry equal to what an unlisted key reads as. Memory, the register file of the management space and the
register files of the SCDs are held this way, so that equal contents are equal data. -/

namespace Sys2Proof.Machine

/-- A sparse map: (key, value) pairs, keys strictly rising. -/
abbrev SMap (α : Type) := List (Nat × α)

/-- The entry of a key, if one is listed. -/
def SMap.find {α : Type} : SMap α → Nat → Option α
  | [], _ => none
  | (k, v) :: m, a => if a = k then some v else SMap.find m a

/-- The value of a key; an unlisted key reads as `d`. -/
def SMap.get {α : Type} (d : α) (m : SMap α) (a : Nat) : α := (m.find a).getD d

/-- Remove the entry of a key. -/
def SMap.erase {α : Type} : SMap α → Nat → SMap α
  | [], _ => []
  | (k, v) :: m, a =>
    if a < k then (k, v) :: m else if a = k then m else (k, v) :: SMap.erase m a

/-- List a value under a key, in key order, in place of the entry that stood there. -/
def SMap.insert {α : Type} : SMap α → Nat → α → SMap α
  | [], a, x => [(a, x)]
  | (k, v) :: m, a, x =>
    if a < k then (a, x) :: (k, v) :: m
    else if a = k then (a, x) :: m
    else (k, v) :: SMap.insert m a x

/-- Write a value; writing what an unlisted key reads as removes the entry (the canonical form). -/
def SMap.set {α : Type} [DecidableEq α] (d : α) (m : SMap α) (a : Nat) (x : α) : SMap α :=
  if x = d then m.erase a else m.insert a x

/-- Every key of the map is above `lo`, and the keys rise strictly. -/
def SMap.risingFrom {α : Type} : Nat → SMap α → Bool
  | _, [] => true
  | lo, (k, _) :: m => decide (lo < k) && SMap.risingFrom k m

/-- The keys rise strictly. -/
def SMap.rising {α : Type} : SMap α → Bool
  | [] => true
  | (k, _) :: m => SMap.risingFrom k m

/-- The canonical form: keys strictly rising, no listed value equal to what an unlisted key reads as. -/
def SMap.canon {α : Type} [DecidableEq α] (d : α) (m : SMap α) : Bool :=
  m.rising && m.all (fun e => decide (e.2 ≠ d))

/-- Keep the entries whose key and value satisfy a test. -/
def SMap.keep {α : Type} (p : Nat → α → Bool) (m : SMap α) : SMap α := m.filter (fun e => p e.1 e.2)

/-- Change every value of the map. -/
def SMap.mapVal {α : Type} (f : Nat → α → α) (m : SMap α) : SMap α := m.map (fun e => (e.1, f e.1 e.2))

/-- Change every value of a map in canonical form; what becomes the unlisted value is listed no more. -/
def SMap.remap {α : Type} [DecidableEq α] (d : α) (f : Nat → α → α) (m : SMap α) : SMap α :=
  (m.mapVal f).filter (fun e => decide (e.2 ≠ d))

/-- Fold an operation over the numbers 0 to n − 1, in rising order. -/
def forUpto {σ : Type} (n : Nat) (f : Nat → σ → σ) (s : σ) : σ := (List.range n).foldl (fun s i => f i s) s

/-- Fold an operation over a list, in order. -/
def forEach {α σ : Type} (xs : List α) (f : α → σ → σ) (s : σ) : σ := xs.foldl (fun s x => f x s) s

end Sys2Proof.Machine
end

