-- ==== Sys2Proof/Machine/RegMap.lean ====
section
/-! DEFINITION. The register map: every register that the register tables of spec/ lay out, its block and its place
(20_register_index.md R579, Tables 20.1 to 20.3), its fields with their access codes (Table 0.3) and reset values. -/

namespace Sys2Proof.Machine

/-- The access codes of Table 0.3 that name a field; bits of no listed field are RSV. -/
inductive Access
  | ro | rw | w1c | wo
  deriving DecidableEq, Repr

/-- One field of a register: bits [hi:lo], its access code and its reset value. -/
structure RField where
  hi : Nat
  lo : Nat
  acc : Access
  reset : Nat
  deriving DecidableEq, Repr

/-- The kinds of register block (Table 20.1): one instance, one per SCD, one per MID, one per PHE or EIO. -/
inductive Blk
  | one | scd | mid | lane
  deriving DecidableEq, Repr

/-- The layout of a register: block, offset of its first instance (for `one`: the address), strides and counts of its
two indices, fields. -/
structure RegSpec where
  blk : Blk
  base : Nat
  di : Nat
  ni : Nat
  dj : Nat
  nj : Nat
  fields : List RField
  deriving DecidableEq, Repr

/-- Every register of the register tables, under its name in spec/ (`lane…` for the registers that PHE and EIO share). -/
inductive Reg
  | ctlId | ctlStep | seqStrokeLo | seqStrokeHi
  | seqAlign | seqSlotsched | seqSlotentS | seqSkipctl
  | seqSkipcnt | seqSegdescA | seqSegdescB | seqLoaderr
  | scdTile | scdChordflt | scdChordfltLast | scdRcxCfg
  | scdRcxBuf | scdRcxLen | scdRcxOwn | scdRcxSig
  | scdRcxLocal | scdRcxProg | scdRcxCmd | scdCombctl
  | scdCombrd | scdCombat | scdCombfull | scdRcxdrop
  | scdEngerr | scdEngerrChord | scdEngfail | scdGterows
  | scdGteskip | scdSrseedLo | scdSrseedHi | scdRalspec
  | scdRalsq | scdRalcmb | scdGteraops | scdGtepfx
  | scdGtepsq | scdRaclr | ctlNearmap | midDronectl
  | midDronece | midDroneue | midDronepass | midDronepos
  | scdActr | scdActrcfg | scdRthold | scdScinvLo
  | scdScinvHi | scdScinvLen | scdScinvCmd | dirAgent
  | dirOcc | dirEvict | dirBcast | dirPush
  | dirSustain | dirEnginv | dirHolddrop | dirProbeLo
  | dirProbeHi | dirProbeElo | dirProbeEhi | dirSwLo
  | dirSwHi | dirSwLen | dirSwCfg | lmtCfg
  | lmtIpcfg | lmtTmo | lmtSelf | lmtRgCfg
  | lmtRgMin | lmtIpvalid | lmtIpaddr | lmtProle
  | lmtBadhdr | lmtTagdrop | lmtLate | lmtTmocnt
  | lmtEcerx | lmtRoleref | qosDscpmap | qosPcpmap
  | qosRqprof | qosQprofA | qosQprofB | qosMirA
  | qosMirCnt | qosSmpBaseLo | qosSmpBaseHi | qosSmpSize
  | qosSmpHead | qosSmpTail | qosDropbuf | qosDropmet
  | qosMarkecn | qosMarkmet | qosSmpdrop | qosPortcfg
  | qosPortstat | qosMetsel | qosMetCir | qosMetPir
  | qosMetBurst | qosMetCtl | qosSubA | qosSubB
  | qosSubShr | qosSubShb | qosSvcCfg | qosSvcShr
  | qosSvcShb | qosSvcStat | laneOctcfg | laneLane
  | laneSpare | laneSwapcfg | pheLsrctl | lanePrxfrm
  | lanePrxfcs | lanePfecunc | lanePfeccor | lanePtxfrm
  | lanePtxdown | lanePlinkdn | lanePstat | ctlStraps
  | ctlMgmt | lmtTenpol | lmtRetdrop | lmtCmprx
  | scdDcxmap | scdDcspill | scdDcquant | scdDcrawtx
  | secTen | secKslot | secBootstat | secGrantocc
  | secScrub | secBind | fabSerialLo | fabSerialHi
  | fabIndex | fabEpoch | fabMapstat | fabCapoLo
  | fabCapoHi | fabCouncil | fabCfg | fabStalecnt
  | fabVconfcnt | fabHorevcnt | fabMsgdrop | fabHowinLo
  | fabHowinHi | fabHowinLen | fabHowinCfg | ctlWdtcfg
  | ctlDberr | ctlWdtstat | ctlLogBaseLo | ctlLogBaseHi
  | ctlLogSize | ctlLogHead | ctlLogTail | ctlLogCfg
  | ctlLogDrop | ctlFwstat | ctlBringup | ctlStrec
  | ctlScdout | ctlStkout | ctlEmerg | ctlTemp
  | ctlPwrreq | ctlAlert | ctlEvtBaseLo | ctlEvtBaseHi
  | ctlEvtSize | ctlEvtHead | ctlEvtTail | ctlEvtDrop
  | scdEccce | scdEccue | scdLnkce | scdLnkue
  | scdTaint | midEccce | midEccue | seqOriginLo
  | seqOriginHi | seqSlotschedAtLo | seqSlotschedAtHi | seqSlotentA
  | seqLoaderrSeg
  deriving DecidableEq, Repr

/-- The layout of each register, from the table of spec/ named beside it. -/
def Reg.spec : Reg → RegSpec
  | .ctlId => ⟨.one, 0x0, 0, 1, 0, 1, [⟨31, 16, .ro, 0xFA3D⟩, ⟨15, 4, .ro, 0x964⟩, ⟨3, 0, .ro, 0x0⟩]⟩ -- Table 1.6
  | .ctlStep => ⟨.one, 0x4, 0, 1, 0, 1, [⟨15, 8, .ro, 0x0⟩, ⟨7, 0, .ro, 0x0⟩]⟩ -- Table 1.7
  | .seqStrokeLo => ⟨.one, 0x100100, 0, 1, 0, 1, [⟨31, 0, .ro, 0x0⟩]⟩ -- Table 2.2
  | .seqStrokeHi => ⟨.one, 0x100104, 0, 1, 0, 1, [⟨31, 0, .ro, 0x0⟩]⟩ -- Table 2.3
  | .seqAlign => ⟨.one, 0x100108, 0, 1, 0, 1, [⟨31, 31, .ro, 0x0⟩, ⟨30, 30, .w1c, 0x0⟩, ⟨17, 16, .rw, 0x0⟩, ⟨15, 0, .ro, 0x0⟩]⟩ -- Table 2.4
  | .seqSlotsched => ⟨.one, 0x100200, 0, 1, 0, 1, [⟨31, 31, .wo, 0x0⟩, ⟨30, 30, .ro, 0x0⟩, ⟨29, 29, .w1c, 0x0⟩, ⟨28, 28, .wo, 0x0⟩, ⟨22, 16, .ro, 0x1⟩, ⟨6, 0, .rw, 0x1⟩]⟩ -- Table 2.5a
  | .seqSlotentS => ⟨.one, 0x100300, 4, 64, 0, 1, [⟨15, 0, .rw, 0x0⟩]⟩ -- Table 2.5b
  | .seqSkipctl => ⟨.one, 0x100120, 0, 1, 0, 1, [⟨7, 0, .rw, 0x0⟩]⟩ -- Table 2.6
  | .seqSkipcnt => ⟨.one, 0x100124, 0, 1, 0, 1, [⟨31, 0, .ro, 0x0⟩]⟩ -- Table 2.6
  | .seqSegdescA => ⟨.one, 0x100600, 8, 64, 0, 1, [⟨31, 30, .ro, 0x0⟩, ⟨25, 16, .ro, 0x0⟩, ⟨15, 0, .ro, 0x0⟩]⟩ -- Table 3.15
  | .seqSegdescB => ⟨.one, 0x100604, 8, 64, 0, 1, [⟨31, 31, .ro, 0x0⟩, ⟨30, 30, .ro, 0x0⟩, ⟨26, 16, .ro, 0x0⟩, ⟨8, 0, .ro, 0x0⟩]⟩ -- Table 3.16
  | .seqLoaderr => ⟨.one, 0x100500, 0, 1, 0, 1, [⟨31, 24, .ro, 0x0⟩, ⟨23, 20, .ro, 0x0⟩, ⟨16, 16, .ro, 0x0⟩, ⟨15, 11, .ro, 0x0⟩, ⟨10, 0, .ro, 0x0⟩]⟩ -- Table 3.17
  | .scdTile => ⟨.scd, 0x100, 0, 1, 0, 1, [⟨5, 5, .ro, 0x0⟩, ⟨4, 0, .ro, 0x0⟩]⟩ -- Table 3.18
  | .scdChordflt => ⟨.scd, 0x104, 0, 1, 0, 1, [⟨31, 0, .ro, 0x0⟩]⟩ -- Table 3.19
  | .scdChordfltLast => ⟨.scd, 0x108, 0, 1, 0, 1, [⟨31, 16, .ro, 0x0⟩, ⟨15, 11, .ro, 0x0⟩, ⟨10, 0, .ro, 0x0⟩]⟩ -- Table 3.19
  | .scdRcxCfg => ⟨.scd, 0x2000, 32, 256, 0, 1, [⟨31, 30, .ro, 0x0⟩, ⟨29, 28, .rw, 0x0⟩, ⟨27, 24, .rw, 0x0⟩, ⟨23, 23, .rw, 0x0⟩, ⟨22, 21, .rw, 0x0⟩, ⟨20, 20, .rw, 0x0⟩, ⟨19, 19, .rw, 0x0⟩, ⟨18, 18, .rw, 0x0⟩, ⟨9, 0, .rw, 0x0⟩]⟩ -- Table 4.7
  | .scdRcxBuf => ⟨.scd, 0x2004, 32, 256, 0, 1, [⟨17, 0, .rw, 0x0⟩]⟩ -- Table 4.7
  | .scdRcxLen => ⟨.scd, 0x2008, 32, 256, 0, 1, [⟨31, 20, .rw, 0x0⟩, ⟨17, 0, .rw, 0x0⟩]⟩ -- Table 4.7
  | .scdRcxOwn => ⟨.scd, 0x200C, 32, 256, 0, 1, [⟨31, 16, .rw, 0x0⟩, ⟨9, 0, .rw, 0x0⟩]⟩ -- Table 4.7
  | .scdRcxSig => ⟨.scd, 0x2010, 32, 256, 0, 1, [⟨9, 9, .rw, 0x0⟩, ⟨8, 0, .rw, 0x0⟩]⟩ -- Table 4.7
  | .scdRcxLocal => ⟨.scd, 0x2014, 32, 256, 0, 1, [⟨31, 0, .rw, 0x0⟩]⟩ -- Table 4.7
  | .scdRcxProg => ⟨.scd, 0x2018, 32, 256, 0, 1, [⟨31, 21, .ro, 0x0⟩, ⟨17, 0, .ro, 0x0⟩]⟩ -- Table 4.7
  | .scdRcxCmd => ⟨.scd, 0x201C, 32, 256, 0, 1, [⟨31, 31, .wo, 0x0⟩, ⟨30, 30, .wo, 0x0⟩, ⟨7, 0, .ro, 0x0⟩]⟩ -- Table 4.7
  | .scdCombctl => ⟨.scd, 0x200, 0, 1, 0, 1, [⟨1, 1, .rw, 0x1⟩, ⟨0, 0, .rw, 0x1⟩]⟩ -- Table 4.10
  | .scdCombrd => ⟨.scd, 0x204, 0, 1, 0, 1, [⟨31, 0, .ro, 0x0⟩]⟩ -- Table 4.10
  | .scdCombat => ⟨.scd, 0x208, 0, 1, 0, 1, [⟨31, 0, .ro, 0x0⟩]⟩ -- Table 4.10
  | .scdCombfull => ⟨.scd, 0x20C, 0, 1, 0, 1, [⟨31, 0, .ro, 0x0⟩]⟩ -- Table 4.10
  | .scdRcxdrop => ⟨.scd, 0x210, 0, 1, 0, 1, [⟨31, 0, .ro, 0x0⟩]⟩ -- Table 4.10
  | .scdEngerr => ⟨.scd, 0x300, 0, 1, 0, 1, [⟨31, 24, .ro, 0x0⟩, ⟨23, 19, .ro, 0x0⟩, ⟨15, 0, .ro, 0x0⟩]⟩ -- Table 5.15
  | .scdEngerrChord => ⟨.scd, 0x304, 0, 1, 0, 1, [⟨10, 0, .ro, 0x0⟩]⟩ -- Table 5.15
  | .scdEngfail => ⟨.scd, 0x308, 0, 1, 0, 1, [⟨31, 0, .ro, 0x0⟩]⟩ -- Table 5.15
  | .scdGterows => ⟨.scd, 0x30C, 0, 1, 0, 1, [⟨31, 0, .ro, 0x0⟩]⟩ -- Table 5.15
  | .scdGteskip => ⟨.scd, 0x310, 0, 1, 0, 1, [⟨31, 0, .ro, 0x0⟩]⟩ -- Table 5.15
  | .scdSrseedLo => ⟨.scd, 0x400, 0, 1, 0, 1, [⟨31, 0, .rw, 0x0⟩]⟩ -- Table 6.3
  | .scdSrseedHi => ⟨.scd, 0x404, 0, 1, 0, 1, [⟨31, 0, .rw, 0x0⟩]⟩ -- Table 6.3
  | .scdRalspec => ⟨.scd, 0x500, 0, 1, 0, 1, [⟨31, 0, .ro, 0x0⟩]⟩ -- Table 7.4
  | .scdRalsq => ⟨.scd, 0x504, 0, 1, 0, 1, [⟨31, 0, .ro, 0x0⟩]⟩ -- Table 7.4
  | .scdRalcmb => ⟨.scd, 0x508, 0, 1, 0, 1, [⟨31, 0, .ro, 0x0⟩]⟩ -- Table 7.4
  | .scdGteraops => ⟨.scd, 0x50C, 0, 1, 0, 1, [⟨31, 0, .ro, 0x0⟩]⟩ -- Table 7.4
  | .scdGtepfx => ⟨.scd, 0x510, 0, 1, 0, 1, [⟨31, 0, .ro, 0x0⟩]⟩ -- Table 7.4
  | .scdGtepsq => ⟨.scd, 0x514, 0, 1, 0, 1, [⟨31, 0, .ro, 0x0⟩]⟩ -- Table 7.4
  | .scdRaclr => ⟨.scd, 0x518, 0, 1, 0, 1, [⟨0, 0, .wo, 0x0⟩]⟩ -- Table 7.4
  | .ctlNearmap => ⟨.one, 0x100, 0, 1, 0, 1, [⟨23, 8, .ro, 0x5FF⟩, ⟨7, 0, .ro, 0x0⟩]⟩ -- Table 8.3
  | .midDronectl => ⟨.mid, 0x200, 0, 1, 0, 1, [⟨0, 0, .rw, 0x1⟩]⟩ -- Table 8.5
  | .midDronece => ⟨.mid, 0x204, 0, 1, 0, 1, [⟨31, 0, .ro, 0x0⟩]⟩ -- Table 8.5
  | .midDroneue => ⟨.mid, 0x208, 0, 1, 0, 1, [⟨31, 0, .ro, 0x0⟩]⟩ -- Table 8.5
  | .midDronepass => ⟨.mid, 0x20C, 0, 1, 0, 1, [⟨31, 0, .ro, 0x0⟩]⟩ -- Table 8.5
  | .midDronepos => ⟨.mid, 0x210, 0, 1, 0, 1, [⟨31, 30, .ro, 0x0⟩, ⟨12, 0, .ro, 0x0⟩]⟩ -- Table 8.5
  | .scdActr => ⟨.scd, 0x4000, 8, 512, 0, 1, [⟨31, 0, .rw, 0x0⟩]⟩ -- Table 9.3
  | .scdActrcfg => ⟨.scd, 0x4004, 8, 512, 0, 1, [⟨11, 11, .rw, 0x0⟩, ⟨10, 10, .rw, 0x0⟩, ⟨9, 0, .rw, 0x0⟩]⟩ -- Table 9.3
  | .scdRthold => ⟨.scd, 0x610, 0, 1, 0, 1, [⟨31, 0, .ro, 0x0⟩]⟩ -- Table 9.3
  | .scdScinvLo => ⟨.scd, 0x600, 0, 1, 0, 1, [⟨31, 7, .rw, 0x0⟩]⟩ -- Table 9.4
  | .scdScinvHi => ⟨.scd, 0x604, 0, 1, 0, 1, [⟨24, 0, .rw, 0x0⟩]⟩ -- Table 9.4
  | .scdScinvLen => ⟨.scd, 0x608, 0, 1, 0, 1, [⟨23, 0, .rw, 0x1⟩]⟩ -- Table 9.4
  | .scdScinvCmd => ⟨.scd, 0x60C, 0, 1, 0, 1, [⟨31, 31, .wo, 0x0⟩, ⟨30, 30, .ro, 0x0⟩]⟩ -- Table 9.4
  | .dirAgent => ⟨.scd, 0x5000, 4, 32, 0, 1, [⟨31, 31, .rw, 0x0⟩, ⟨30, 30, .w1c, 0x0⟩, ⟨9, 0, .rw, 0x0⟩]⟩ -- Table 10.6
  | .dirOcc => ⟨.scd, 0x5080, 0, 1, 0, 1, [⟨19, 0, .ro, 0x0⟩]⟩ -- Table 10.6
  | .dirEvict => ⟨.scd, 0x5084, 0, 1, 0, 1, [⟨31, 0, .ro, 0x0⟩]⟩ -- Table 10.6
  | .dirBcast => ⟨.scd, 0x5088, 0, 1, 0, 1, [⟨31, 0, .ro, 0x0⟩]⟩ -- Table 10.6
  | .dirPush => ⟨.scd, 0x508C, 0, 1, 0, 1, [⟨31, 0, .ro, 0x0⟩]⟩ -- Table 10.6
  | .dirSustain => ⟨.scd, 0x5090, 0, 1, 0, 1, [⟨31, 0, .ro, 0x0⟩]⟩ -- Table 10.6
  | .dirEnginv => ⟨.scd, 0x5094, 0, 1, 0, 1, [⟨31, 0, .ro, 0x0⟩]⟩ -- Table 10.6
  | .dirHolddrop => ⟨.scd, 0x5098, 0, 1, 0, 1, [⟨31, 0, .ro, 0x0⟩]⟩ -- Table 10.6
  | .dirProbeLo => ⟨.scd, 0x50A0, 0, 1, 0, 1, [⟨31, 7, .rw, 0x0⟩]⟩ -- Table 10.6
  | .dirProbeHi => ⟨.scd, 0x50A4, 0, 1, 0, 1, [⟨8, 0, .rw, 0x0⟩]⟩ -- Table 10.6
  | .dirProbeElo => ⟨.scd, 0x50A8, 0, 1, 0, 1, [⟨31, 0, .ro, 0x0⟩]⟩ -- Table 10.6
  | .dirProbeEhi => ⟨.scd, 0x50AC, 0, 1, 0, 1, [⟨31, 0, .ro, 0x0⟩]⟩ -- Table 10.6
  | .dirSwLo => ⟨.scd, 0x5100, 16, 16, 0, 1, [⟨31, 12, .rw, 0x0⟩]⟩ -- Table 10.6
  | .dirSwHi => ⟨.scd, 0x5104, 16, 16, 0, 1, [⟨8, 0, .rw, 0x0⟩]⟩ -- Table 10.6
  | .dirSwLen => ⟨.scd, 0x5108, 16, 16, 0, 1, [⟨23, 0, .rw, 0x1⟩]⟩ -- Table 10.6
  | .dirSwCfg => ⟨.scd, 0x510C, 16, 16, 0, 1, [⟨31, 31, .rw, 0x0⟩, ⟨4, 0, .rw, 0x0⟩]⟩ -- Table 10.6
  | .lmtCfg => ⟨.one, 0x600000, 0, 1, 0, 1, [⟨15, 0, .rw, 0xB482⟩]⟩ -- Table 11.8
  | .lmtIpcfg => ⟨.one, 0x600004, 0, 1, 0, 1, [⟨23, 16, .rw, 0x40⟩, ⟨5, 0, .rw, 0x10⟩]⟩ -- Table 11.8
  | .lmtTmo => ⟨.one, 0x600008, 0, 1, 0, 1, [⟨31, 16, .rw, 0x400⟩, ⟨15, 0, .rw, 0x40⟩]⟩ -- Table 11.8
  | .lmtSelf => ⟨.one, 0x60000C, 0, 1, 0, 1, [⟨15, 0, .rw, 0x0⟩]⟩ -- Table 11.8
  | .lmtRgCfg => ⟨.one, 0x600010, 0, 1, 0, 1, [⟨31, 31, .rw, 0x1⟩, ⟨26, 24, .rw, 0x4⟩, ⟨23, 20, .rw, 0x4⟩, ⟨19, 12, .rw, 0x10⟩, ⟨6, 0, .rw, 0x40⟩]⟩ -- Table 11.8
  | .lmtRgMin => ⟨.one, 0x600014, 0, 1, 0, 1, [⟨15, 0, .rw, 0xA⟩]⟩ -- Table 11.8
  | .lmtIpvalid => ⟨.one, 0x600018, 0, 1, 0, 1, [⟨15, 0, .rw, 0x0⟩]⟩ -- Table 11.8
  | .lmtIpaddr => ⟨.one, 0x600100, 16, 16, 4, 4, [⟨31, 0, .rw, 0x0⟩]⟩ -- Table 11.8
  | .lmtProle => ⟨.one, 0x600200, 4, 40, 0, 1, [⟨31, 0, .rw, 0x0⟩]⟩ -- Table 11.8
  | .lmtBadhdr => ⟨.one, 0x600300, 0, 1, 0, 1, [⟨31, 0, .ro, 0x0⟩]⟩ -- Table 11.8
  | .lmtTagdrop => ⟨.one, 0x600304, 0, 1, 0, 1, [⟨31, 0, .ro, 0x0⟩]⟩ -- Table 11.8
  | .lmtLate => ⟨.one, 0x600308, 0, 1, 0, 1, [⟨31, 0, .ro, 0x0⟩]⟩ -- Table 11.8
  | .lmtTmocnt => ⟨.one, 0x60030C, 0, 1, 0, 1, [⟨31, 0, .ro, 0x0⟩]⟩ -- Table 11.8
  | .lmtEcerx => ⟨.one, 0x600310, 0, 1, 0, 1, [⟨31, 0, .ro, 0x0⟩]⟩ -- Table 11.8
  | .lmtRoleref => ⟨.one, 0x600314, 0, 1, 0, 1, [⟨31, 0, .ro, 0x0⟩]⟩ -- Table 11.8
  | .qosDscpmap => ⟨.one, 0x700000, 4, 8, 0, 1, [⟨23, 0, .rw, 0xFFFFFF⟩]⟩ -- Table 12.5
  | .qosPcpmap => ⟨.one, 0x700020, 0, 1, 0, 1, [⟨26, 24, .rw, 0x7⟩, ⟨23, 0, .rw, 0xFFFFFF⟩]⟩ -- Table 12.5
  | .qosRqprof => ⟨.one, 0x700040, 4, 8, 0, 1, [⟨5, 0, .rw, 0x0⟩]⟩ -- Table 12.5
  | .qosQprofA => ⟨.one, 0x700100, 8, 64, 0, 1, [⟨16, 0, .rw, 0x40⟩]⟩ -- Table 12.5
  | .qosQprofB => ⟨.one, 0x700104, 8, 64, 0, 1, [⟨20, 17, .rw, 0x4⟩, ⟨16, 0, .rw, 0x200⟩]⟩ -- Table 12.5
  | .qosMirA => ⟨.one, 0x700400, 8, 16, 0, 1, [⟨31, 31, .rw, 0x0⟩, ⟨30, 30, .rw, 0x0⟩, ⟨25, 16, .rw, 0x0⟩, ⟨15, 8, .rw, 0xFF⟩, ⟨4, 0, .rw, 0x0⟩]⟩ -- Table 12.5
  | .qosMirCnt => ⟨.one, 0x700404, 8, 16, 0, 1, [⟨31, 0, .ro, 0x0⟩]⟩ -- Table 12.5
  | .qosSmpBaseLo => ⟨.one, 0x700500, 0, 1, 0, 1, [⟨31, 7, .rw, 0x0⟩]⟩ -- Table 12.5
  | .qosSmpBaseHi => ⟨.one, 0x700504, 0, 1, 0, 1, [⟨24, 0, .rw, 0x0⟩]⟩ -- Table 12.5
  | .qosSmpSize => ⟨.one, 0x700508, 0, 1, 0, 1, [⟨4, 0, .rw, 0x4⟩]⟩ -- Table 12.5
  | .qosSmpHead => ⟨.one, 0x70050C, 0, 1, 0, 1, [⟨31, 0, .ro, 0x0⟩]⟩ -- Table 12.5
  | .qosSmpTail => ⟨.one, 0x700510, 0, 1, 0, 1, [⟨31, 0, .rw, 0x0⟩]⟩ -- Table 12.5
  | .qosDropbuf => ⟨.one, 0x700600, 0, 1, 0, 1, [⟨31, 0, .ro, 0x0⟩]⟩ -- Table 12.5
  | .qosDropmet => ⟨.one, 0x700604, 0, 1, 0, 1, [⟨31, 0, .ro, 0x0⟩]⟩ -- Table 12.5
  | .qosMarkecn => ⟨.one, 0x700608, 0, 1, 0, 1, [⟨31, 0, .ro, 0x0⟩]⟩ -- Table 12.5
  | .qosMarkmet => ⟨.one, 0x70060C, 0, 1, 0, 1, [⟨31, 0, .ro, 0x0⟩]⟩ -- Table 12.5
  | .qosSmpdrop => ⟨.one, 0x700610, 0, 1, 0, 1, [⟨31, 0, .ro, 0x0⟩]⟩ -- Table 12.5
  | .qosPortcfg => ⟨.one, 0x701000, 4, 640, 0, 1, [⟨31, 28, .rw, 0x1⟩, ⟨27, 22, .rw, 0x0⟩, ⟨21, 16, .rw, 0x0⟩, ⟨9, 0, .rw, 0x0⟩]⟩ -- Table 12.5
  | .qosPortstat => ⟨.one, 0x703000, 4, 640, 0, 1, [⟨17, 17, .ro, 0x0⟩, ⟨16, 0, .ro, 0x0⟩]⟩ -- Table 12.5
  | .qosMetsel => ⟨.one, 0x704000, 32, 640, 4, 8, [⟨31, 31, .rw, 0x0⟩, ⟨12, 0, .rw, 0x0⟩]⟩ -- Table 12.5
  | .qosMetCir => ⟨.one, 0x710000, 16, 8192, 0, 1, [⟨15, 0, .rw, 0xFFFF⟩]⟩ -- Table 12.5
  | .qosMetPir => ⟨.one, 0x710004, 16, 8192, 0, 1, [⟨15, 0, .rw, 0xFFFF⟩]⟩ -- Table 12.5
  | .qosMetBurst => ⟨.one, 0x710008, 16, 8192, 0, 1, [⟨31, 16, .rw, 0xFFFF⟩, ⟨15, 0, .rw, 0xFFFF⟩]⟩ -- Table 12.5
  | .qosMetCtl => ⟨.one, 0x71000C, 16, 8192, 0, 1, [⟨1, 1, .rw, 0x0⟩, ⟨0, 0, .rw, 0x0⟩]⟩ -- Table 12.5
  | .qosSubA => ⟨.one, 0x740000, 16, 16384, 0, 1, [⟨31, 31, .rw, 0x0⟩, ⟨21, 12, .rw, 0x0⟩, ⟨11, 0, .rw, 0x0⟩]⟩ -- Table 12.5
  | .qosSubB => ⟨.one, 0x740004, 16, 16384, 0, 1, [⟨31, 24, .rw, 0x1⟩, ⟨23, 0, .rw, 0xFAC688⟩]⟩ -- Table 12.5
  | .qosSubShr => ⟨.one, 0x740008, 16, 16384, 0, 1, [⟨15, 0, .rw, 0x0⟩]⟩ -- Table 12.5
  | .qosSubShb => ⟨.one, 0x74000C, 16, 16384, 0, 1, [⟨19, 0, .rw, 0x100⟩]⟩ -- Table 12.5
  | .qosSvcCfg => ⟨.one, 0x800000, 128, 16384, 16, 8, [⟨16, 14, .rw, 0x0⟩, ⟨13, 6, .rw, 0x1⟩, ⟨5, 0, .rw, 0x0⟩]⟩ -- Table 12.5
  | .qosSvcShr => ⟨.one, 0x800004, 128, 16384, 16, 8, [⟨15, 0, .rw, 0x0⟩]⟩ -- Table 12.5
  | .qosSvcShb => ⟨.one, 0x800008, 128, 16384, 16, 8, [⟨19, 0, .rw, 0x100⟩]⟩ -- Table 12.5
  | .qosSvcStat => ⟨.one, 0x80000C, 128, 16384, 16, 8, [⟨16, 0, .ro, 0x0⟩]⟩ -- Table 12.5
  | .laneOctcfg => ⟨.lane, 0x0, 4, 4, 0, 1, [⟨31, 31, .rw, 0x0⟩, ⟨2, 2, .rw, 0x0⟩, ⟨1, 0, .rw, 0x0⟩]⟩ -- Table 13.7
  | .laneLane => ⟨.lane, 0x100, 4, 32, 0, 1, [⟨31, 31, .ro, 0x0⟩, ⟨30, 30, .ro, 0x0⟩, ⟨29, 29, .ro, 0x0⟩, ⟨28, 28, .ro, 0x0⟩, ⟨15, 0, .ro, 0x0⟩]⟩ -- Table 13.7
  | .laneSpare => ⟨.lane, 0x200, 4, 4, 0, 1, [⟨31, 31, .ro, 0x0⟩, ⟨30, 30, .ro, 0x0⟩, ⟨4, 0, .ro, 0x0⟩]⟩ -- Table 13.7
  | .laneSwapcfg => ⟨.lane, 0x300, 0, 1, 0, 1, [⟨31, 31, .rw, 0x1⟩, ⟨15, 0, .rw, 0x1000⟩]⟩ -- Table 13.7
  | .pheLsrctl => ⟨.lane, 0x400, 0, 1, 0, 1, [⟨31, 31, .rw, 0x0⟩, ⟨30, 30, .ro, 0x0⟩, ⟨29, 29, .w1c, 0x0⟩]⟩ -- Table 13.7
  | .lanePrxfrm => ⟨.lane, 0x1000, 32, 32, 0, 1, [⟨31, 0, .ro, 0x0⟩]⟩ -- Table 13.7
  | .lanePrxfcs => ⟨.lane, 0x1004, 32, 32, 0, 1, [⟨31, 0, .ro, 0x0⟩]⟩ -- Table 13.7
  | .lanePfecunc => ⟨.lane, 0x1008, 32, 32, 0, 1, [⟨31, 0, .ro, 0x0⟩]⟩ -- Table 13.7
  | .lanePfeccor => ⟨.lane, 0x100C, 32, 32, 0, 1, [⟨31, 0, .ro, 0x0⟩]⟩ -- Table 13.7
  | .lanePtxfrm => ⟨.lane, 0x1010, 32, 32, 0, 1, [⟨31, 0, .ro, 0x0⟩]⟩ -- Table 13.7
  | .lanePtxdown => ⟨.lane, 0x1014, 32, 32, 0, 1, [⟨31, 0, .ro, 0x0⟩]⟩ -- Table 13.7
  | .lanePlinkdn => ⟨.lane, 0x1018, 32, 32, 0, 1, [⟨31, 0, .ro, 0x0⟩]⟩ -- Table 13.7
  | .lanePstat => ⟨.lane, 0x101C, 32, 32, 0, 1, [⟨31, 31, .ro, 0x0⟩, ⟨30, 30, .ro, 0x0⟩]⟩ -- Table 13.7
  | .ctlStraps => ⟨.one, 0x104, 0, 1, 0, 1, [⟨3, 3, .ro, 0x0⟩, ⟨2, 1, .ro, 0x0⟩, ⟨0, 0, .ro, 0x0⟩]⟩ -- Table 13.8
  | .ctlMgmt => ⟨.one, 0x108, 0, 1, 0, 1, [⟨31, 31, .ro, 0x0⟩, ⟨30, 30, .ro, 0x0⟩, ⟨1, 1, .rw, 0x0⟩, ⟨0, 0, .rw, 0x0⟩]⟩ -- Table 13.8
  | .lmtTenpol => ⟨.one, 0x601000, 4, 1024, 0, 1, [⟨2, 2, .rw, 0x0⟩, ⟨1, 1, .rw, 0x0⟩, ⟨0, 0, .rw, 0x0⟩]⟩ -- Table 14.7
  | .lmtRetdrop => ⟨.one, 0x600318, 0, 1, 0, 1, [⟨31, 0, .ro, 0x0⟩]⟩ -- Table 14.7
  | .lmtCmprx => ⟨.one, 0x60031C, 0, 1, 0, 1, [⟨31, 0, .ro, 0x0⟩]⟩ -- Table 14.7
  | .scdDcxmap => ⟨.scd, 0x700, 0, 1, 0, 1, [⟨31, 0, .ro, 0x0⟩]⟩ -- Table 14.7
  | .scdDcspill => ⟨.scd, 0x704, 0, 1, 0, 1, [⟨31, 0, .ro, 0x0⟩]⟩ -- Table 14.7
  | .scdDcquant => ⟨.scd, 0x708, 0, 1, 0, 1, [⟨31, 0, .ro, 0x0⟩]⟩ -- Table 14.7
  | .scdDcrawtx => ⟨.scd, 0x70C, 0, 1, 0, 1, [⟨31, 0, .ro, 0x0⟩]⟩ -- Table 14.7
  | .secTen => ⟨.one, 0x400000, 4, 1024, 0, 1, [⟨31, 30, .ro, 0x0⟩, ⟨15, 0, .ro, 0x0⟩]⟩ -- Table 15.13
  | .secKslot => ⟨.one, 0x401000, 4, 4096, 0, 1, [⟨31, 29, .ro, 0x0⟩, ⟨23, 0, .ro, 0x0⟩]⟩ -- Table 15.13
  | .secBootstat => ⟨.one, 0x405000, 0, 1, 0, 1, [⟨31, 31, .ro, 0x0⟩, ⟨30, 30, .ro, 0x0⟩, ⟨19, 16, .ro, 0x0⟩, ⟨15, 8, .ro, 0x0⟩]⟩ -- Table 15.13
  | .secGrantocc => ⟨.one, 0x405004, 0, 1, 0, 1, [⟨16, 0, .ro, 0x0⟩]⟩ -- Table 15.13
  | .secScrub => ⟨.one, 0x405008, 0, 1, 0, 1, [⟨31, 0, .ro, 0x0⟩]⟩ -- Table 15.13
  | .secBind => ⟨.one, 0x410000, 4, 65536, 0, 1, [⟨31, 31, .rw, 0x0⟩, ⟨30, 30, .rw, 0x0⟩, ⟨29, 20, .rw, 0x0⟩, ⟨19, 10, .rw, 0x0⟩]⟩ -- Table 15.13
  | .fabSerialLo => ⟨.one, 0x500000, 0, 1, 0, 1, [⟨31, 0, .ro, 0x0⟩]⟩ -- Table 16.7
  | .fabSerialHi => ⟨.one, 0x500004, 0, 1, 0, 1, [⟨31, 0, .ro, 0x0⟩]⟩ -- Table 16.7
  | .fabIndex => ⟨.one, 0x500008, 0, 1, 0, 1, [⟨31, 30, .ro, 0x0⟩, ⟨11, 0, .ro, 0x0⟩]⟩ -- Table 16.7
  | .fabEpoch => ⟨.one, 0x50000C, 0, 1, 0, 1, [⟨31, 16, .ro, 0x0⟩, ⟨15, 0, .ro, 0x0⟩]⟩ -- Table 16.7
  | .fabMapstat => ⟨.one, 0x500010, 0, 1, 0, 1, [⟨31, 31, .ro, 0x0⟩, ⟨30, 30, .ro, 0x0⟩, ⟨29, 29, .ro, 0x1⟩, ⟨28, 27, .ro, 0x0⟩, ⟨15, 0, .ro, 0x0⟩]⟩ -- Table 16.7
  | .fabCapoLo => ⟨.one, 0x500014, 0, 1, 0, 1, [⟨31, 0, .ro, 0x0⟩]⟩ -- Table 16.7
  | .fabCapoHi => ⟨.one, 0x500018, 0, 1, 0, 1, [⟨31, 0, .ro, 0x0⟩]⟩ -- Table 16.7
  | .fabCouncil => ⟨.one, 0x50001C, 0, 1, 0, 1, [⟨10, 8, .ro, 0x7⟩, ⟨7, 5, .ro, 0x7⟩, ⟨4, 0, .ro, 0x0⟩]⟩ -- Table 16.7
  | .fabCfg => ⟨.one, 0x500020, 0, 1, 0, 1, [⟨31, 24, .rw, 0x20⟩, ⟨15, 0, .rw, 0xB483⟩]⟩ -- Table 16.7
  | .fabStalecnt => ⟨.one, 0x500030, 0, 1, 0, 1, [⟨31, 0, .ro, 0x0⟩]⟩ -- Table 16.7
  | .fabVconfcnt => ⟨.one, 0x500034, 0, 1, 0, 1, [⟨31, 0, .ro, 0x0⟩]⟩ -- Table 16.7
  | .fabHorevcnt => ⟨.one, 0x500038, 0, 1, 0, 1, [⟨31, 0, .ro, 0x0⟩]⟩ -- Table 16.7
  | .fabMsgdrop => ⟨.one, 0x50003C, 0, 1, 0, 1, [⟨31, 0, .ro, 0x0⟩]⟩ -- Table 16.7
  | .fabHowinLo => ⟨.one, 0x500100, 16, 8, 0, 1, [⟨31, 12, .rw, 0x0⟩]⟩ -- Table 16.7
  | .fabHowinHi => ⟨.one, 0x500104, 16, 8, 0, 1, [⟨8, 0, .rw, 0x0⟩]⟩ -- Table 16.7
  | .fabHowinLen => ⟨.one, 0x500108, 16, 8, 0, 1, [⟨23, 0, .rw, 0x1⟩]⟩ -- Table 16.7
  | .fabHowinCfg => ⟨.one, 0x50010C, 16, 8, 0, 1, [⟨31, 31, .rw, 0x0⟩]⟩ -- Table 16.7
  | .ctlWdtcfg => ⟨.one, 0x1000, 0, 1, 0, 1, [⟨15, 0, .rw, 0x400⟩]⟩ -- Table 17.10
  | .ctlDberr => ⟨.one, 0x1040, 0, 1, 0, 1, [⟨31, 0, .ro, 0x0⟩]⟩ -- Table 17.10
  | .ctlWdtstat => ⟨.one, 0x1100, 4, 21, 0, 1, [⟨31, 31, .ro, 0x0⟩, ⟨30, 30, .ro, 0x0⟩, ⟨7, 0, .ro, 0x0⟩]⟩ -- Table 17.10
  | .ctlLogBaseLo => ⟨.one, 0x1200, 0, 1, 0, 1, [⟨31, 7, .rw, 0x1804000⟩]⟩ -- Table 17.10
  | .ctlLogBaseHi => ⟨.one, 0x1204, 0, 1, 0, 1, [⟨24, 0, .rw, 0x17F⟩]⟩ -- Table 17.10
  | .ctlLogSize => ⟨.one, 0x1208, 0, 1, 0, 1, [⟨4, 0, .rw, 0xA⟩]⟩ -- Table 17.10
  | .ctlLogHead => ⟨.one, 0x120C, 0, 1, 0, 1, [⟨31, 0, .ro, 0x0⟩]⟩ -- Table 17.10
  | .ctlLogTail => ⟨.one, 0x1210, 0, 1, 0, 1, [⟨31, 0, .rw, 0x0⟩]⟩ -- Table 17.10
  | .ctlLogCfg => ⟨.one, 0x1214, 0, 1, 0, 1, [⟨31, 16, .rw, 0xFFFF⟩, ⟨1, 0, .rw, 0x2⟩]⟩ -- Table 17.10
  | .ctlLogDrop => ⟨.one, 0x1218, 0, 1, 0, 1, [⟨31, 0, .ro, 0x0⟩]⟩ -- Table 17.10
  | .ctlFwstat => ⟨.one, 0x1300, 4, 7, 0, 1, [⟨31, 29, .ro, 0x0⟩, ⟨28, 28, .ro, 0x0⟩]⟩ -- Table 17.10
  | .ctlBringup => ⟨.one, 0x1400, 0, 1, 0, 1, [⟨31, 31, .ro, 0x0⟩, ⟨30, 30, .ro, 0x0⟩, ⟨29, 29, .ro, 0x0⟩, ⟨25, 24, .ro, 0x0⟩, ⟨23, 16, .ro, 0x0⟩, ⟨7, 0, .ro, 0x0⟩]⟩ -- Table 18.12
  | .ctlStrec => ⟨.one, 0x1404, 0, 1, 0, 1, [⟨31, 30, .ro, 0x3⟩, ⟨27, 0, .ro, 0xFFFFFFF⟩]⟩ -- Table 18.12
  | .ctlScdout => ⟨.one, 0x1408, 0, 1, 0, 1, [⟨31, 0, .ro, 0x0⟩]⟩ -- Table 18.12
  | .ctlStkout => ⟨.one, 0x140C, 0, 1, 0, 1, [⟨25, 24, .ro, 0x0⟩, ⟨23, 0, .ro, 0x0⟩]⟩ -- Table 18.12
  | .ctlEmerg => ⟨.one, 0x1410, 0, 1, 0, 1, [⟨31, 30, .ro, 0x0⟩, ⟨29, 29, .rw, 0x0⟩, ⟨28, 28, .ro, 0x0⟩, ⟨27, 27, .ro, 0x0⟩, ⟨7, 0, .ro, 0x0⟩]⟩ -- Table 18.12
  | .ctlTemp => ⟨.one, 0x1414, 0, 1, 0, 1, [⟨31, 24, .ro, 0x0⟩, ⟨23, 16, .ro, 0x0⟩, ⟨15, 0, .ro, 0x0⟩]⟩ -- Table 18.12
  | .ctlPwrreq => ⟨.one, 0x1418, 0, 1, 0, 1, [⟨1, 0, .wo, 0x0⟩]⟩ -- Table 18.12
  | .ctlAlert => ⟨.one, 0x141C, 0, 1, 0, 1, [⟨5, 5, .w1c, 0x0⟩, ⟨4, 4, .w1c, 0x0⟩, ⟨3, 3, .w1c, 0x0⟩, ⟨2, 2, .w1c, 0x0⟩, ⟨1, 1, .w1c, 0x0⟩, ⟨0, 0, .w1c, 0x0⟩]⟩ -- Table 18.12
  | .ctlEvtBaseLo => ⟨.one, 0x1500, 0, 1, 0, 1, [⟨31, 7, .rw, 0x1806000⟩]⟩ -- Table 19.6
  | .ctlEvtBaseHi => ⟨.one, 0x1504, 0, 1, 0, 1, [⟨24, 0, .rw, 0x17F⟩]⟩ -- Table 19.6
  | .ctlEvtSize => ⟨.one, 0x1508, 0, 1, 0, 1, [⟨4, 0, .rw, 0xA⟩]⟩ -- Table 19.6
  | .ctlEvtHead => ⟨.one, 0x150C, 0, 1, 0, 1, [⟨31, 0, .ro, 0x0⟩]⟩ -- Table 19.6
  | .ctlEvtTail => ⟨.one, 0x1510, 0, 1, 0, 1, [⟨31, 0, .rw, 0x0⟩]⟩ -- Table 19.6
  | .ctlEvtDrop => ⟨.one, 0x1514, 0, 1, 0, 1, [⟨31, 0, .ro, 0x0⟩]⟩ -- Table 19.6
  | .scdEccce => ⟨.scd, 0x800, 0, 1, 0, 1, [⟨31, 0, .ro, 0x0⟩]⟩ -- Table 19.6
  | .scdEccue => ⟨.scd, 0x804, 0, 1, 0, 1, [⟨31, 0, .ro, 0x0⟩]⟩ -- Table 19.6
  | .scdLnkce => ⟨.scd, 0x808, 0, 1, 0, 1, [⟨31, 0, .ro, 0x0⟩]⟩ -- Table 19.6
  | .scdLnkue => ⟨.scd, 0x80C, 0, 1, 0, 1, [⟨31, 0, .ro, 0x0⟩]⟩ -- Table 19.6
  | .scdTaint => ⟨.scd, 0x810, 0, 1, 0, 1, [⟨31, 0, .ro, 0x0⟩]⟩ -- Table 19.6
  | .midEccce => ⟨.mid, 0x300, 0, 1, 0, 1, [⟨31, 0, .ro, 0x0⟩]⟩ -- Table 19.6
  | .midEccue => ⟨.mid, 0x304, 0, 1, 0, 1, [⟨31, 0, .ro, 0x0⟩]⟩ -- Table 19.6
  | .seqOriginLo => ⟨.one, 0x10010C, 0, 1, 0, 1, [⟨31, 0, .rw, 0x0⟩]⟩ -- Table prose of 02
  | .seqOriginHi => ⟨.one, 0x100110, 0, 1, 0, 1, [⟨31, 0, .rw, 0x0⟩]⟩ -- Table prose of 02
  | .seqSlotschedAtLo => ⟨.one, 0x100204, 0, 1, 0, 1, [⟨31, 0, .rw, 0x0⟩]⟩ -- Table prose of 02
  | .seqSlotschedAtHi => ⟨.one, 0x100208, 0, 1, 0, 1, [⟨31, 0, .rw, 0x0⟩]⟩ -- Table prose of 02
  | .seqSlotentA => ⟨.one, 0x100400, 4, 64, 0, 1, [⟨15, 0, .ro, 0x0⟩]⟩ -- Table 2.5b
  | .seqLoaderrSeg => ⟨.one, 0x100504, 0, 1, 0, 1, [⟨15, 0, .ro, 0x0⟩]⟩ -- Table prose of 03

/-- Registers of the map, part 0. -/
def Reg.all0 : List Reg :=
  [.ctlId, .ctlStep, .seqStrokeLo, .seqStrokeHi, .seqAlign, .seqSlotsched, .seqSlotentS, .seqSkipctl, .seqSkipcnt, .seqSegdescA, .seqSegdescB, .seqLoaderr, .scdTile, .scdChordflt, .scdChordfltLast, .scdRcxCfg, .scdRcxBuf, .scdRcxLen, .scdRcxOwn, .scdRcxSig, .scdRcxLocal, .scdRcxProg, .scdRcxCmd, .scdCombctl, .scdCombrd]

/-- Registers of the map, part 1. -/
def Reg.all1 : List Reg :=
  [.scdCombat, .scdCombfull, .scdRcxdrop, .scdEngerr, .scdEngerrChord, .scdEngfail, .scdGterows, .scdGteskip, .scdSrseedLo, .scdSrseedHi, .scdRalspec, .scdRalsq, .scdRalcmb, .scdGteraops, .scdGtepfx, .scdGtepsq, .scdRaclr, .ctlNearmap, .midDronectl, .midDronece, .midDroneue, .midDronepass, .midDronepos, .scdActr, .scdActrcfg]

/-- Registers of the map, part 2. -/
def Reg.all2 : List Reg :=
  [.scdRthold, .scdScinvLo, .scdScinvHi, .scdScinvLen, .scdScinvCmd, .dirAgent, .dirOcc, .dirEvict, .dirBcast, .dirPush, .dirSustain, .dirEnginv, .dirHolddrop, .dirProbeLo, .dirProbeHi, .dirProbeElo, .dirProbeEhi, .dirSwLo, .dirSwHi, .dirSwLen, .dirSwCfg, .lmtCfg, .lmtIpcfg, .lmtTmo, .lmtSelf]

/-- Registers of the map, part 3. -/
def Reg.all3 : List Reg :=
  [.lmtRgCfg, .lmtRgMin, .lmtIpvalid, .lmtIpaddr, .lmtProle, .lmtBadhdr, .lmtTagdrop, .lmtLate, .lmtTmocnt, .lmtEcerx, .lmtRoleref, .qosDscpmap, .qosPcpmap, .qosRqprof, .qosQprofA, .qosQprofB, .qosMirA, .qosMirCnt, .qosSmpBaseLo, .qosSmpBaseHi, .qosSmpSize, .qosSmpHead, .qosSmpTail, .qosDropbuf, .qosDropmet]

/-- Registers of the map, part 4. -/
def Reg.all4 : List Reg :=
  [.qosMarkecn, .qosMarkmet, .qosSmpdrop, .qosPortcfg, .qosPortstat, .qosMetsel, .qosMetCir, .qosMetPir, .qosMetBurst, .qosMetCtl, .qosSubA, .qosSubB, .qosSubShr, .qosSubShb, .qosSvcCfg, .qosSvcShr, .qosSvcShb, .qosSvcStat, .laneOctcfg, .laneLane, .laneSpare, .laneSwapcfg, .pheLsrctl, .lanePrxfrm, .lanePrxfcs]

/-- Registers of the map, part 5. -/
def Reg.all5 : List Reg :=
  [.lanePfecunc, .lanePfeccor, .lanePtxfrm, .lanePtxdown, .lanePlinkdn, .lanePstat, .ctlStraps, .ctlMgmt, .lmtTenpol, .lmtRetdrop, .lmtCmprx, .scdDcxmap, .scdDcspill, .scdDcquant, .scdDcrawtx, .secTen, .secKslot, .secBootstat, .secGrantocc, .secScrub, .secBind, .fabSerialLo, .fabSerialHi, .fabIndex, .fabEpoch]

/-- Registers of the map, part 6. -/
def Reg.all6 : List Reg :=
  [.fabMapstat, .fabCapoLo, .fabCapoHi, .fabCouncil, .fabCfg, .fabStalecnt, .fabVconfcnt, .fabHorevcnt, .fabMsgdrop, .fabHowinLo, .fabHowinHi, .fabHowinLen, .fabHowinCfg, .ctlWdtcfg, .ctlDberr, .ctlWdtstat, .ctlLogBaseLo, .ctlLogBaseHi, .ctlLogSize, .ctlLogHead, .ctlLogTail, .ctlLogCfg, .ctlLogDrop, .ctlFwstat, .ctlBringup]

/-- Registers of the map, part 7. -/
def Reg.all7 : List Reg :=
  [.ctlStrec, .ctlScdout, .ctlStkout, .ctlEmerg, .ctlTemp, .ctlPwrreq, .ctlAlert, .ctlEvtBaseLo, .ctlEvtBaseHi, .ctlEvtSize, .ctlEvtHead, .ctlEvtTail, .ctlEvtDrop, .scdEccce, .scdEccue, .scdLnkce, .scdLnkue, .scdTaint, .midEccce, .midEccue, .seqOriginLo, .seqOriginHi, .seqSlotschedAtLo, .seqSlotschedAtHi, .seqSlotentA]

/-- Registers of the map, part 8. -/
def Reg.all8 : List Reg :=
  [.seqLoaderrSeg]

/-- Every register of the map. -/
def Reg.all : List Reg :=
  Reg.all0 ++ Reg.all1 ++ Reg.all2 ++ Reg.all3 ++ Reg.all4 ++ Reg.all5 ++ Reg.all6 ++ Reg.all7 ++ Reg.all8

/-- One register of one instance: the unit of its block and its two indices. -/
structure RegRef where
  reg : Reg
  unit : Nat := 0
  i : Nat := 0
  j : Nat := 0
  deriving DecidableEq, Repr

/-- The base of unit `u` of a block (Table 20.1; units 0 to 15 of `lane` are PHE0 to PHE15, 16 to 19 EIO0 to EIO3). -/
def Blk.unitBase : Blk → Nat → Nat
  | .one, _ => 0
  | .scd, u => 0x01000000 + 0x40000 * u
  | .mid, u => 0x02000000 + 0x10000 * u
  | .lane, u => if u < 16 then 0x03000000 + 0x10000 * u else 0x03800000 + 0x10000 * (u - 16)

/-- How many units a block has. -/
def Blk.units : Blk → Nat
  | .one => 1
  | .scd => 32
  | .mid => 8
  | .lane => 20

/-- The management address of a register (R579). -/
def RegRef.addr (r : RegRef) : Nat :=
  r.reg.spec.blk.unitBase r.unit + r.reg.spec.base + r.reg.spec.di * r.i + r.reg.spec.dj * r.j

/-- The block, unit and offset that an address selects; none outside the ranges of Table 20.1. -/
def blockOf (a : Nat) : Option (Blk × Nat × Nat) :=
  if a < 0x00200000 then some (.one, 0, a)
  else if 0x00400000 ≤ a ∧ a < 0x00A00000 then some (.one, 0, a)
  else if 0x01000000 ≤ a ∧ a < 0x01800000 then some (.scd, (a - 0x01000000) / 0x40000, a % 0x40000)
  else if 0x02000000 ≤ a ∧ a < 0x02080000 then some (.mid, (a - 0x02000000) / 0x10000, a % 0x10000)
  else if 0x03000000 ≤ a ∧ a < 0x03100000 then some (.lane, (a - 0x03000000) / 0x10000, a % 0x10000)
  else if 0x03800000 ≤ a ∧ a < 0x03840000 then some (.lane, 16 + (a - 0x03800000) / 0x10000, a % 0x10000)
  else none

/-- The indices (i, j) at which a layout has a register at an offset. -/
def RegSpec.indexAt (p : RegSpec) (off : Nat) : Option (Nat × Nat) :=
  if off < p.base then none
  else
    let d := off - p.base
    let i := if p.di = 0 then 0 else min (d / p.di) (p.ni - 1)
    let e := d - p.di * i
    let j := if p.dj = 0 then 0 else min (e / p.dj) (p.nj - 1)
    if e = p.dj * j then some (i, j) else none

/-- Whether a unit of the block has the register: PHE_LSRCTL exists only on a PHE, and an EIO has spares 0 and 1 only
(20_register_index.md, text of Table 20.1). -/
def RegRef.present (r : RegRef) : Bool :=
  match r.reg with
  | .pheLsrctl => decide (r.unit < 16)
  | .laneSpare => decide (r.unit < 16 ∨ r.i < 2)
  | .ctlFwstat => decide (1 ≤ r.i)
  | _ => true

/-- The register at an address, if one of the tables lays one out there (R581). -/
def RegRef.locate (a : Nat) : Option RegRef :=
  match blockOf a with
  | none => none
  | some (b, u, off) =>
    Reg.all.findSome? fun r =>
      if r.spec.blk = b then
        match r.spec.indexAt off with
        | some (i, j) =>
          let x : RegRef := ⟨r, u, i, j⟩
          if x.present then some x else none
        | none => none
      else none

/-- The bits of a register whose fields have a given access code. -/
def RegSpec.mask (p : RegSpec) (a : Access) : Nat :=
  p.fields.foldl (fun m f => if f.acc = a then m + (2 ^ (f.hi - f.lo + 1) - 1) * 2 ^ f.lo else m) 0

/-- The bits of a register that are in no named field: RSV. -/
def RegSpec.rsv (p : RegSpec) : Nat :=
  2 ^ 32 - 1 - p.mask .ro - p.mask .rw - p.mask .w1c - p.mask .wo

/-- The reset value of a register, all fields together. The parametric ones of spec/: SCD_TILE reads the SCD number,
QOS_PORTCFG.INGRP the port number, QOS_DSCPMAP[2] the map of DSCP 16 to 23. -/
def RegRef.reset (r : RegRef) : Word :=
  let v := r.reg.spec.fields.foldl (fun w f => w + f.reset * 2 ^ f.lo) 0
  match r.reg with
  | .scdTile => BitVec.ofNat 32 (v + r.unit)
  | .qosPortcfg => BitVec.ofNat 32 (v + r.i)
  | .qosDscpmap => if r.i = 2 then 0xFAC688 else BitVec.ofNat 32 v
  | _ => BitVec.ofNat 32 v

end Sys2Proof.Machine
end

