-- ==== Sys2Proof/Machine/Status.lean ====
section
/-! DEFINITION. The status codes of Table 0.4 and the orders in which one is chosen (R12, R13, R142). -/

namespace Sys2Proof.Machine

/-- A status code of Table 0.4. -/
inductive Status
  | ok | notReady | accessRevoked | keyMismatch | noGrant | staleMap | versionConflict | tenantGone | unitLost
  | mediaError | functionDisabled | deferred | timeout | unitAbsent | formatUnsupported
  deriving DecidableEq, Repr

/-- The code of a status (Table 0.4). -/
def Status.code : Status → Nat
  | .ok => 0x00
  | .notReady => 0x01
  | .accessRevoked => 0x02
  | .keyMismatch => 0x03
  | .noGrant => 0x04
  | .staleMap => 0x05
  | .versionConflict => 0x06
  | .tenantGone => 0x07
  | .unitLost => 0x08
  | .mediaError => 0x09
  | .functionDisabled => 0x0A
  | .deferred => 0x0B
  | .timeout => 0x0C
  | .unitAbsent => 0x0D
  | .formatUnsupported => 0x0E

/-- Every status, in code order. -/
def Status.all : List Status :=
  [.ok, .notReady, .accessRevoked, .keyMismatch, .noGrant, .staleMap, .versionConflict, .tenantGone, .unitLost,
   .mediaError, .functionDisabled, .deferred, .timeout, .unitAbsent, .formatUnsupported]

/-- The status of a code; none for 0x0F to 0xFF, which are not codes of the table (R10). -/
def Status.ofCode (n : Nat) : Option Status := Status.all.find? (fun s => s.code = n)

/-- The order of R12: the place of an admission status, lowest first. -/
def Status.admissionOrder : List Status :=
  [.notReady, .tenantGone, .functionDisabled, .noGrant, .accessRevoked, .keyMismatch, .staleMap, .unitAbsent,
   .formatUnsupported, .versionConflict]

/-- The order of R13: execution outcomes. -/
def Status.executionOrder : List Status := [.tenantGone, .functionDisabled, .unitLost, .mediaError, .timeout]

/-- The order of R142: statuses of GTE and MOV operations. -/
def Status.engineOrder : List Status :=
  [.tenantGone, .functionDisabled, .noGrant, .accessRevoked, .formatUnsupported, .unitLost, .mediaError, .timeout]

/-- The first status of an order that is among those that apply; OK when none applies. -/
def Status.first (order applies : List Status) : Status := (order.find? (fun s => applies.contains s)).getD .ok

end Sys2Proof.Machine
end

