-- ==== Sys2Proof/Machine/State.lean ====
section
/-! DEFINITION. The state of the block, as plain data, and the state after reset. INVENTORY.md lists every piece with the
rule of spec/ that names it. -/

namespace Sys2Proof.Machine

/-- Reasons for which a run stops with a fault. No command raises one: every event of spec/ has an effect or is
discarded, so `exec` never answers a fault (safe). -/
inductive Fault
  /-- no command raises it (safe) -/
  | unreachable
  deriving DecidableEq, Repr

/-- Reasons for which the model gives a command no meaning. -/
inductive Refusal
  /-- raised by an arm of `exec` whose command is not modelled; none is left (safe) -/
  | notModelled (mnemonic : String)
  /-- raised by a chord row whose slot carries a field value that Tables 3.3 to 3.13 call reserved or not accepted: the
  loader refuses every segment with such a slot (R98), so no chord of the device carries it (safe) -/
  | reservedSlot (mnemonic : String)
  /-- raised by a row whose operand lies outside the range the spec gives the item it names (safe) -/
  | reservedOperand (mnemonic : String)
  deriving DecidableEq, Repr

/-! ### Requests -/

/-- Kinds of contribution line (Table 11.6). -/
inductive RedKind
  | dense | sparse | done
  deriving DecidableEq, Repr

/-- Atomic sub-operations (Table 11.5). -/
inductive AtomicOp
  | fadd | fand | for_ | fxor | fmins | fmaxs | fminu | fmaxu | swap | cas | faddf
  deriving DecidableEq, Repr

/-- What a line request asks of its home request lane (Tables 11.4, 10.3). -/
inductive ReqKind
  | load | store | pstore | put | get | publish | retr
  | atomic (op : AtomicOp)
  | red (kind : RedKind)
  | rdS | rdX | upg | wb | wbKeep
  | pushData | ack | ackWbpend | stashAck | stashNak
  deriving DecidableEq, Repr

/-- One line request. -/
structure Req where
  kind : ReqKind
  r : LineReq
  deriving DecidableEq, Repr

/-- A request waiting in a request queue (R359): when it was enqueued (absolute cy) and the cells it holds. -/
structure QReq where
  req : Req
  at_ : Nat
  cells : Nat
  deriving DecidableEq, Repr

/-- An extent descriptor (Table 8.7) with its state (Table 8.8 encoding). -/
structure Extent where
  vbase : Nat
  len : Nat
  form : Nat
  store : Nat
  ovfk : Nat
  st : Nat
  target : Nat
  aux : Nat
  port : Nat
  baseid : Nat
  trayIp : BitVec 128
  deriving DecidableEq, Repr

/-- The path of Table 2.7 that a dequeued request takes; `follower` is that of a combined request (R137), and `refusal` also
stands for an answer without an access (a discarded WB). -/
inductive Path
  | refusal | follower | hit | near | atomic | posted | tray | cold | scratch | coherent | slot
  deriving DecidableEq, Repr

/-- What a dequeued request keeps until it is answered, through holding, entry lookup and transactions. -/
structure Carry where
  /-- it holds a combining-table entry (R134) -/
  entry : Bool
  /-- dequeue cy from which its combining window counts (Table 4.9) -/
  t0 : Nat
  /-- its place in dequeue order (R308) -/
  place : Nat
  /-- the last line of its frame to be dequeued (Table 9.2) -/
  ends : Bool
  deriving DecidableEq, Repr

/-- A request between its dequeue and its response (R64): number, home SCD, request, dequeue cy, cy on which its response
is built, path, grant entry passed (R462), status so far, data so far, whether it holds a combining entry, the combining
followers (request, returned operand prefix), the stack-cache line to fill, shadow address served. -/
structure LaneOp where
  id : Nat
  k : Scd
  req : Req
  p : Nat
  due : Nat
  path : Path
  grant : Option Nat
  status : Status
  data : List Byte
  carry : Carry
  /-- the line (address / 128) to fill into the stack cache on the response cy, and its bytes (R245) -/
  fill : Option (Nat × List Byte)
  /-- near-tier address served in place of the request's own (far-cached shadow, R253) -/
  eff : Nat
  /-- the bank access met a refresh window (R238) -/
  refresh : Bool
  /-- followers in dequeue order, with the grant entry each passed and its dequeue cy (R136, R137) -/
  followers : List (Req × Option Nat × Nat)
  /-- the extent that serves a tray or Cold request, as its dequeue found it (R250) -/
  ext : Option (Nat × Extent)
  /-- a tray, the FTL or a snoop transaction decides when this response is built (R352, R264, R312) -/
  waits : Bool
  /-- absolute cy on which its line begins its bank access or scratchpad read (R277); 0 when it reads none -/
  readAt : Nat
  deriving DecidableEq, Repr

/-- A lane write on its way to its bank (R276, R587): number, SCD, dequeue cy, cy on which it reaches the bank, bytes. -/
structure WBuf where
  id : Nat
  k : Scd
  p : Nat
  due : Nat
  /-- tenant and epoch the write carries, for the check point of Table 15.11 at the HBM4 stage -/
  tenant : Tenant
  epoch : BitVec 16
  stage : Nat
  /-- agent to which the line is stashed once it has committed (R317) -/
  stash : Option (BitVec 5)
  /-- arrival counter that the write advances once it is performed: cy, SCD, counter, amount (Table 9.2) -/
  counter : Option (Nat × Scd × BitVec 9 × Nat)
  writes : List (Nat × Byte)
  deriving DecidableEq, Repr

/-- Why the device forwarded a request to a tray (R352, R252, R255, R266). -/
inductive FwdKind
  /-- lane operation number -/
  | request (op : Nat)
  /-- fill of page p of extent x -/
  | fill (x p : Nat)
  /-- write-back of page p of extent x -/
  | flush (x p : Nat)
  /-- frame or page of a flash translation layer operation -/
  | ftl (op part : Nat)
  /-- FL_ERASE of a block, FL_IDENT (R354) -/
  | flashErase (block : Nat)
  | flashIdent
  /-- access of an engine operation: the 64-byte unit it reads, or a sector it writes (R141) -/
  | engine (op unit : Nat) (write : Bool)
  deriving DecidableEq, Repr

/-- A forward that awaits its tray response (R349). -/
structure Fwd where
  id : Nat
  /-- tenant and OPID of the frame, which its response carries (R329) -/
  tenant : Tenant
  opid : Word
  kind : FwdKind
  stroke : Nat
  port : Port
  pieces : Nat
  /-- tenant whose memory key protects the data on the tray (Table 14.1) -/
  owner : Tenant := 0
  deriving DecidableEq, Repr

/-- A request held for a busy line (R308): home SCD, request, its place in dequeue order. -/
structure Held where
  k : Scd
  req : Req
  place : Nat
  line : Nat
  released : Bool
  /-- absolute cy on which BUSY cleared: the request may re-enter on a later chord -/
  since : Nat := 0
  deriving DecidableEq, Repr

/-! ### Coherence -/

/-- Line states (Table 10.1, encodings of Table 10.2). -/
inductive LineSt
  | i | s | e | o | m
  deriving DecidableEq, Repr

/-- A directory entry (Table 10.2): its way, state and holders. The set follows from the line (R297), and BUSY from the
transactions in progress. -/
structure DirEntry where
  way : Nat
  st : LineSt
  bcast : Bool
  /-- owner in E, M and O (PTR0) -/
  owner : Option (BitVec 5)
  /-- recorded sharers, at most four pointers with the owner (R298) -/
  sharers : List (BitVec 5)
  deriving DecidableEq, Repr

/-- What a transaction of a busy line is for (R301, R302, R310, R312, R313, R317, R564). -/
inductive TxnKind
  | readS | readX | upgrade
  /-- a WB or WB_KEEP of the owner in M -/
  | writeBack (keep : Bool)
  /-- a class-2 load whose response a lane operation holds -/
  | load (op : Nat)
  /-- a class-2 write or atomic that starts its path when the line is in I -/
  | write
  | evict
  | stash
  /-- orphan handling before the request takes its path (R564); a broadcast without a request has none -/
  | orphan
  deriving DecidableEq, Repr

/-- A snoop or stash sent and not answered (R303, R317, R318). -/
structure Snoop where
  agent : BitVec 5
  opid : Word
  /-- opcode of the frame: SNP_PUSH, SNP_INV, SNP_DROP or STASH -/
  opc : Nat
  /-- absolute cys on which it is built, and handed to the crossbar (R306) -/
  built : Nat
  hand : Nat
  /-- absolute cy on which the processing of its reply ends, once the reply has been dequeued (Table 10.5) -/
  until_ : Option Nat
  deriving DecidableEq, Repr

/-- A push-to-home in progress (Table 10.5): the cy on which it ends, its bytes, the WB it answers, and the agent. -/
structure Push where
  ends : Nat
  bytes : List Byte
  wb : Option Req
  agent : BitVec 5
  deriving DecidableEq, Repr

/-- A transaction on a busy line: what it serves, the replies it awaits, and the home read or push in progress. -/
structure Txn where
  id : Nat
  k : Scd
  line : Nat
  kind : TxnKind
  /-- the request it serves, if one waits -/
  req : Option Req
  /-- grant entry that the request passed (R462) -/
  grantIx : Option Nat
  /-- the requesting agent -/
  agent : Option (BitVec 5)
  /-- tenant and epoch that its snoops carry: those of the request that caused it -/
  cause : Tenant × BitVec 16
  carry : Carry
  /-- cy on which its path starts -/
  start : Nat
  snoops : List Snoop
  /-- agents whose WB is awaited after ACK_WBPEND (R305) -/
  wbpend : List (BitVec 5)
  /-- agents whose WB it has taken -/
  wbGot : List (BitVec 5)
  /-- begin of the bank access and end of the home read in progress -/
  readAt : Option Nat
  readEnd : Option Nat
  /-- data a home read or a push brought -/
  data : Option (List Byte)
  /-- the request needs data -/
  need : Bool
  pushes : List Push
  /-- a push has brought the data -/
  pushed : Bool
  /-- an engine write overtook the awaited push (R316) -/
  overtaken : Bool
  /-- last cy on which a reply, read or push ended -/
  ready : Nat
  /-- agents found failed or removed while it ran: they hold I (R318) -/
  gone : List (BitVec 5)
  /-- statuses met -/
  met : List Status
  /-- the entry when the transaction began -/
  before : DirEntry
  deriving DecidableEq, Repr

/-- What the entry lookup that ends on cy 8 of a request decides (Table 10.5). -/
inductive LookupKind
  /-- RD_S, RD_X, UPG -/
  | request
  | writeBack
  /-- a class-2 write of a held line (R313) -/
  | write
  /-- a class-2 load of a line in E or M, with its lane operation (R312) -/
  | load (op : Nat)
  /-- a request of an orphaned line (R564) -/
  | orphan
  deriving DecidableEq, Repr

/-- A request between its dequeue and the end of its entry lookup (R303): its line, the grant entry it passed, its dequeue
cy, and what it carries. -/
structure Lookup where
  kind : LookupKind
  line : Nat
  req : Req
  grant : Option Nat
  p : Nat
  carry : Carry
  deriving DecidableEq, Repr

/-! ### Engines -/

/-- Engine operations (Tables 5.6 and 5.12). -/
inductive EngKind
  | gidx | glin | gpage | gbag | mcopy | msend | mred | mdone
  deriving DecidableEq, Repr

/-- A GTE or MOV operation between issue and completion (R140 to R144, R589). -/
structure EngOp where
  id : Nat
  k : Scd
  kind : EngKind
  /-- true for the GTE, false for the MOV -/
  gte : Bool
  gf : GteF
  mf : MovF
  /-- scalar operands S[XREG] and S[YREG], index register and bitmap, as read on the issue cy -/
  sx : Dword
  sy : Dword
  xidx : Vec
  bm : Vec
  /-- fret entries of the running segment, source and destination -/
  src : BitVec 128
  dst : BitVec 128
  issue : Nat
  /-- cy on which it takes its engine (R589), or from which a hold lets it proceed (R273) -/
  start : Nat
  occ : Nat
  seg : SegNo
  chord : Nat
  tenant : Tenant
  epoch : BitVec 16
  /-- it has begun: nothing holds or delays it any more -/
  begun : Bool
  /-- completion cy, once it has begun with every delay fixed -/
  due : Option Nat
  /-- ranges registered with the tracker (R272): reads and writes, as (first byte, length) -/
  reads : List (Nat × Nat)
  writes : List (Nat × Nat)
  /-- operations that hold it (R273), by number -/
  holders : List Nat
  carried : Bool
  /-- run-ahead applies to it (R159, R141, R589) -/
  ahead : Bool
  /-- V[BMV] is still to be read, 16 cy after it begins (R159, R273) -/
  bmLater : Bool
  /-- where each row or sector is read from; none for an access that meets NO_GRANT (R151, R157, R176) -/
  rows : List (Option Nat)
  /-- lines of the run-ahead prefix that were sent (R222) -/
  prefix_ : List Nat
  /-- bytes captured so far, by 64-byte unit: 2 × line number + half -/
  got : SMap (List Byte)
  /-- lines that met a status, by line number -/
  bad : SMap Status
  /-- statuses met by the operation as a whole (R142) -/
  met : List Status
  /-- ranges of its destination that met a status and stay unwritten, as (first byte, length) -/
  missed : List (Nat × Nat)
  /-- accesses of a not-fixed delay that are still open (R141), and whether its lines have all been issued -/
  left : Nat
  issued : Bool
  /-- grant entries on which it is counted in INFLIGHT (R462) -/
  grants : List Nat
  /-- its destination sectors are on their way (R279) -/
  landed : Bool
  /-- send descriptor as read on its start cy (R179) -/
  desc : List Byte
  deriving DecidableEq, Repr

/-- A distance-array query (R161, R166): dimension, format, the values of the elements loaded so far. -/
structure DxaQuery where
  dim : Nat
  fmt : Nat
  /-- element values by index, block scales applied -/
  elems : SMap Num
  /-- running Σ q² as FP32, INT32 or INT64 encoding (R164) -/
  sumSq : Nat
  deriving DecidableEq, Repr

/-- One accumulator tile of a distance array (R162): elements streamed, sums Σ q·r per query and slot, Σ r² per slot. -/
structure DxaTile where
  cursor : Nat
  /-- format of the rows streamed -/
  fmt : Nat
  /-- key 128·query + slot -/
  dot : SMap Nat
  sqr : SMap Nat
  deriving DecidableEq, Repr

/-- A rank state (R171): (value encoding, identifier) pairs, best first, with the k, direction and format of its merges. -/
structure RankSt where
  pairs : List (BitVec 32 × BitVec 32)
  dir : Bool
  fmt : BitVec 4
  deriving DecidableEq, Repr

/-- How an FLU operation writes its selection bits (Table 5.3). -/
inductive FluMode
  | set | and | or | zero
  deriving DecidableEq, Repr

/-- A result on its way to its destination: what lands on the cy that the operation's latency gives (R80, R76). -/
inductive Landing
  /-- bits of a vector register: those of the mask take the value -/
  | vec (k : Scd) (r : BitVec 6) (mask val : Vec)
  | sca (k : Scd) (r : BitVec 6) (val : Dword)
  | prd (k : Scd) (r : BitVec 4) (val : Mask)
  | idx (k : Scd) (r : BitVec 5) (val : Vec)
  /-- RACC and its kind: the accumulation itself is done on landing, on the register as it stands (R76) -/
  | flu (k : Scd) (r : BitVec 6) (mode : FluMode) (mask val : Vec)
  /-- DQLD: array, query number, dimension, format, elements (R166 is judged on landing) -/
  | query (k : Scd) (array : BitVec 2) (q dim fmt : Nat) (elems : List (Nat × Num))
  /-- DSCORE: array, tile, row elements in stream order (`none` contributes zero), format, whether a group of R168 was bad,
  issue cy, dimension and queries of the array on the issue cy (R80) -/
  | score (k : Scd) (array acc : BitVec 2) (elems : List (Option Num)) (fmt : Nat) (bad : Bool) (cy : Nat) (dim : Option Nat)
      (queries : List (Nat × DxaQuery))
  | tileClr (k : Scd) (array acc : BitVec 2)
  | merge (k : Scd) (st : BitVec 2) (cands : List (BitVec 32 × BitVec 32)) (keep : Nat) (dir : Bool) (fmt : BitVec 4)
  | rankClr (k : Scd) (st : BitVec 2)
  /-- an STA store: scratchpad bytes -/
  | store (writes : List (Nat × Byte))
  deriving DecidableEq, Repr

/-! ### Segments -/

/-- Segment states (Table 3.14); EMPTY is a descriptor that holds no segment. -/
inductive SegSt
  | verifying | ready | disabled
  deriving DecidableEq, Repr

/-- A segment image as the SEQs hold it (R95, R96): number, tenant, chords, fret sections, digest. -/
structure Image where
  no : SegNo
  tenant : Tenant
  len : Nat
  fretN : Nat
  /-- 128-byte chord words, chord 0 first -/
  chords : List (BitVec 1024)
  fret32 : List (BitVec 128)
  fret31 : Option (List (BitVec 128))
  digest : BitVec 384
  deriving DecidableEq, Repr

/-- A loaded segment: its image, state, whether a replacement waits, and the tenant epoch it was bound under (R103). -/
structure Segment where
  image : Image
  st : SegSt
  pendRepl : Bool
  epoch : BitVec 16
  /-- an accepted unload awaits its boundary (R102) -/
  unloading : Bool
  deriving DecidableEq, Repr

/-! ### Frames -/

/-- An LMT message the device sends (Table 11.2): the fields of its header, its extension and its payload in the clear;
`enc` and `cmp` say how the payload is carried. -/
structure Lmt where
  opc : Nat
  rsp : Bool
  status : Status
  cls : Nat
  tenant : Tenant
  tepoch : BitVec 16
  mepoch : BitVec 16
  reqid : BitVec 16
  rkey : Word
  opid : Word
  fidx : Nat
  nfrm : Nat
  addr : Nat
  ctr : BitVec 16
  hint : BitVec 16
  arg : Word
  ext : List Byte
  data : List Byte
  enc : Bool
  cmp : Bool
  ece : Bool
  deriving DecidableEq, Repr

/-- What a frame carries. -/
inductive Body
  | lmt (m : Lmt)
  /-- a switched frame, bytes as they arrived -/
  | plain (bytes : List Byte)
  /-- a fabric-protocol message: TYPE and header with payload (Table 16.2) -/
  | fabric (type : Nat) (m : FabMsg)
  /-- an answer to ARP or a Neighbor Solicitation for an address (R322, R399) -/
  | neighbor (ip : BitVec 128)
  deriving DecidableEq, Repr

/-- A frame waiting for or in egress: port, class, bytes under R68, body, destination, the tenant whose epoch is checked at
egress start (Table 15.11), the lane operation behind a tray forward, CE mark. -/
structure Frame where
  port : Port
  cls : Nat
  size : Nat
  body : Body
  dest : BitVec 128
  src : BitVec 128
  udp : BitVec 16
  v4 : Bool
  vlan : Option (BitVec 16)
  tenant : Option (Tenant × BitVec 16)
  fwd : Option Nat
  /-- hierarchy key of R360; none for the planned queue -/
  key : Option Nat
  /-- input port of a switched frame, 0x3FF for a frame the device built -/
  inPort : Port
  ce : Bool
  yellow : Bool
  enq : Nat
  /-- DSCP, hop limit or TTL and UDP source port of an LMT frame (R323); a frame of another body has them in its bytes -/
  dscp : BitVec 6 := 0
  hop : Byte := 0
  sport : BitVec 16 := 0
  /-- colour its meter gave a switched frame: 0 green, 1 yellow, 2 red, 3 not metered -/
  colour : Nat := 3
  /-- flow of a governed frame, whose NEXT its egress start sets (R345) -/
  flow : Option Nat := none
  deriving DecidableEq, Repr

/-- A record of the model's own: a frame whose egress started, when, and its bytes as they left (assumption 11). -/
structure Sent where
  at_ : Nat
  frame : Frame
  bytes : List Byte
  /-- lost in transmission because its port went down (R393) -/
  lost : Bool
  deriving DecidableEq, Repr

/-- A command taken and not complete: its ring entry with opcode (R508, R509). -/
structure Running where
  q : BitVec 4
  cmdid : Word
  opcode : Nat
  fence : Bool
  deriving DecidableEq, Repr

/-! ### Tables of the memory tiers, security and fabric -/

/-- A fill, flush or eviction of a far-cached extent in progress (R252, R255, R257): the command that waits for it, the
pages still to read from or write to the tray, the pages awaiting the tray's answer. -/
structure TierJob where
  x : Nat
  /-- 0 fill, 1 flush, 2 evict -/
  kind : Nat
  cmd : Option Running
  todo : List Nat
  out : List Nat
  status : Status
  /-- pages to fetch again once a flush is over, because a stack that held them was lost (Table 8.8) -/
  refetch : List Nat := []
  /-- the EXT_EVICT that goes on when this fill is over: its eviction was interrupted by the loss of a stack (Table 8.8) -/
  resume : Option Running := none
  deriving DecidableEq, Repr

/-- An operation held or worked on by the flash translation layer (R264 to R269). -/
structure FtlOp where
  id : Nat
  /-- the lane operation it answers -/
  op : Nat
  off : Nat
  write : Bool
  data : List Byte
  len : Nat
  /-- tray whose free blocks it waits for -/
  heldFor : Option Nat
  stroke : Nat
  /-- tray to which its unit goes, and the flash byte address there, once it has been given pages -/
  tray : Nat := 0
  at_ : Option Nat := none
  /-- 64-byte unit of the engine read that it answers -/
  unit : Nat := 0
  /-- relocation of its unit (R268) -/
  move : Bool := false
  /-- FL_READ frames and FL_PROG operations not answered yet, and what the reads brought, by frame (R354) -/
  reads : Nat := 0
  progs : Nat := 0
  parts : SMap (List Byte) := []
  /-- the journal record of its mapping is on flash (R266) -/
  journalled : Bool := false
  deriving DecidableEq, Repr

/-- A flash tray: the geometry that FL_IDENT returned (Table 11.7), the block being programmed with its next page, blocks programmed and
not erased since, blocks whose erase is on its way, erase counts and reads since the last erase, by block (R270). -/
structure FlashTray where
  pagesz : Nat
  ppb : Nat
  blocks : Nat
  raw : Nat
  ratedReads : Nat
  ratedPe : Nat
  open_ : Option (Nat × Nat)
  used : List Nat
  erasing : List Nat
  erases : SMap Nat
  reads : SMap Nat
  deriving DecidableEq, Repr

/-- A delta base (R420): tenant, format, address, blocks. -/
structure Base where
  tenant : Tenant
  fmt : Nat
  addr : Nat
  blocks : Nat
  deriving DecidableEq, Repr

/-- Tenant states (Table 15.5). -/
inductive TenSt
  | free | active | retiring
  deriving DecidableEq, Repr

/-- A tenant: state, epoch, key server hash. -/
structure TenantRec where
  st : TenSt
  epoch : BitVec 16
  kshash : BitVec 384
  deriving DecidableEq, Repr

/-- Key slot states (Table 15.7). -/
inductive SlotSt
  | empty | loaded | suspended | retiring | scrubbing
  deriving DecidableEq, Repr

/-- A key slot: state, key, operations that use it (R468), the sampled drain count, how many samples in a row read zero and
from which stroke they count, role 3 key in the spare. -/
structure KeySlot where
  st : SlotSt
  key : List Byte
  role : Nat
  sample : Nat
  zeros : Nat
  fromStroke : Nat
  /-- it retires because of a TENANT_REMOVE, not of a KEY_ROTATE -/
  removal : Bool
  deriving DecidableEq, Repr

/-- Grant entry states (Table 15.10). -/
inductive GrantSt
  | free | zeroing | active | revoking | scrubbing
  deriving DecidableEq, Repr

/-- A grant entry (Table 15.8). -/
structure Grant where
  base : Nat
  len : Nat
  tenant : Tenant
  reqid : BitVec 16
  reqmask : BitVec 16
  rights : BitVec 8
  st : GrantSt
  rkey : Word
  inflight : Nat
  /-- the stroke in which its revoke (R493), its zero-fill or its scrub (R465) began, and the GRANT_REVOKE commands that
  complete when it leaves REVOKING (R492) -/
  revokeAt : Nat
  revokers : List Running
  deriving DecidableEq, Repr

/-- An SPDM session (R443, R446, R451): the key hash its requester proved, and whether it received fresh measurements. -/
structure Session where
  kshash : BitVec 384
  fresh : Option Tenant
  deriving DecidableEq, Repr

/-- Device record of the map (Table 16.3). -/
structure MapDev where
  serial : Dword
  stage : Nat
  lost : Bool
  ip : BitVec 128
  deriving DecidableEq, Repr

/-- Member record of the map (Table 16.3). -/
structure MapMem where
  reqid : BitVec 16
  dev : BitVec 16
  port : BitVec 16
  tenant : BitVec 16
  comp : Word
  role : Nat
  lost : Bool
  deriving DecidableEq, Repr

/-- Composition record of the map (Table 16.3). -/
structure MapComp where
  comp : Word
  tenant : BitVec 16
  down : Bool
  deriving DecidableEq, Repr

/-- A map image (Table 16.3). -/
structure MapImage where
  epoch : BitVec 16
  capo : Nat
  council : List Dword
  devs : List MapDev
  mems : List MapMem
  comps : List MapComp
  deriving DecidableEq, Repr

/-- A proposal or committed change (R478, R480): epoch, capo point, changed records as carried, whether it is in force. -/
structure MapChange where
  epoch : BitVec 16
  capo : Nat
  image : MapImage
  /-- a whole copy of the map rather than changed records -/
  full : Bool
  deriving DecidableEq, Repr

/-- A ring pair (R505, R511): log2 of its entries, command and completion ring addresses, CDB, CHEAD, PDB, CTAIL. -/
structure Ring where
  n : Nat
  cring : Nat
  pring : Nat
  cdb : Nat
  chead : Nat
  pdb : Nat
  ctail : Nat
  deriving DecidableEq, Repr

/-- Firmware of one image TYPE (R516 to R522): state of Table 17.7, images by digest and version. -/
structure FwType where
  /-- 0 NONE, 1 STAGED, 2 PENDING, 3 ACTIVATING, 4 TRIAL -/
  st : Nat
  /-- the staged or trial image is the boot image (SCOMMIT) -/
  scommit : Bool
  staged : Option (BitVec 384 × Nat)
  running : BitVec 384 × Nat
  boot : BitVec 384 × Nat
  /-- the FW_ACTIVATE whose last completion is to come, and whether it has had its DEFERRED one -/
  waiting : Option Running
  /-- stroke by which the last core starts on the new image, while ACTIVATING (R519) -/
  doneAt : Option Nat
  /-- stroke from which a deferred activation may start (R516) -/
  retryAt : Option Nat
  deriving DecidableEq, Repr

/-- An event record latched and not yet written (R575, R576). -/
structure EvRec where
  stroke : Nat
  cy : Nat
  code : Nat
  sev : Nat
  kind : Nat
  unit : Nat
  seqno : Nat
  status : Nat
  args : List Nat
  deriving DecidableEq, Repr

/-- A change latched for cy 0 of a stroke (R46, R47). -/
inductive Due
  /-- the register at a management address acts on the value that was written -/
  | act (addr : Nat) (v : Word)
  | slotSchedule
  | ctxOpen (k : Scd) (i : BitVec 8)
  | ctxReopen (k : Scd) (i : BitVec 8)
  | agentWrite (k : Scd) (i : BitVec 5) (v : Word)
  | extApply (x : Nat) (d : Extent)
  | extState (x st : Nat)
  | baseApply (b : Nat) (v : Option Base)
  | octet (u : Nat) (o : Nat) (v : Word)
  | mapping (addr : Nat) (v : Word)
  | tenantCreate (t : Tenant) (hash : BitVec 384)
  | tenantRemove (t : Tenant)
  | tenantReset (t : Tenant)
  | keyRotate (t : Tenant)
  | grantSet (g : Nat) (e : Grant)
  | grantRevoke (g : Nat)
  | capo
  | segReady (no : SegNo)
  | segReplace (img : Image)
  | segRemove (no : SegNo)
  | segDisable (no : SegNo)
  | resetWarm
  | resetScd (k : Scd)
  /-- the substitute of a lost SCD takes over its homes (R571) -/
  | substitute (k : Scd)
  /-- the ports of a lost SCD go to its substitute and the 31-tile layout runs (R571) -/
  | remap (k : Scd)
  /-- lines homed on a returning SCD are recalled (R540), and it returns -/
  | handback (k : Scd)
  | scdReturn (k : Scd)
  | power (level : Nat)
  | shutdown
  deriving DecidableEq, Repr

/-- Events whose cy the spec fixes, waiting for the clock. -/
inductive Timed
  | land (x : Landing)
  /-- a lane write reaches its bank -/
  | bank (id : Nat)
  /-- an arrival counter advances -/
  | count (k : Scd) (c : BitVec 9) (n : Nat)
  /-- a response is built -/
  | respond (k : Scd) (op : Nat)
  /-- a line request reaches a request queue -/
  | enqueue (k : Scd) (req : Req) (yellow : Bool)
  /-- an engine operation completes -/
  | engine (k : Scd) (op : Nat)
  /-- V[BMV] of a run-ahead gather is read -/
  | bitmap (k : Scd) (op : Nat)
  | snoop (k : Scd) (txn : Nat) (agent : BitVec 5)
  | homeEnd (k : Scd) (txn : Nat)
  /-- a read meets a run of bytes in memory: single-bit errors in it are corrected (R561) -/
  | meet (a n : Nat)
  /-- the entry lookup of a request ends (Table 10.5) -/
  | lookup (k : Scd) (x : Lookup)
  /-- a request that waited for replies of agents starts its own path, with the grant entry it passed (R313, R564) -/
  | restart (k : Scd) (req : Req) (grant : Option Nat) (carry : Carry)
  /-- an SNP_DROP is handed to the crossbar, late under R306 or not -/
  | drop (k : Scd) (f : Frame) (late : Bool)
  /-- a tray request is built, or a request is handed to CTL-B (Table 2.7) -/
  | forward (k : Scd) (op : Nat)
  /-- a frame reaches the queues of its egress SCD -/
  | frame (f : Frame)
  /-- the lines of an engine operation have been read and its destination sectors begin to appear (R279) -/
  | tile (k : Scd) (op : Nat)
  /-- a sector of a data tile appears in memory -/
  | sector (k : Scd) (op : Nat) (writes : List (Nat × Byte))
  /-- a page-table gather has read its page table (R157) -/
  | pages (k : Scd) (op : Nat)
  /-- an engine operation that carried occupancy delayed takes its engine (R589) -/
  | takeEngine (k : Scd) (op : Nat)
  /-- a group of four lines of an engine operation is issued (R221) -/
  | engLine (k : Scd) (op group : Nat)
  /-- a page of a shadow is read and sent back once its bank is out of refresh (R237, R255) -/
  | pageRead (x p : Nat)
  /-- bytes that a tray returned for a page of a shadow are written once its bank is out of refresh (R237, R252) -/
  | pageFill (x p addr pieces : Nat) (data : List Byte)
  /-- every page of a flush has been acknowledged (R256) -/
  | flushDone (x : Nat)
  /-- an allocation-mask atomic is performed: record address, slot, taken or freed (R261) -/
  | maskBit (rec_ k : Nat) (taken : Bool)
  /-- a line of an engine operation is read -/
  | capture (k : Scd) (op line : Nat)
  /-- PPS_OUT falls, 1 ms after it rose (R408) -/
  | ppsLow
  /-- an operation of the flash translation layer goes on (R264, R269) -/
  | ftlGo (id : Nat)
  /-- a frame has been parsed (R347: 40 cy after it reached its SCD) -/
  | parse (p : Port) (f : RxFrame)
  /-- the HEARTBEAT of a device that has never been heard is missing: a council member, or a worker (R483) -/
  | unheard (worker : Bool)
  /-- a tray's answer reaches the home SCD of its request over the crossbar -/
  | tray (r : TrayResp)
  deriving DecidableEq, Repr

/-! ### The groups of the state -/

/-- The clock and the sequencers. -/
structure TimeSt where
  stroke : Nat
  cy : Nat
  /-- segment run by the current stroke (R54); 0 is the service-only segment -/
  running : SegNo
  /-- no chord issues in the current stroke (R61) -/
  skipped : Bool
  /-- decision of the turnaround for the next stroke (R60) -/
  nextSkipped : Bool
  /-- last resynchronization stroke of a SEQ failover (R30) -/
  resyncUntil : Option Nat
  /-- last service-only stroke after an SCD loss (R571) -/
  remapUntil : Option Nat
  /-- activation stroke of the armed slot schedule (R56, R57) -/
  slotAt : Option Nat
  ptp : Dword
  /-- alignment has been reached since bring-up (R51) -/
  aligned : Bool
  deriving DecidableEq, Repr

/-- The SCDs' register files and internal state. Maps are keyed by SCD × count + register number. -/
structure ScdSt where
  v : SMap Vec
  s : SMap Dword
  p : SMap Mask
  x : SMap Vec
  /-- generator of stochastic rounding (R198) -/
  gen : SMap Dword
  /-- key 32·SCD + 8·array + query -/
  queries : SMap DxaQuery
  /-- key 16·SCD + 4·array + tile -/
  tiles : SMap DxaTile
  /-- key 4·SCD + state -/
  ranks : SMap RankSt
  tainted : BitVec 32
  /-- SCDs that wrote a chord-fault record this stroke (R85) -/
  reported : BitVec 32
  /-- arrival counters, key 512·SCD + counter (R281) -/
  ctr : SMap Word
  /-- tile that each SCD runs, and the layout installed (R104) -/
  layout31 : Bool
  deriving DecidableEq, Repr

/-- A queued stack-cache invalidation (R178, R289): SCD, first line, lines, the stroke whose maintenance window applies it, and
whether the invalidation registers queued it, so that PEND shows it. -/
structure Inval where
  k : Scd
  first : Nat
  lines : Nat
  stroke : Nat
  byReg : Bool
  deriving DecidableEq, Repr

/-- Memory of the device (Machine/Ops.lean gives its views). -/
structure MemSt where
  /-- near tier and scratchpads by global address; an unlisted byte is 0 (assumption 4) -/
  bytes : SMap Byte
  wbuf : List WBuf
  /-- stack-cache lines by line number (address / 128) -/
  scache : SMap (BitVec 1024)
  /-- uncorrectable 32-bit words by word number (address / 4) -/
  uncorr : SMap Bool
  /-- words whose stored code word has one wrong bit, by word number: the bit, 0 to 38 (R561) -/
  soft : SMap Nat
  /-- SRAM words corrected on read since the stroke began, in order (R561) -/
  rewrite : List Nat
  /-- queued stack-cache invalidations -/
  inval : List Inval
  deriving DecidableEq, Repr

/-- The request lanes. -/
structure LaneSt where
  /-- request queues, key 8·SCD + class -/
  queues : SMap (List QReq)
  ops : List LaneOp
  nextId : Nat
  held : List Held
  fwd : List Fwd
  deriving DecidableEq, Repr

/-- The coherence directory. -/
structure CohSt where
  /-- entries by line number -/
  entries : SMap DirEntry
  txns : List Txn
  /-- (line, agent, end of its sustain window) -/
  sustain : List (Nat × BitVec 5 × Nat)
  /-- the last return path of each port from which a coherence request came (assumption 18) -/
  from_ : SMap RetPath
  /-- lines orphaned one by one (R562), and SCDs all of whose lines are orphaned until they take an entry (R571) -/
  orphans : List Nat
  lostHomes : List Scd
  taken : List Nat
  deriving DecidableEq, Repr

/-- One reduction context beyond its registers (R124): contributors done, declared total, opening stroke while it is OPEN,
the lane operation of the line that completes it. -/
structure CtxSt where
  done : List Nat
  declared : Nat
  opened : Option Nat
  completing : Option Nat
  deriving DecidableEq, Repr

/-- The engines. -/
structure EngSt where
  ops : List EngOp
  /-- end of the occupancy of each engine, key 2·SCD + (0 GTE, 1 MOV) -/
  busy : SMap Nat
  deriving DecidableEq, Repr

/-- The memory tiers. -/
structure TierSt where
  ext : SMap Extent
  /-- dirty bits by near-tier page number (R254) -/
  dirty : SMap Bool
  jobs : List TierJob
  /-- Cold contents by FTL byte offset; unlisted bytes read 0 (R265) -/
  cold : SMap Byte
  /-- units written and not discarded, with the count of the journal record of each mapping (R266) -/
  mapped : SMap Nat
  journal : Nat
  /-- flash trays by port (R354), and where each unit lies: port and flash byte address -/
  trays : SMap FlashTray
  located : SMap (Nat × Nat)
  /-- unit being relocated (R268) -/
  moving : List Nat
  /-- trays whose foreground writes are held (R269) -/
  starved : List Port
  collecting : List Port
  ftl : List FtlOp
  bases : SMap Base
  /-- extent commands that wait for their extent, in command order: extent, command, opcode (R257) -/
  waiting : List (Nat × Cmd × Nat)
  /-- extent-table entries that hold an uncorrectable word until firmware rewrites them (Table 19.1): SCD, index -/
  bad : List (Nat × Nat)
  /-- configured cold capacity, bytes (R232) -/
  coldCap : Nat
  deriving DecidableEq, Repr

/-- A flow of the rate governor (R343), with the rate RMAX of the port on which it last sent. -/
structure Flow where
  step : Nat
  acks : Nat
  marks : Nat
  hold : Nat
  quiet : Nat
  next : Nat
  rmax : Nat
  deriving DecidableEq, Repr

/-- Queues, schedulers, meters, mirrors, governor. -/
structure NetSt where
  /-- planned queue per port -/
  planned : SMap (List Frame)
  /-- default node queues, key 8·port + class -/
  node : SMap (List Frame)
  /-- service queues, key 8·subscriber + service -/
  svc : SMap (List Frame)
  /-- cy until which each transmitter is busy -/
  busy : SMap Nat
  /-- shaper tokens, key 9·subscriber + (0 subscriber, 1 + v service v), as signed integers -/
  tokens : SMap Int
  /-- meter buckets Tc and Pc per SCD and meter, key 8,192·SCD + meter; unlisted ones are full -/
  meters : SMap (Int × Int)
  /-- deficit of each node of a port: key 16,385·port + (0 default node, 1 + s subscriber) -/
  deficit : SMap Nat
  svcDeficit : SMap Nat
  /-- the current node of each port's ring, and the current service of each subscriber -/
  ring : SMap Nat
  svcRing : SMap Nat
  /-- frames counted per mirror session (R382) -/
  mirror : SMap Nat
  /-- samples waiting for the ring: SCD, header and frame bytes -/
  samples : List (Nat × List Byte)
  /-- changes of mapping that a port still waits for, by the cys on which they took effect, oldest first: hierarchy frames enqueued
  earlier must leave before those enqueued after it (R364) -/
  barrier : SMap (List Nat)
  /-- governor flows: STEP, ACKS, MARKS, HOLD, QUIET, NEXT (R343) -/
  flows : SMap Flow
  /-- governed frames in the pacing stage, with their flow -/
  pacing : List (Nat × Frame)
  /-- flows of governed requests, by 2^32 × tenant + OPID (R344) -/
  governed : SMap Nat
  /-- OPID count per tenant (R417) -/
  opid : SMap Nat
  wire : List Sent
  deriving DecidableEq, Repr

/-- A spare that retrains for a failed lane (R396): die unit, spare, lane, the first stroke on which it may carry traffic,
the port. -/
structure Retrain where
  unit : Nat
  spare : Nat
  lane : Nat
  from_ : Nat
  port : Nat
  /-- the stroke in which the link partner relocked -/
  relock : Option Nat := none
  deriving DecidableEq, Repr

/-- The test pins (Table 13.4): inputs as the board connections hold them when nothing drives them, and whether the TAP is in
Shift-DR or Shift-IR. -/
structure TestPins where
  tck : Bool
  tms : Bool
  tdi : Bool
  trstN : Bool
  shift : Bool
  deriving DecidableEq, Repr

/-- Lanes, ports and pins. -/
structure LanesSt where
  /-- ports up (R393) -/
  up : SMap Bool
  /-- the stroke in which each port that went down did so, until its loss is reported (R483) -/
  downAt : SMap Nat
  /-- spares that retrain or wait for the link partner to relock -/
  retrain : List Retrain
  frstN : Bool
  pwrGood : Bool
  lsrFltN : BitVec 16
  straps : BitVec 4
  /-- management ports that stay down until the next power-on reset (R400): bit 0 M0, bit 1 M1 -/
  mgmtHeld : BitVec 2
  test : TestPins
  /-- PPS_OUT level and the PTP second of its last pulse -/
  ppsOut : Bool
  ppsSecond : Dword
  thermTripN : Bool
  i3cAddr : Option (BitVec 7)
  /-- register addressed by the last private write (R559) -/
  i3cReg : Option Nat
  deriving DecidableEq, Repr

/-- A key pair. -/
structure KeyPair where
  priv : List Byte
  pub : List Byte
  deriving DecidableEq, Repr

/-- The identity of one algorithm: DeviceID keys and the certificates above the alias (root, intermediate, DeviceID), made at
manufacture, and the alias keys and certificate of this boot (R442, Table 15.3). -/
structure Identity where
  device : KeyPair
  chain : List (List Byte)
  alias_ : KeyPair
  aliasCert : List Byte
  deriving DecidableEq, Repr

/-- A part of which spec/ gives no key or certificate (assumption 96). -/
def Identity.blank : Identity := { device := ⟨[], []⟩, chain := [], alias_ := ⟨[], []⟩, aliasCert := [] }

/-- Root of trust: tenants, keys, grants, sessions, fuses. -/
structure SecSt where
  tenants : SMap TenantRec
  slots : SMap KeySlot
  grants : SMap Grant
  sessions : SMap Session
  /-- grant entries that hold an uncorrectable word until firmware rewrites them (Table 19.1) -/
  badGrant : List Nat
  /-- TENANT_REMOVE commands that wait for their tenant to become FREE -/
  removals : List (Tenant × Option Running)
  svnMin : SMap Nat
  edRoot : BitVec 384
  mlRoot : BitVec 384
  variant : BitVec 4
  stepLetter : Byte
  stepDigit : Byte
  serial : Dword
  /-- identities of Ed25519 (certificate slot 0) and ML-DSA-65 (slot 1) -/
  edIdent : Identity
  mlIdent : Identity
  deriving DecidableEq, Repr

/-- The fabric protocol. -/
structure FabSt where
  map : Option MapImage
  /-- a committed change that awaits its capo point (R480) -/
  pend : Option MapChange
  /-- a proposal this member acknowledged (R478) -/
  acked : Option MapChange
  /-- the manager's own proposal and the members that acknowledged it -/
  proposal : Option (MapChange × List Dword)
  heard : SMap Nat
  key : Option (List Byte)
  seq : Nat
  prevEpoch : BitVec 16
  graceUntil : Option Nat
  /-- uplink ports that were live at the last capo point, among which forwarding chooses (R474) -/
  uplinks : List Nat
  /-- the proposal that this manager inherited and makes again (R479) -/
  heir : Option MapChange
  /-- SYNC_DATA chunks received -/
  chunks : SMap (List Byte)
  /-- frames of messages not yet whole, with their TYPE -/
  parts : List (Nat × FabMsg)
  /-- this device acts as manager (R477), with the answers to its SYNC_REQ: member, epoch, acknowledged proposal (R479) -/
  acting : Bool
  states : List (Dword × BitVec 16 × Option MapChange)
  /-- losses the manager has still to commit: device serial, and a port (0xFFFF: the device) (R483) -/
  losses : List (Dword × Nat)
  /-- REVOKE_DONE reports the manager received: stroke, sender, payload -/
  reports : List (Nat × Dword × List Byte)
  deriving DecidableEq, Repr

/-- Firmware, rings, logs. -/
structure FwSt where
  rings : SMap Ring
  running : List Running
  /-- segment loads taken: command, image bytes, stroke by which each completes (R97) -/
  loads : List (Running × List Byte × Nat)
  types : SMap FwType
  /-- last expiry stroke of each core's watchdog (R500) -/
  expired : SMap Nat
  logSeq : Nat
  evSeq : Nat
  events : List EvRec
  /-- codes 0x0010 to 0x0014 written this stroke, by (code, kind, unit) (R577) -/
  evOnce : List (Nat × Nat × Nat)
  /-- segments being disabled, with the command (R548) -/
  disabling : List (SegNo × Option Running)
  /-- ring of the round robin (R508) -/
  nextRing : Nat
  deriving DecidableEq, Repr

/-- One half of the self-test area of the boot flash (R553): BOOTNO of its stamp, boot-test record, shutdown record. The
device's signatures of a record that it wrote itself verify (assumption 6). -/
structure FlashHalf where
  stamp : Option Nat
  boot : Option (List Byte)
  shut : Option (List Byte)
  deriving DecidableEq, Repr

/-- Bring-up, power, units. -/
structure PwrSt where
  /-- the stroke from which every cause of the present level has stayed clear (R528) -/
  clearFrom : Option Nat
  /-- what the sensors show, read at cy 0 of every stroke (R526); none before the first TEMPERATURE_SAMPLE -/
  sensors : Option Sensors
  /-- package power readings of the last 1,024 strokes, newest first, and the stroke of the newest -/
  powerLog : List Nat
  powerAt : Nat
  /-- THERM_TRIP_N was driven low (R529) -/
  trip : Bool
  /-- the two halves of the record area, the half this run stamped, and the record from which marks were taken -/
  half0 : FlashHalf
  half1 : FlashHalf
  runHalf : Option Bool
  marks : Option (List Byte)
  /-- phase 0x03 has ended in this bring-up (it runs beside phase 0x04) -/
  marksDone : Bool
  /-- the tests of a boot with FULLTEST 1 are done (R536) -/
  tested : Bool
  lostScd : BitVec 32
  lostStack : BitVec 24
  lostMid : BitVec 8
  lostSeq : BitVec 2
  lostLane : BitVec 20
  /-- losses detected and not yet recorded: unit, cause, detection cy -/
  detected : List (LostUnit × Nat × Nat)
  /-- SCD out of service by a reset (R539): SCD, loss stroke, return stroke -/
  resetScd : Option (Scd × Nat × Nat)
  /-- substitute homes in force, SCD numbers (R571) -/
  substituted : List Scd
  /-- SCDs whose ports their substitute owns (R571) -/
  portSub : List Scd
  /-- SCD whose lines its substitute is recalling (R540) -/
  handback : Option Scd
  /-- power transition in progress: 2 L2, 3 L3, 4 shutdown, and the stroke by which work in flight has ended (R544) -/
  target : Option (Nat × Nat)
  deriving DecidableEq, Repr

/-- The whole state of the block. -/
structure State where
  time : TimeSt
  /-- the register file: stored values of RW and status fields by management address -/
  regs : SMap Word
  /-- live counts behind registers that show the sample of the last maintenance window (Table 2.1), by address -/
  live : SMap Word
  /-- acting values of registers whose written value waits for a boundary (R583 and the rules it names) -/
  acts : SMap Word
  seg : SMap Segment
  scd : ScdSt
  mem : MemSt
  lane : LaneSt
  coh : CohSt
  rcx : SMap CtxSt
  eng : EngSt
  tier : TierSt
  net : NetSt
  lanes : LanesSt
  sec : SecSt
  fab : FabSt
  fw : FwSt
  pwr : PwrSt
  /-- changes latched for stroke boundaries, in the order they were accepted -/
  due : List (Nat × Due)
  /-- events of fixed cy, by rising absolute cy -/
  timed : List (Nat × Timed)
  /-- free values drawn so far (the model's own; assumption 12) -/
  free : Nat
  /-- commands waiting, first in first out -/
  pending : List Instr
  deriving DecidableEq, Repr

/-! ### The state after reset -/

/-- A type of firmware image before bring-up: nothing staged, no image running. -/
def FwType.fresh : FwType :=
  { st := 0, scommit := false, staged := none, running := (0, 0), boot := (0, 0), waiting := none, doneAt := none,
    retryAt := none }

/-- A tenant that was never created (R448: FREE, epoch 0). -/
def TenantRec.fresh : TenantRec := { st := .free, epoch := 0, kshash := 0 }

/-- An empty key slot (R452). -/
def KeySlot.fresh : KeySlot :=
  { st := .empty, key := [], role := 0, sample := 0, zeros := 0, fromStroke := 0, removal := false }

/-- A context that never opened (Table 4.7). -/
def CtxSt.fresh : CtxSt := { done := [], declared := 0, opened := none, completing := none }

/-- A governor flow at reset (R343). -/
def Flow.fresh : Flow := { step := 0, acks := 0, marks := 0, hold := 0, quiet := 0, next := 0, rmax := 0 }

/-- Ring pair 0, which exists from bring-up and is fixed (17_firmware_rings.md, before R505). -/
def Ring.pair0 : Ring :=
  { n := 8, cring := 0x017FC0100000, pring := 0x017FC0110000, cdb := 0, chead := 0, pdb := 0, ctail := 0 }

def TimeSt.reset : TimeSt :=
  { stroke := 0, cy := 0, running := 0, skipped := false, nextSkipped := false,
    resyncUntil := none, remapUntil := none, slotAt := none, ptp := 0, aligned := false }

def ScdSt.reset : ScdSt :=
  { v := [], s := [], p := [], x := [], gen := [], queries := [], tiles := [], ranks := [], tainted := 0,
    reported := 0, ctr := [], layout31 := false }

def MemSt.reset : MemSt := { bytes := [], wbuf := [], scache := [], uncorr := [], soft := [], rewrite := [], inval := [] }

def LaneSt.reset : LaneSt := { queues := [], ops := [], nextId := 0, held := [], fwd := [] }

def CohSt.reset : CohSt := { entries := [], txns := [], sustain := [], from_ := [], orphans := [], lostHomes := [], taken := [] }

def EngSt.reset : EngSt := { ops := [], busy := [] }

/-- The configured cold capacity at reset is the largest one, 1 PiB (DESIGN CHOICE, assumption 8). -/
def TierSt.reset : TierSt :=
  { ext := [], dirty := [], jobs := [], cold := [], mapped := [], journal := 0, trays := [], located := [], moving := [], starved := [],
    collecting := [], ftl := [], bases := [], waiting := [], bad := [], coldCap := 2 ^ 50 }

def NetSt.reset : NetSt :=
  { planned := [], node := [], svc := [], busy := [], tokens := [], meters := [], deficit := [], svcDeficit := [],
    ring := [], svcRing := [], mirror := [], samples := [], barrier := [], flows := [], pacing := [], governed := [],
    opid := [], wire := [] }

/-- Pins at reset: FRST_N and PWR_GOOD high, no laser fault, straps 0 (DESIGN CHOICE, assumption 8), the test pins at the
board connections of Table 13.4; outputs as Table 13.6 gives. -/
def LanesSt.reset : LanesSt :=
  { up := [], downAt := [], retrain := [], frstN := true, pwrGood := true, lsrFltN := 0xFFFF, straps := 0,
    mgmtHeld := 0, test := { tck := false, tms := true, tdi := true, trstN := false, shift := false }, ppsOut := false,
    ppsSecond := 0, thermTripN := true, i3cAddr := none, i3cReg := none }

/-- Fused values: FWL-9640, stepping A0, serial 0, digests 0 (DESIGN CHOICE, assumption 8). -/
def SecSt.reset : SecSt :=
  { tenants := [], slots := [], grants := [], badGrant := [], sessions := [], removals := [], svnMin := [], edRoot := 0, mlRoot := 0,
    variant := 0, stepLetter := 0x41, stepDigit := 0, serial := 0, edIdent := Identity.blank, mlIdent := Identity.blank }

def FabSt.reset : FabSt :=
  { map := none, pend := none, acked := none, proposal := none, heard := [], key := none, seq := 0, prevEpoch := 0,
    graceUntil := none, uplinks := [], heir := none, chunks := [], parts := [], acting := false, states := [], losses := [], reports := [] }

def FwSt.reset : FwSt :=
  { rings := [(0, Ring.pair0)], running := [], loads := [], types := [], expired := [], logSeq := 0, evSeq := 0,
    events := [], evOnce := [], disabling := [], nextRing := 0 }

def PwrSt.reset : PwrSt :=
  { clearFrom := none, sensors := none, powerLog := [], powerAt := 0, trip := false, half0 := ⟨none, none, none⟩, half1 := ⟨none, none, none⟩, runHalf := none,
    marks := none, marksDone := false, tested := false, lostScd := 0, lostStack := 0, lostMid := 0, lostSeq := 0, lostLane := 0,
    detected := [], resetScd := none, substituted := [], portSub := [], handback := none, target := none }

/-- The block right after reset: every register at the reset value of its table (an empty `regs`: unlisted registers read
their reset value), every queue and table empty, bring-up not begun (READY 0, PHASE 0x00). -/
def State.reset : State :=
  { time := TimeSt.reset, regs := [], live := [], acts := [], seg := [], scd := ScdSt.reset, mem := MemSt.reset,
    lane := LaneSt.reset, coh := CohSt.reset, rcx := [], eng := EngSt.reset, tier := TierSt.reset, net := NetSt.reset,
    lanes := LanesSt.reset, sec := SecSt.reset, fab := FabSt.reset, fw := FwSt.reset, pwr := PwrSt.reset,
    due := [], timed := [], free := 0, pending := [] }

end Sys2Proof.Machine
end

