-- ==== Sys2Proof/Machine/Ops.lean ====
section
/-! DEFINITION. The named operations over the state that every family of commands uses: the clock's arithmetic, register
access, counters, events, memory and its views, addresses and homes, arrival counters, grants and tenants. -/

namespace Sys2Proof.Machine

/-! ### Time -/

/-- The current absolute cy: stroke × 1,536 + cy (02_stroke.md, "From arrival to departure"). -/
def State.now (s : State) : Nat := 1536 * s.time.stroke + s.time.cy

/-- The stroke at whose cy 0 a change takes effect when its event completes now (R47). -/
def State.boundary (s : State) : Nat := if s.time.cy < 1472 then s.time.stroke + 1 else s.time.stroke + 2

/-- Latch a change for a stroke boundary (R46). -/
def State.latch (s : State) (b : Nat) (d : Due) : State := { s with due := s.due ++ [(b, d)] }

/-- Latch a change under R47. -/
def State.latchNext (s : State) (d : Due) : State := s.latch s.boundary d

/-- Results land before anything else of their cy: what issues or is read on that cy sees them (R80). -/
def Timed.lands : Timed → Bool
  | .land _ => true
  | _ => false

/-- Events of one cy that come before another whenever they were scheduled: landings before all others, and frames parsed in
ascending order of their ports (R378). -/
def Timed.before (x y : Timed) : Bool :=
  (x.lands && !y.lands) || (match x, y with
    | .parse p _, .parse q _ => decide (p.toNat < q.toNat)
    | _, _ => false)

/-- Put an event in the list of timed events, after those of the same cy that need not follow it. -/
def insertTimed (t : Nat) (x : Timed) : List (Nat × Timed) → List (Nat × Timed)
  | [] => [(t, x)]
  | (u, y) :: ys =>
    if t < u || (t == u && x.before y) then (t, x) :: (u, y) :: ys else (u, y) :: insertTimed t x ys

/-- Schedule an event for an absolute cy. -/
def State.after (s : State) (t : Nat) (x : Timed) : State := { s with timed := insertTimed t x s.timed }

/-- Schedule a landing `lat` cy from now (R80). -/
def State.land (s : State) (lat : Nat) (x : Landing) : State := s.after (s.now + lat) (.land x)

/-- Remove the first timed event that satisfies a test. -/
def State.cancel (s : State) (p : Timed → Bool) : State :=
  { s with timed := dropFirst (fun e => p e.2) s.timed }

/-- Draw a free value (AN UNDEFINED VALUE, assumption 12): unconstrained, and a different one each time. -/
def State.drawFree (s : State) : Dword × State := (Config.freeValue s.free, { s with free := s.free + 1 })

/-! ### Registers -/

/-- The stored value of a register. -/
def State.rv (s : State) (r : Reg) (u : Nat := 0) (i : Nat := 0) (j : Nat := 0) : Nat :=
  let x : RegRef := ⟨r, u, i, j⟩
  (SMap.get x.reset s.regs x.addr).toNat

/-- Store a value in a register, whatever its access codes: what the device itself does. -/
def State.wv (s : State) (r : Reg) (v : Nat) (u : Nat := 0) (i : Nat := 0) (j : Nat := 0) : State :=
  let x : RegRef := ⟨r, u, i, j⟩
  { s with regs := SMap.set x.reset s.regs x.addr (BitVec.ofNat 32 v) }

/-- Bits [hi:lo] of a register. -/
def State.rf (s : State) (r : Reg) (hi lo : Nat) (u : Nat := 0) (i : Nat := 0) (j : Nat := 0) : Nat :=
  bits (s.rv r u i j) hi lo

/-- Store bits [hi:lo] of a register. -/
def State.wf (s : State) (r : Reg) (hi lo v : Nat) (u : Nat := 0) (i : Nat := 0) (j : Nat := 0) : State :=
  s.wv r (setBits (s.rv r u i j) hi lo v) u i j

/-- Add to a counting register that wraps to zero. -/
def State.bump (s : State) (r : Reg) (n : Nat := 1) (u : Nat := 0) (i : Nat := 0) : State :=
  s.wv r (wrap32 (s.rv r u i + n)) u i

/-- Add to a live count whose register shows the sample of the last maintenance window (Tables 2.1 and 19.6). -/
def State.bumpLive (s : State) (r : Reg) (n : Nat := 1) (u : Nat := 0) : State :=
  let a := (RegRef.mk r u 0 0).addr
  { s with live := SMap.set 0 s.live a (SMap.get 0 s.live a + BitVec.ofNat 32 n) }

/-- The value on which the device acts: for a register whose written value waits for a boundary, the value before the
write (20_register_index.md, after R583). -/
def State.av (s : State) (r : Reg) (u : Nat := 0) (i : Nat := 0) (j : Nat := 0) : Nat :=
  let x : RegRef := ⟨r, u, i, j⟩
  match s.acts.find x.addr with
  | some w => w.toNat
  | none => s.rv r u i j

/-- Bits of an acting value. -/
def State.af (s : State) (r : Reg) (hi lo : Nat) (u : Nat := 0) (i : Nat := 0) (j : Nat := 0) : Nat :=
  bits (s.av r u i j) hi lo

/-- The register whose written value a latched change lets act. -/
def Due.reg : Due → Option Nat
  | .act a _ => some a
  | .octet u o _ => some (RegRef.mk .laneOctcfg u o 0).addr
  | .agentWrite k i _ => some (RegRef.mk .dirAgent k.toNat i.toNat 0).addr
  | .mapping a _ => some a
  | _ => none

/-- The device acts on a written value from now on; a later write of the same register may still wait. -/
def State.actOn (s : State) (addr : Nat) (v : Word) : State :=
  { s with acts := if s.due.any (fun e => e.2.reg == some addr) then s.acts.insert addr v else s.acts.erase addr }

/-- Store a written value whose effect waits: the register reads it back at once, and acts on the old value. -/
def State.putWaiting (s : State) (x : RegRef) (v : Nat) : State :=
  let old := SMap.get x.reset s.regs x.addr
  let acts := match s.acts.find x.addr with
    | some _ => s.acts
    | none => s.acts.insert x.addr old
  { s with acts := acts, regs := SMap.set x.reset s.regs x.addr (BitVec.ofNat 32 v) }

/-- Write a register whose effect waits for the boundary of R47. -/
def State.writeDeferred (s : State) (x : RegRef) (v : Nat) : State :=
  (s.putWaiting x v).latchNext (.act x.addr (BitVec.ofNat 32 v))

/-! ### Variant and units -/

/-- The variant lacks DXA and RKU (Table 1.8). -/
def State.noDistance (s : State) : Bool := s.sec.variant != 0

/-- The variant lacks the delta codecs and the flash translation engine (Table 1.8). -/
def State.noDelta (s : State) : Bool := s.sec.variant == 2

/-- CTL_ID (Table 1.6): vendor, part and the fused variant. -/
def State.ctlId (s : State) : Nat := 0xFA3D9640 + s.sec.variant.toNat

/-- CTL_STEP (Table 1.7). -/
def State.ctlStep (s : State) : Nat := 256 * s.sec.stepLetter.toNat + s.sec.stepDigit.toNat

/-- SCDs out of service: marked at bring-up, lost, or in an SCD reset (R582). -/
def State.scdOut (s : State) (k : Scd) : Bool :=
  bitAt (s.rv .ctlScdout) k.toNat || s.pwr.lostScd.getLsbD k.toNat

/-- The configured cold capacity C (R232): none without a flash translation layer (R38, R39), and what the trays leave once 7 % of their
raw flash is held back (Table 8.10). -/
def State.coldCapacity (s : State) : Nat :=
  if s.noDelta then 0
  else match s.tier.trays with
    | [] => s.tier.coldCap
    | ts => min s.tier.coldCap (93 * (ts.map fun t => t.2.raw).sum / 100)

/-- A stack lost in operation or marked out at bring-up. -/
def State.stackOut (s : State) (x : Nat) : Bool := bitAt (s.rv .ctlStkout) x || s.pwr.lostStack.getLsbD x

/-- The device has completed bring-up (CTL_BRINGUP.READY). -/
def State.ready (s : State) : Bool := s.rf .ctlBringup 31 31 == 1

/-- The SCDs in service, in ascending order. -/
def State.scds (s : State) : List Scd := ((List.range 32).map (BitVec.ofNat 5)).filter (fun k => !s.scdOut k)

/-- The tile that an SCD runs (R104): its number, or its place among the surviving SCDs with the 31-tile layout. -/
def State.tile (s : State) (k : Scd) : Nat :=
  if s.scd.layout31 then ((s.scds.filter (fun j => j.toNat < k.toNat)).length) else k.toNat

/-! ### Addresses (08_memory_tiers.md) -/

/-- The kinds of place an address can name (Tables 8.1 and 8.2). -/
inductive Region
  | userNear | ftlMap | control | mapped
  | scratch (k : Nat)
  | unmapped
  deriving DecidableEq, Repr

def controlBase : Nat := 0x017FC0000000
def nearTop : Nat := 0x018000000000
def scratchBase : Nat := 0x100000000000000

/-- Where an address lies (R230 to R232). -/
def State.region (s : State) (a : Nat) : Region :=
  if a < nearTop then
    if controlBase ≤ a then .control
    else if a < s.rf .ctlNearmap 23 8 * 2 ^ 30 then .userNear
    else .ftlMap
  else if 0x020000000000000 ≤ a ∧ a < 0x100000000000000 then .mapped
  else if scratchBase ≤ a ∧ a < scratchBase + 0x40000000 then
    let off := a - scratchBase
    if off % 0x2000000 < 0x1800000 then .scratch (off / 0x2000000) else .unmapped
  else .unmapped

/-- First byte of scratchpad window k (R231). -/
def windowOf (k : Scd) : Nat := scratchBase + 0x2000000 * k.toNat

/-- Whether [a, a + n) lies in the 24 MiB scratchpad of SCDk (R231). -/
def inWindow (k : Scd) (a n : Nat) : Bool := decide (windowOf k ≤ a ∧ a + n ≤ windowOf k + 0x1800000)

/-- Whether [a, a + n) lies inside the control region. -/
def inControl (a n : Nat) : Bool := decide (controlBase ≤ a ∧ a + n ≤ nearTop)

/-- Near-tier decoding: the stack of an address (R234). -/
def stackOf (a : Nat) : Nat := (a >>> 12) % 24

/-- The offset within a stack (R234). -/
def stackOffset (a : Nat) : Nat := (((a >>> 12) / 24) <<< 12) + a % 4096

/-- The pseudo-channel of an address (R234). -/
def pchanOf (a : Nat) : Nat := (stackOffset a >>> 7) % 64

/-- The bank of an address (R234). -/
def bankOf (a : Nat) : Nat := (stackOffset a >>> 13) % 64

/-- The row of an address (R234). -/
def rowOf (a : Nat) : Nat := stackOffset a >>> 19

/-- The home by the hash of R235. -/
def rawHome (a : Nat) : Scd :=
  if scratchBase ≤ a ∧ a < scratchBase + 0x40000000 then BitVec.ofNat 5 ((a - scratchBase) / 0x2000000)
  else BitVec.ofNat 5 (bits a 12 8) ^^^ BitVec.ofNat 5 (bits a 17 13)

/-- The home SCD of an address (R235), with the substitute of a lost or reset SCD (R571). -/
def State.home (s : State) (a : Nat) : Scd :=
  let k := rawHome a
  if s.pwr.substituted.contains k then k ^^^ 1 else k

/-- Whether a request dequeued on absolute cy t meets the bank of an address in refresh, with its HBM4 stage `lead` cy
after the dequeue (R238; R304 takes 46 in place of 40). -/
def inRefresh (a t lead : Nat) : Bool :=
  let g := bankOf a
  let off := 48 * (g / 2) + 1536 * (g % 2)
  let d := (t + lead + 3072 - off + 134) % 3072
  decide (0 < d ∧ d < 614)

/-- The first absolute cy from t on, outside the refresh window of the bank of an address, at which the bank may be accessed
(R237). -/
def bankFree (a t : Nat) : Nat :=
  let g := bankOf a
  let d := (t + 3072 - (48 * (g / 2) + 1536 * (g % 2))) % 3072
  if d < 480 then t + 480 - d else t

/-! ### Memory -/

/-- Memory is held in its one canonical form: addresses strictly rising, no entry equal to what an unlisted address reads as. -/
abbrev Memory.wf (m : List Host.Cell) : Prop := SMap.canon (0 : Byte) m = true

/-- A byte as its bank holds it. -/
def State.bankByte (s : State) (a : Nat) : Byte := SMap.get 0 s.mem.bytes a

/-- Bytes as their banks hold them: what chords and engines read (Table 9.1). -/
def State.bankRead (s : State) (a n : Nat) : List Byte := (List.range n).map (fun i => s.bankByte (a + i))

/-- The last write to an address in the write buffers of a request lane, in dequeue order (R276). -/
def pendingByte (a : Nat) : List WBuf → Option Byte
  | [] => none
  | w :: ws =>
    match pendingByte a ws with
    | some b => some b
    | none => w.writes.findSome? (fun e => if e.1 = a then some e.2 else none)

/-- A byte as a request lane reads it (R276): a stack-cache copy, else a buffered write, else the bank. -/
def State.laneByte (s : State) (a : Nat) : Byte :=
  match s.mem.scache.find (a / 128) with
  | some line => BitVec.ofNat 8 (line.toNat >>> (8 * (a % 128)))
  | none => (pendingByte a s.mem.wbuf).getD (s.bankByte a)

/-- Bytes as a request lane reads them. -/
def State.laneRead (s : State) (a n : Nat) : List Byte := (List.range n).map (fun i => s.laneByte (a + i))

/-- Bytes as a home read sees them: buffered writes over the bank, without the stack cache. -/
def State.memRead (s : State) (a n : Nat) : List Byte :=
  (List.range n).map (fun i => (pendingByte (a + i) s.mem.wbuf).getD (s.bankByte (a + i)))

/-- Write pairs of a run of bytes. -/
def writesAt (a : Nat) (bs : List Byte) : List (Nat × Byte) := (List.range bs.length).zip bs |>.map (fun e => (a + e.1, e.2))

/-- A 32-bit word is wholly overwritten by a list of writes (Table 19.1). -/
def covers (ws : List (Nat × Byte)) (word : Nat) : Bool :=
  (List.range 4).all (fun i => ws.any (fun e => e.1 == 4 * word + i))

/-- The extents whose shadow holds a near-tier address, in VALID or EVICTING (R254). -/
def State.shadowed (s : State) (a : Nat) : Bool :=
  s.tier.ext.any (fun e => e.2.form == 2 && decide (e.2.aux ≤ a ∧ a < e.2.aux + e.2.len * 2 ^ 21))

/-- Write bytes to their banks: uncorrectable words wholly overwritten become good (Table 19.1), words with a single-bit error
get new check bits, and pages of far-cached
shadows become dirty (R254). -/
def State.bankWrite (s : State) (ws : List (Nat × Byte)) : State :=
  let bytes := ws.foldl (fun m e => SMap.set 0 m e.1 e.2) s.mem.bytes
  let uncorr := s.mem.uncorr.filter (fun e => !covers ws e.1)
  let soft := s.mem.soft.filter (fun e => !ws.any fun w => w.1 / 4 == e.1)
  let dirty := ws.foldl (fun m e => if s.shadowed e.1 then SMap.set false m (e.1 / 4096) true else m) s.tier.dirty
  { s with mem := { s.mem with bytes := bytes, uncorr := uncorr, soft := soft }, tier := { s.tier with dirty := dirty } }

/-- Store a run of bytes. -/
def State.store (s : State) (a : Nat) (bs : List Byte) : State := s.bankWrite (writesAt a bs)

/-- Whether a run of bytes holds an uncorrectable word (R562). -/
def State.uncorrectable (s : State) (a n : Nat) : Bool :=
  s.mem.uncorr.any (fun e => decide (4 * e.1 < a + n ∧ a < 4 * e.1 + 4))

/-- Words of a run of bytes whose code word has one wrong bit. -/
def State.softWords (s : State) (a n : Nat) : List Nat :=
  (s.mem.soft.filter fun e => decide (4 * e.1 < a + n ∧ a < 4 * e.1 + 4)).map fun e => e.1

/-- A run of bytes is read from its bank or SRAM now: single-bit errors are corrected and counted, and an SCD notes its words for
the maintenance window (R561). -/
def State.correct (s : State) (a n : Nat) : State :=
  let ws := s.softWords a n
  if ws.isEmpty then s
  else
    match s.region a with
    | .scratch j =>
      let new := ws.filter fun w => !s.mem.rewrite.contains w
      ({ s with mem := { s.mem with rewrite := s.mem.rewrite ++ new } }).bumpLive .scdEccce ws.length j
    | _ => s.bumpLive .midEccce ws.length (stackOf a / 3)

/-- A read that begins on cy `t` will meet a run of bytes. -/
def State.meets (s : State) (t a n : Nat) : State := if (s.softWords a n).isEmpty then s else s.after t (.meet a n)

/-- The maintenance window rewrites the SRAM words corrected on read, up to 64 on each SCD (R561). -/
def State.sramRewrite (s : State) : State :=
  let of (k : Nat) : List Nat := (s.mem.rewrite.filter fun w => (4 * w - scratchBase) / 0x2000000 == k).take 64
  let good := (List.range 32).flatMap of
  { s with mem := { s.mem with rewrite := [], soft := s.mem.soft.filter fun e => !good.contains e.1 } }

/-- Update the stack-cache copy of a line with written bytes, if one is held (R246). -/
def State.cacheUpdate (s : State) (ws : List (Nat × Byte)) : State :=
  let upd (line : Nat) (v : BitVec 1024) : BitVec 1024 :=
    ws.foldl (fun v e =>
      if e.1 / 128 = line then
        let sh := 8 * (e.1 % 128)
        (v &&& ~~~(BitVec.ofNat 1024 (255 <<< sh))) ||| BitVec.ofNat 1024 (e.2.toNat <<< sh)
      else v) v
  { s with mem := { s.mem with scache := s.mem.scache.mapVal upd } }

/-- Drop a line from the stack cache. -/
def State.cacheDrop (s : State) (line : Nat) : State :=
  { s with mem := { s.mem with scache := s.mem.scache.erase line } }

/-- A later write reaches its bank before an earlier one: the earlier one no longer writes those bytes (R587). -/
def State.overtake (s : State) (w : WBuf) : State :=
  { s with mem := { s.mem with wbuf := s.mem.wbuf.map fun x =>
      if x.k = w.k ∧ x.p < w.p then { x with writes := x.writes.filter (fun e => !w.writes.any (fun f => f.1 == e.1)) }
      else x } }

/-- Commit a buffered lane write to its bank. -/
def State.bankCommit (s : State) (id : Nat) (live : Bool) : State :=
  match s.mem.wbuf.find? (fun w => w.id == id) with
  | none => s
  | some w =>
    let s := { s with mem := { s.mem with wbuf := s.mem.wbuf.filter (fun x => x.id != id) } }
    if live then (s.overtake w).bankWrite w.writes else s

/-! ### Events and alerts -/

/-- Latch an event record (R575 to R577): SEQNO counts every record; codes 0x0010 to 0x0014 are latched once per die and
stroke. -/
def State.event (s : State) (code sev kind unit : Nat) (args : List Nat) (status : Nat := 0) (cy : Option Nat := none) :
    State :=
  let once : Bool := decide (0x0010 ≤ code ∧ code ≤ 0x0014)
  if once && s.fw.evOnce.contains (code, kind, unit) then s
  else
    let e : EvRec := { stroke := s.time.stroke, cy := cy.getD s.time.cy, code := code, sev := sev, kind := kind,
                       unit := unit, seqno := s.fw.evSeq, status := status, args := args }
    { s with fw := { s.fw with
        events := s.fw.events ++ [e],
        evSeq := wrap32 (s.fw.evSeq + 1),
        evOnce := if once then s.fw.evOnce ++ [(code, kind, unit)] else s.fw.evOnce } }

/-- Kinds of unit in event records (Table 19.4). -/
def kindScd : Nat := 1
def kindMid : Nat := 2
def kindStack : Nat := 3
def kindPhe : Nat := 4
def kindEio : Nat := 5
def kindSeq : Nat := 6
def kindCore : Nat := 7
def kindAgent : Nat := 8
def kindExtent : Nat := 9
def kindSegment : Nat := 10
def kindPort : Nat := 11

/-- Set an alert cause of CTL_ALERT (ALERT_N is low while one is pending). -/
def State.alert (s : State) (bit : Nat) : State := s.wf .ctlAlert bit bit 1

/-- ALERT_N is low: an alert cause is pending (Table 13.4). -/
def State.alertN (s : State) : Bool := s.rv .ctlAlert == 0

/-! ### Register files of the SCDs (R78) -/

def vecKey (k : Scd) (r : BitVec 6) : Nat := 64 * k.toNat + r.toNat
def prdKey (k : Scd) (r : BitVec 4) : Nat := 16 * k.toNat + r.toNat
def idxKey (k : Scd) (r : BitVec 5) : Nat := 32 * k.toNat + r.toNat

def State.vreg (s : State) (k : Scd) (r : BitVec 6) : Vec := SMap.get 0 s.scd.v (vecKey k r)
def State.preg (s : State) (k : Scd) (r : BitVec 4) : Mask := SMap.get 0 s.scd.p (prdKey k r)
def State.xreg (s : State) (k : Scd) (r : BitVec 5) : Vec := SMap.get 0 s.scd.x (idxKey k r)

/-- A scalar register: S0 reads zero, S62 the stroke number, S63 the tile (Table 3.5). -/
def State.sreg (s : State) (k : Scd) (r : BitVec 6) : Dword :=
  if r = 0 then 0
  else if r = 62 then BitVec.ofNat 64 s.time.stroke
  else if r = 63 then BitVec.ofNat 64 (s.tile k)
  else SMap.get 0 s.scd.s (vecKey k r)

def State.setV (s : State) (k : Scd) (r : BitVec 6) (x : Vec) : State :=
  { s with scd := { s.scd with v := SMap.set 0 s.scd.v (vecKey k r) x } }
def State.setP (s : State) (k : Scd) (r : BitVec 4) (x : Mask) : State :=
  { s with scd := { s.scd with p := SMap.set 0 s.scd.p (prdKey k r) x } }
def State.setX (s : State) (k : Scd) (r : BitVec 5) (x : Vec) : State :=
  { s with scd := { s.scd with x := SMap.set 0 s.scd.x (idxKey k r) x } }
/-- A write to a scalar register; the fixed registers are never written (check 11 of Table 3.13). -/
def State.setS (s : State) (k : Scd) (r : BitVec 6) (x : Dword) : State :=
  if r = 0 ∨ r = 62 ∨ r = 63 then s
  else { s with scd := { s.scd with s := SMap.set 0 s.scd.s (vecKey k r) x } }

/-! ### Arrival counters (R281 to R284) -/

def ctrKey (k : Scd) (c : BitVec 9) : Nat := 512 * k.toNat + c.toNat

/-- The value of an arrival counter. -/
def State.ctr (s : State) (k : Scd) (c : BitVec 9) : Word := SMap.get 0 s.scd.ctr (ctrKey k c)

def State.setCtr (s : State) (k : Scd) (c : BitVec 9) (x : Word) : State :=
  { s with scd := { s.scd with ctr := SMap.set 0 s.scd.ctr (ctrKey k c) x } }

/-- Advance a counter modulo 2^32 (R281). -/
def State.ctrAdd (s : State) (k : Scd) (c : BitVec 9) (n : Nat) : State :=
  s.setCtr k c (s.ctr k c + BitVec.ofNat 32 n)

/-- An advance applied on cy t: chords of that cy do not see it (R283), so it is in the value from cy t + 1. -/
def State.ctrAddAt (s : State) (t : Nat) (k : Scd) (c : BitVec 9) (n : Nat) : State := s.after (t + 1) (.count k c n)

/-- A counter has reached its target (R284). -/
def reached (value target : Word) : Bool := decide ((value - target).toNat < 2 ^ 31)

/-! ### Tenants, keys, grants (15_trust_tenants.md) -/

def State.tenant (s : State) (t : Tenant) : TenantRec := SMap.get TenantRec.fresh s.sec.tenants t.toNat

def State.setTenant (s : State) (t : Tenant) (x : TenantRec) : State :=
  { s with sec := { s.sec with tenants := SMap.set TenantRec.fresh s.sec.tenants t.toNat x } }

def State.slot (s : State) (i : Nat) : KeySlot := SMap.get KeySlot.fresh s.sec.slots i

def State.setSlot (s : State) (i : Nat) (x : KeySlot) : State :=
  { s with sec := { s.sec with slots := SMap.set KeySlot.fresh s.sec.slots i x } }

/-- The key slots of a tenant (R414): memory, wire, weight, spare. -/
def memSlot (t : Tenant) : Nat := 4 * t.toNat
def wireSlot (t : Tenant) : Nat := 4 * t.toNat + 1
def weightSlot (t : Tenant) : Nat := 4 * t.toNat + 2
def spareSlot (t : Tenant) : Nat := 4 * t.toNat + 3

def State.loaded (s : State) (i : Nat) : Bool := (s.slot i).st == .loaded

/-- A grant entry covers a range (Table 15.8). -/
def Grant.spans (g : Grant) (a n : Nat) : Bool := decide (g.base ≤ a ∧ a + n ≤ g.base + g.len * 2 ^ 21)

def Grant.right (g : Grant) (bit : Nat) : Bool := g.rights.getLsbD bit

/-- OWNER bit of an entry. -/
def Grant.owner (g : Grant) : Bool := g.right 5

/-- The OWNER entry with WEIGHT 1 that makes a granule weight class (15_trust_tenants.md, "Weight-class data"). -/
def State.weightClass (s : State) (a : Nat) : Option Tenant :=
  s.sec.grants.findSome? fun e =>
    if e.2.right 5 && e.2.right 4 && e.2.spans a 1 && (e.2.st == .active || e.2.st == .zeroing || e.2.st == .revoking)
    then some e.2.tenant else none

/-- A weight-class granule whose weight slot is not LOADED: every access meets NO_GRANT (R453). -/
def State.weightClosed (s : State) (a : Nat) : Bool :=
  match s.weightClass a with
  | some t => !s.loaded (weightSlot t)
  | none => false

/-- Whether a chord or engine access of a tenant is granted (R459): every granule of the range has an ACTIVE entry of the
tenant with ENG and the right (0 R, 1 W), and no granule is a closed weight-class one. -/
def State.engGranted (s : State) (t : Tenant) (bit a n : Nat) : Bool :=
  (List.range ((a + (n - 1)) / 2 ^ 21 - a / 2 ^ 21 + 1)).all fun i =>
    let lo := max a ((a / 2 ^ 21 + i) * 2 ^ 21)
    s.sec.grants.any (fun e =>
      e.2.st == .active && e.2.tenant == t && e.2.right 3 && e.2.right bit && e.2.spans lo 1 &&
      !s.sec.badGrant.contains e.1) &&
    !s.weightClosed lo

/-- Store a grant entry; a FREE entry is not listed. -/
def State.setGrant (s : State) (i : Nat) (g : Grant) : State :=
  { s with sec := { s.sec with
      grants := if g.st = .free then s.sec.grants.erase i else s.sec.grants.insert i g } }

/-! ### Segments -/

/-- The loaded segment of a number. -/
def State.segment (s : State) (no : SegNo) : Option Segment :=
  s.seg.findSome? (fun e => if e.2.image.no = no then some e.2 else none)

/-- Change the loaded segment of a number. -/
def State.updSegment (s : State) (no : SegNo) (f : Segment → Segment) : State :=
  { s with seg := s.seg.mapVal (fun _ g => if g.image.no = no then f g else g) }

/-- The segment that the current stroke runs; none for the service-only segment. -/
def State.runSeg (s : State) : Option Segment := if s.time.running = 0 then none else s.segment s.time.running

/-- The fret section of the installed layout, with the bases of moved scratchpad extents (R104). -/
def State.fretEntry (s : State) (g : Image) (k : Scd) (f : Nat) : BitVec 128 :=
  if g.fretN ≤ f then 0
  else
    let t := s.tile k
    let section_ := if s.scd.layout31 then g.fret31.getD [] else g.fret32
    let e := section_.getD (t * g.fretN + f) 0
    if t = k.toNat then e
    else
      let base := bits e.toNat 56 0
      let win := scratchBase + 0x2000000 * t
      if win ≤ base ∧ base + 128 * bits e.toNat 119 96 ≤ win + 0x1800000 then
        BitVec.ofNat 128 (setBits e.toNat 56 0 (base + 0x2000000 * k.toNat - 0x2000000 * t))
      else e

end Sys2Proof.Machine
end

