-- ==== Sys2Proof/Machine/Operands.lean ====
section
/-! DEFINITION. Operand forms of chord slots: predicates (R73 to R76), fret entries and effective addresses (R81, R83),
element lists under masks and block scales (R106, R112, R114). -/

namespace Sys2Proof.Machine

/-! ### Predicates -/

/-- PRED[6:4]. -/
def predMode (p : BitVec 7) : Nat := bits p.toNat 6 4

/-- PRED[3:0]. -/
def predReg (p : BitVec 7) : BitVec 4 := p.truncate 4

/-- The mode and register are not reserved (Table 3.3), and a mask mode is used only where accepted. -/
def predOk (p : BitVec 7) (maskOk : Bool) : Bool :=
  (predMode p == 0 && predReg p == 0) || predMode p == 1 || predMode p == 2 ||
  (maskOk && (predMode p == 3 || predMode p == 4))

/-- The gate is true on an SCD: the operation acts (R73, R74). -/
def State.gate (s : State) (k : Scd) (p : BitVec 7) : Bool :=
  match predMode p with
  | 1 => (s.preg k (predReg p)).getLsbD 0
  | 2 => !(s.preg k (predReg p)).getLsbD 0
  | _ => true

/-- The element at a byte offset of a 512 B vector is acted on (R75: bit i governs bytes 2i and 2i + 1). -/
def State.active (s : State) (k : Scd) (p : BitVec 7) (byte : Nat) : Bool :=
  match predMode p with
  | 3 => (s.preg k (predReg p)).getLsbD (byte / 2)
  | 4 => !(s.preg k (predReg p)).getLsbD (byte / 2)
  | _ => true

/-- A mask mode is in use. -/
def masked (p : BitVec 7) : Bool := predMode p == 3 || predMode p == 4

/-- The bits of a vector register that the elements acted on occupy, for elements of width w. -/
def State.activeBits (s : State) (k : Scd) (p : BitVec 7) (w n : Nat) : Vec :=
  if masked p then
    BitVec.ofNat 4096 (packElems w ((List.range n).map fun i => if s.active k p (w * i / 8) then 2 ^ w - 1 else 0))
  else BitVec.ofNat 4096 (2 ^ (w * n) - 1)

/-! ### Fret entries -/

def fretBase (e : BitVec 128) : Nat := bits e.toNat 56 0
def fretKind (e : BitVec 128) : Nat := bits e.toNat 59 57
def fretStride (e : BitVec 128) : Int := toSigned 32 (bits e.toNat 95 64)
def fretExtent (e : BitVec 128) : Nat := bits e.toNat 119 96

/-- Kinds of R81. -/
def kindLinear : Nat := 1
def kindIndexed : Nat := 2
def kindPage : Nat := 3
def kindBitmap : Nat := 4

/-- An entry's reserved fields are zero, its KIND is not reserved, and its STRIDE keeps R82 and R156. -/
def fretOk (e : BitVec 128) : Bool :=
  bits e.toNat 127 120 == 0 && bits e.toNat 63 60 == 0 && decide (fretKind e ≤ 4) &&
  (fretKind e != kindBitmap || (decide (0 ≤ fretStride e) && fretStride e % 32 == 0)) &&
  (fretKind e != kindPage || (decide (bits e.toNat 95 64 < 64) && decide (bits e.toNat 67 64 ≤ 12)))

/-- F.BASE + F.STRIDE × index + offset (R83): the index is read as a signed 64-bit value and the sum is an integer that does not
wrap (DEDUCED, assumption 80). -/
def effAddr (e : BitVec 128) (index : Dword) (off : Nat) : Int := fretBase e + fretStride e * index.toInt + off

/-- The access [ea, ea + n) is valid under R83. -/
def inExtent (e : BitVec 128) (ea : Int) (n : Nat) : Bool :=
  decide ((fretBase e : Int) ≤ ea ∧ ea + n ≤ fretBase e + 128 * fretExtent e)

/-- The fret entry a slot names, in the bank of the running segment (R84); KIND 0b000 when no segment runs. -/
def State.fret (s : State) (k : Scd) (f : BitVec 8) : BitVec 128 :=
  match s.runSeg with
  | some g => s.fretEntry g.image k f.toNat
  | none => 0

/-- The tenant of the running segment. -/
def State.segTenant (s : State) : Tenant :=
  match s.runSeg with
  | some g => g.image.tenant
  | none => 0

/-- The effective address of an LDA, LDB, STA or FLU access, or none when the access is a chord fault (R85). `bit` is the
right it needs: 0 R, 1 W. -/
def State.chordAddr (s : State) (k : Scd) (f : BitVec 8) (x : BitVec 6) (off n align bit : Nat) (kinds : List Nat) :
    Option Nat :=
  let e := s.fret k f
  let ea := effAddr e (s.sreg k x) off
  if !kinds.contains (fretKind e) || !inExtent e ea n || ea % align != 0 then none
  else
    let a := ea.toNat
    if inWindow k a n && s.engGranted s.segTenant bit a n then some a else none

/-- A chord fault (R85) of the chord of cy `c`: counted, last fault recorded, at most one event record per SCD and
stroke. -/
def State.chordFaultAt (s : State) (k : Scd) (slot c : Nat) : State :=
  let s := s.bump .scdChordflt 1 k.toNat
  let s := s.wv .scdChordfltLast (fld s.time.running.toNat 16 + fld slot 11 + c) k.toNat
  if s.scd.reported.getLsbD k.toNat then s
  else
    let s := { s with scd := { s.scd with reported := s.scd.reported ||| BitVec.ofNat 32 (2 ^ k.toNat) } }
    s.event 0x0020 2 kindScd k.toNat [s.time.running.toNat, slot, c]

/-- A chord fault of the chord of the current cy. -/
def State.chordFault (s : State) (k : Scd) (slot : Nat) : State := s.chordFaultAt k slot s.time.cy

/-- A chord reads an uncorrectable scratchpad word: the SCD is tainted to cy 1471 (R563), and one fault is counted. -/
def State.taint (s : State) (k : Scd) (slot a : Nat) : State :=
  let s := if s.scd.tainted.getLsbD k.toNat then s
    else ({ s with scd := { s.scd with tainted := s.scd.tainted ||| BitVec.ofNat 32 (2 ^ k.toNat) } }).bumpLive
      .scdTaint 1 k.toNat
  let s := s.event 0x0010 1 kindScd k.toNat [a, s.time.running.toNat, 0]
  (s.bumpLive .scdEccue 1 k.toNat).chordFault k slot

/-! ### Elements -/

/-- The values of a register's elements: block scales of a scale register from byte `off` on when `mx` (R112, R191), and
zero where a sparse mask bit is 0 when `sparse` (R114). -/
def elemNums (f : Nat) (v : Vec) (mx : Bool) (scales : Vec) (off : Nat) (sparse : Bool) (maskV : Vec) : List Num :=
  (List.range (fmtCount f)).map fun i =>
    let w := elemAt (fmtWidth f) v.toNat i
    let x := if sparse && !maskV.getLsbD i then Num.zero else numOf f w
    if mx then scaleNum (elemAt 8 scales.toNat (off + i / 32)) x else x

/-- The pair lanes of a register: (value, index) for lanes 0 to 63. -/
def pairAt (v : Vec) (j : Nat) : Nat × Nat := (elemAt 32 v.toNat (2 * j), elemAt 32 v.toNat (2 * j + 1))

/-- A register of pair lanes. -/
def packPairs (ps : List (Nat × Nat)) : Vec :=
  BitVec.ofNat 4096 (packElems 64 (ps.map fun p => p.1 % 2 ^ 32 + p.2 % 2 ^ 32 * 2 ^ 32))

/-- A run of all-one bits, n bits from position lo. -/
def ones (lo n : Nat) : Vec := BitVec.ofNat 4096 ((2 ^ n - 1) <<< lo)

end Sys2Proof.Machine
end

