-- ==== Sys2Proof/Machine/SlotCheck.lean ====
section
/-! DEFINITION. What the loader accepts in one slot (checks 5, 7 and 8 of Table 3.13 and the register restriction of check
11): reserved opcodes, field values, formats and predicate modes. The same tests make a chord row well formed. -/

namespace Sys2Proof.Machine

/-- Scalar operations (Table 3.8). -/
inductive ScaOp
  | add | sub | addi | mul | and | or | xor | shl | shr | sar | min | max | movi | shli | fget | cntr | vext
  deriving DecidableEq, Repr

/-- Predicate operations (Table 3.9a). -/
inductive PrdOp
  | pand | por | pxor | pandn | pnot | pset | pclr | pany | pcmp | pcnt | pfirst | pfromv
  deriving DecidableEq, Repr

/-- Load operations (Table 3.9b). -/
inductive LdOp
  | ldv | lds | ldx | ldp
  deriving DecidableEq, Repr

/-- Store operations (Table 3.9b). -/
inductive StOp
  | stv | sts | stp
  deriving DecidableEq, Repr

/-- RDU operations (Table 4.2). -/
inductive RduOp
  | radd | rmax | rmin | racc | rwacc | rfma | rarg | ramax | rgtopk | rcvt | rmxq | rsplat | rnzm
  deriving DecidableEq, Repr

/-- FLU operations (Table 5.3). -/
inductive FluOp
  | fset | fand | for_
  deriving DecidableEq, Repr

/-- DXA operations (Table 5.9). -/
inductive DxaOp
  | dqld | dscore | dout | dclr
  deriving DecidableEq, Repr

/-- RKU operations (Table 5.11). -/
inductive RkuOp
  | rkmrg | rkmrgp | rkout | rkclr
  deriving DecidableEq, Repr

/-- Opcodes of each slot kind; every other value is reserved (Tables 3.8 to 3.9b, 4.2, 5.3, 5.6, 5.9, 5.11, 5.12). -/
def ScaOp.ofCode (n : Nat) : Option ScaOp :=
  [.add, .sub, .addi, .mul, .and, .or, .xor, .shl, .shr, .sar, .min, .max, .movi, .shli, .fget, .cntr, .vext][n - 1]?
    |>.filter (fun _ => n != 0)
def PrdOp.ofCode (n : Nat) : Option PrdOp :=
  [.pand, .por, .pxor, .pandn, .pnot, .pset, .pclr, .pany, .pcmp, .pcnt, .pfirst, .pfromv][n - 1]?
    |>.filter (fun _ => n != 0)
def LdOp.ofCode (n : Nat) : Option LdOp := [.ldv, .lds, .ldx, .ldp][n - 1]? |>.filter (fun _ => n != 0)
def StOp.ofCode (n : Nat) : Option StOp := [.stv, .sts, .stp][n - 1]? |>.filter (fun _ => n != 0)
def RduOp.ofCode (n : Nat) : Option RduOp :=
  [.radd, .rmax, .rmin, .racc, .rwacc, .rfma, .rarg, .ramax, .rgtopk, .rcvt, .rmxq, .rsplat, .rnzm][n - 1]?
    |>.filter (fun _ => n != 0)
def FluOp.ofCode (n : Nat) : Option FluOp := [.fset, .fand, .for_][n - 1]? |>.filter (fun _ => n != 0)
def gteOfCode (n : Nat) : Option EngKind := [.gidx, .glin, .gpage, .gbag][n - 1]? |>.filter (fun _ => n != 0)
def DxaOp.ofCode (n : Nat) : Option DxaOp := [.dqld, .dscore, .dout, .dclr][n - 1]? |>.filter (fun _ => n != 0)
def RkuOp.ofCode (n : Nat) : Option RkuOp := [.rkmrg, .rkmrgp, .rkout, .rkclr][n - 1]? |>.filter (fun _ => n != 0)
def movOfCode (n : Nat) : Option EngKind := [.mcopy, .msend, .mred, .mdone][n - 1]? |>.filter (fun _ => n != 0)

/-- A fixed scalar register (Table 3.5; check 11). -/
def fixedS (r : BitVec 6) : Bool := r == 0 || r == 62 || r == 63

def scaOk (op : ScaOp) (f : ScaF) : Bool :=
  predOk f.pred false && !fixedS f.sd && (op != .fget || bits f.imm.toNat 9 8 != 3)

def prdOk (op : PrdOp) (f : PrdF) : Bool :=
  predOk f.pred false && (op != .pcmp || decide (f.imm.toNat % 8 < 6))

def ldOk (op : LdOp) (f : LdF) : Bool :=
  match op with
  | .ldv => predOk f.pred true
  | .lds => predOk f.pred false && !fixedS f.dst
  | .ldx => predOk f.pred false && decide (f.dst.toNat < 32)
  | .ldp => predOk f.pred false && decide (f.dst.toNat < 16)

def stOk (op : StOp) (f : StF) : Bool :=
  match op with
  | .stv => predOk f.pred true
  | .sts => predOk f.pred false
  | .stp => predOk f.pred false && decide (f.src.toNat < 16)

/-- Elements of one part (Table 4.2): 128, or 64 with INT64. -/
def partLen (a b : Nat) : Nat := if a = fmtInt64 ∨ b = fmtInt64 then 64 else 128

/-- Accumulator format (Table 4.3). -/
def accFmt (f : Nat) : Nat := if f = fmtInt64 then fmtInt64 else if isIntFmt f then fmtInt32 else fmtFp32

/-- Formats that take block scales (R190), for operations that read them in the RDU. -/
def takesScales (f : Nat) : Bool := f == fmtFp16 || f == fmtE4M3 || f == fmtE5M2 || f == fmtE3M2 || f == fmtE2M1

/-- The formats an RDU operation accepts (Table 4.2, check 7). -/
def rduFmtOk (op : RduOp) (f : RduF) : Bool :=
  let i := f.fmt.toNat
  let o := f.ofmt.toNat
  let num := isFloatFmt i || isIntFmt i
  let base := match op with
    | .radd | .rmax | .rmin => num && o == i
    | .racc => num && o == accFmt i
    | .rwacc => isFloatFmt i && o == fmtFp32
    | .rfma => isFloatFmt i && o == i
    | .rarg => (isFloatFmt i && o == fmtFp32) || ((i == fmtInt4 || i == fmtInt8 || i == fmtInt32) && o == fmtInt32)
    | .ramax => (i == fmtFp32 || i == fmtInt32) && o == i
    | .rgtopk => (i == fmtFp32 || i == fmtBf16 || i == fmtFp16) && o == fmtFp32
    | .rcvt => decide (i ≤ 0xA) && decide (o ≤ 0xA)
    | .rmxq => i == fmtFp32 && takesScales o
    | .rsplat => i == 0 && (isFloatFmt o || isIntFmt o)
    | .rnzm => num && o == 0
  let mxOp := match op with
    | .radd | .rmax | .rmin | .racc | .rwacc | .rfma => i != fmtE3M2
    | .rcvt => true
    | _ => false
  base && (!f.mx || (mxOp && takesScales i))

/-- Field values of an RDU slot (check 5). A part number is judged only for formats that the operation accepts; for the others
check 7 fails (R211). -/
def rduFieldsOk (op : RduOp) (f : RduF) : Bool :=
  let i := f.fmt.toNat
  let o := f.ofmt.toNat
  let p := f.vb.toNat
  f.rsv == 0 && decide (f.rnd.toNat < 2) &&
  (f.rnd == 0 ||
    ((op == .radd || op == .rfma || op == .rcvt || op == .rmxq) && decide (1 ≤ o ∧ o ≤ 6))) &&
  (!f.sparse || ((op == .radd || op == .racc || op == .rwacc) && !f.mx)) &&
  (!rduFmtOk op f || match op with
   | .racc => decide (partLen (accFmt i) 0 * (p + 1) ≤ fmtCount i)
   | .rwacc => decide (128 * (p + 1) ≤ fmtCount i)
   | .rcvt => decide (partLen i o * (p + 1) ≤ fmtCount i) &&
       (f.mx || decide (partLen i o * (f.vc.toNat + 1) ≤ fmtCount o))
   | .rmxq => decide (128 * (p + 1) ≤ fmtCount i)
   | _ => true)

def rduOk (op : RduOp) (f : RduF) : Bool := predOk f.pred true && rduFmtOk op f && rduFieldsOk op f

/-- Formats of the FLU (R149). -/
def fluFmt (f : Nat) : Bool := isFloatFmt f || isIntFmt f

/-- The 128-bit units a selection field takes (Table 5.5). -/
def fluUnits (f : Nat) : Nat := max 1 (fmtCount f / 128)

def fluOk (f : FluF) : Bool :=
  let i := f.fmt.toNat
  let c := f.cmp.toNat
  predOk f.pred true && f.rsv == 0 && fluFmt i && decide (c ≤ 0xC) &&
  (match c with
   | 0x8 => isIntFmt i | 0x9 => isIntFmt i | 0xA => isFloatFmt i | 0xB => isFloatFmt i
   | 0xC => i == fmtInt4 || i == fmtInt8 || i == fmtInt32
   | _ => true) &&
  f.boff.toNat % fluUnits i == 0 && decide (f.boff.toNat + fluUnits i ≤ 32)

def gteOk (op : EngKind) (f : GteF) : Bool :=
  let i := f.fmt.toNat
  predOk f.pred false && f.rsv == 0 && f.rowlen != 0 &&
  (match op with
   | .gbag => decide (i ≤ 4) && decide (f.rowlen.toNat ≤ 64)
   | .glin => i == 0 && (!f.bmen || decide (128 * f.idx.toNat + f.nrow.toNat < 4096))
   | _ => i == 0)

/-- Formats of the DXA (Table 5.8). -/
def dxaFmt (f : Nat) : Bool :=
  f == fmtE4M3 || f == fmtE5M2 || f == fmtInt8 || f == fmtBf16 || f == fmtFp16 || f == fmtE2M1 || f == fmtInt4 ||
  f == fmtBin1

def dxaOk (op : DxaOp) (f : DxaF) : Bool :=
  let i := f.fmt.toNat
  let mxFmt := i == fmtE4M3 || i == fmtE5M2 || i == fmtE2M1
  predOk f.pred true && f.rsv == 0 &&
  (match op with
   | .dqld => dxaFmt i && (!f.mx || (mxFmt && f.vq.toNat % 2 == 0)) && f.vr == 0 && f.vd == 0 && f.acc == 0 && !f.sp24
   | .dscore => dxaFmt i && (!f.mx || mxFmt) && (!f.sp24 || (i != fmtBin1 && !f.mx)) &&
       (!(f.sp24 || f.mx) || f.vr.toNat % 2 == 0) && f.vq == 0 && f.vd == 0 && f.sa == 0
   | .dout => f.vq == 0 && f.vr == 0 && i == 0 && !f.mx && !f.sp24
   | .dclr => f.vq == 0 && f.vr == 0 && f.vd == 0 && i == 0 && !f.mx && !f.sp24 && f.sa == 0)

def rkuOk (op : RkuOp) (f : RkuF) : Bool :=
  let i := f.fmt.toNat
  predOk f.pred true && f.rsv == 0 && (i == fmtFp32 || i == fmtInt32) &&
  (match op with
   | .rkmrgp => f.vi == 0
   | .rkout => decide (f.k.toNat < 16)
   | _ => true)

def movOk (op : EngKind) (f : MovF) : Bool :=
  predOk f.pred false && f.rsv == 0 && (op != .mdone || (f.src == 0 && f.xreg == 0 && f.len == 0))

/-- Latency of an operation, cy: its result is readable from issue + latency (R80). -/
def ScaOp.lat : ScaOp → Nat
  | .mul => 4 | .fget => 2 | .cntr => 2 | .vext => 2 | _ => 1
def PrdOp.lat : PrdOp → Nat
  | .pcnt => 2 | .pfromv => 2 | _ => 1
def LdOp.lat : LdOp → Nat
  | .ldv => 8 | .lds => 6 | .ldx => 8 | .ldp => 6
def RduOp.lat : RduOp → Nat
  | .radd | .rmax | .rmin | .racc | .ramax => 4
  | .rwacc | .rfma => 5
  | .rarg | .rmxq => 8
  | .rgtopk => 24
  | .rcvt => 6
  | .rsplat => 2
  | .rnzm => 3
def RduOp.occ : RduOp → Nat
  | .rarg | .rmxq => 2
  | .rgtopk => 4
  | _ => 1
def DxaOp.lat : DxaOp → Nat
  | .dqld => 2 | .dscore => 4 | .dout => 8 | .dclr => 1
def RkuOp.lat : RkuOp → Nat
  | .rkmrg => 12 | .rkmrgp => 12 | .rkout => 4 | .rkclr => 1
def RkuOp.occ : RkuOp → Nat
  | .rkmrg => 2 | _ => 1

end Sys2Proof.Machine
end

