-- ==== Sys2Proof/Machine/Scalar.lean ====
section
/-! DEFINITION. The scalar slots SCA and SCB (R90, Table 3.8) and the predicate slot PRD (R91, Table 3.9a). -/

namespace Sys2Proof.Machine

/-- The sign-extended 17-bit immediate (R90). -/
def scaImm (f : ScaF) : Dword := f.imm.signExtend 64

/-- A field of a fret entry (FGET, Table 3.8): BASE, STRIDE sign-extended, EXTENT. -/
def fretField (e : BitVec 128) (sel : Nat) : Dword :=
  match sel with
  | 0 => BitVec.ofNat 64 (fretBase e)
  | 1 => BitVec.ofInt 64 (fretStride e)
  | _ => BitVec.ofNat 64 (fretExtent e)

/-- The value a scalar operation writes (Table 3.8). -/
def State.scaValue (s : State) (k : Scd) (op : ScaOp) (f : ScaF) : Dword :=
  let a := s.sreg k f.sa
  let b := s.sreg k f.sb
  match op with
  | .add => a + b
  | .sub => a - b
  | .addi => a + scaImm f
  | .mul => a * b
  | .and => a &&& b
  | .or => a ||| b
  | .xor => a ^^^ b
  | .shl => a <<< (b.toNat % 64)
  | .shr => a >>> (b.toNat % 64)
  | .sar => a.sshiftRight (b.toNat % 64)
  | .min => if a.slt b then a else b
  | .max => if a.slt b then b else a
  | .movi => scaImm f
  | .shli => a <<< (f.imm.toNat % 64)
  | .fget => fretField (s.fret k (f.imm.truncate 8)) (bits f.imm.toNat 9 8)
  | .cntr => (s.ctr k (f.imm.truncate 9)).zeroExtend 64
  | .vext => BitVec.ofNat 64 (elemAt 64 (s.vreg k f.sa).toNat (f.imm.toNat % 64))

/-- Issue a scalar operation on an SCD: with its gate true the result lands after the operation's latency. -/
def State.issueSca (s : State) (op : ScaOp) (k : Scd) (f : ScaF) : State :=
  if s.scdOut k || !s.gate k f.pred then s
  else s.land op.lat (.sca k f.sd (s.scaValue k op f))

/-- A comparison of PCMP (Table 3.9a). -/
def pcmp (sel : Nat) (a b : Dword) : Bool :=
  match sel with
  | 0 => a == b
  | 1 => a != b
  | 2 => a.slt b
  | 3 => a.sle b
  | 4 => a.ult b
  | _ => a.ule b

/-- All ones when true, else all zeros. -/
def allOr (b : Bool) : Mask := if b then BitVec.allOnes 256 else 0

/-- The value a predicate operation writes (Table 3.9a). -/
def State.prdValue (s : State) (k : Scd) (op : PrdOp) (f : PrdF) : Mask :=
  let a := s.preg k f.pa
  let b := s.preg k f.pb
  match op with
  | .pand => a &&& b
  | .por => a ||| b
  | .pxor => a ^^^ b
  | .pandn => a &&& ~~~b
  | .pnot => ~~~a
  | .pset => BitVec.allOnes 256
  | .pclr => 0
  | .pany => allOr (a != 0)
  | .pcmp => allOr (pcmp (f.imm.toNat % 8) (s.sreg k f.sa) (s.sreg k f.sb))
  | .pcnt => allOr (reached (s.ctr k (f.imm.truncate 9)) ((s.sreg k f.sa).truncate 32))
  | .pfirst => BitVec.ofNat 256 (2 ^ min 256 (s.sreg k f.sa).toNat - 1)
  | .pfromv => BitVec.ofNat 256 (elemAt 256 (s.vreg k f.sa).toNat (f.imm.toNat % 16))

/-- Issue a predicate operation on an SCD. -/
def State.issuePrd (s : State) (op : PrdOp) (k : Scd) (f : PrdF) : State :=
  if s.scdOut k || !s.gate k f.pred then s
  else s.land op.lat (.prd k f.pd (s.prdValue k op f))

/-- Outcome of a chord row: the slot's own effect, or a refusal of a slot that the loader accepts in no segment. -/
def slotOutcome (m : String) (ok : Bool) (t : State) : Host.Outcome State Fault Refusal :=
  if ok then .next t else .refused (.reservedSlot m)

/-- ADD (Table 3.8). -/
def execAdd (k : Scd) (f : ScaF) (s : State) := slotOutcome "ADD" (scaOk .add f) (s.issueSca .add k f)
/-- SUB (Table 3.8). -/
def execSub (k : Scd) (f : ScaF) (s : State) := slotOutcome "SUB" (scaOk .sub f) (s.issueSca .sub k f)
/-- ADDI (Table 3.8). -/
def execAddi (k : Scd) (f : ScaF) (s : State) := slotOutcome "ADDI" (scaOk .addi f) (s.issueSca .addi k f)
/-- MUL (Table 3.8). -/
def execMul (k : Scd) (f : ScaF) (s : State) := slotOutcome "MUL" (scaOk .mul f) (s.issueSca .mul k f)
/-- AND (Table 3.8). -/
def execAnd (k : Scd) (f : ScaF) (s : State) := slotOutcome "AND" (scaOk .and f) (s.issueSca .and k f)
/-- OR (Table 3.8). -/
def execOr (k : Scd) (f : ScaF) (s : State) := slotOutcome "OR" (scaOk .or f) (s.issueSca .or k f)
/-- XOR (Table 3.8). -/
def execXor (k : Scd) (f : ScaF) (s : State) := slotOutcome "XOR" (scaOk .xor f) (s.issueSca .xor k f)
/-- SHL (Table 3.8). -/
def execShl (k : Scd) (f : ScaF) (s : State) := slotOutcome "SHL" (scaOk .shl f) (s.issueSca .shl k f)
/-- SHR (Table 3.8). -/
def execShr (k : Scd) (f : ScaF) (s : State) := slotOutcome "SHR" (scaOk .shr f) (s.issueSca .shr k f)
/-- SAR (Table 3.8). -/
def execSar (k : Scd) (f : ScaF) (s : State) := slotOutcome "SAR" (scaOk .sar f) (s.issueSca .sar k f)
/-- MIN (Table 3.8). -/
def execMin (k : Scd) (f : ScaF) (s : State) := slotOutcome "MIN" (scaOk .min f) (s.issueSca .min k f)
/-- MAX (Table 3.8). -/
def execMax (k : Scd) (f : ScaF) (s : State) := slotOutcome "MAX" (scaOk .max f) (s.issueSca .max k f)
/-- MOVI (Table 3.8). -/
def execMovi (k : Scd) (f : ScaF) (s : State) := slotOutcome "MOVI" (scaOk .movi f) (s.issueSca .movi k f)
/-- SHLI (Table 3.8). -/
def execShli (k : Scd) (f : ScaF) (s : State) := slotOutcome "SHLI" (scaOk .shli f) (s.issueSca .shli k f)
/-- FGET (Table 3.8). -/
def execFget (k : Scd) (f : ScaF) (s : State) := slotOutcome "FGET" (scaOk .fget f) (s.issueSca .fget k f)
/-- CNTR (Table 3.8). -/
def execCntr (k : Scd) (f : ScaF) (s : State) := slotOutcome "CNTR" (scaOk .cntr f) (s.issueSca .cntr k f)
/-- VEXT (Table 3.8). -/
def execVext (k : Scd) (f : ScaF) (s : State) := slotOutcome "VEXT" (scaOk .vext f) (s.issueSca .vext k f)

/-- PAND (Table 3.9a). -/
def execPand (k : Scd) (f : PrdF) (s : State) := slotOutcome "PAND" (prdOk .pand f) (s.issuePrd .pand k f)
/-- POR (Table 3.9a). -/
def execPor (k : Scd) (f : PrdF) (s : State) := slotOutcome "POR" (prdOk .por f) (s.issuePrd .por k f)
/-- PXOR (Table 3.9a). -/
def execPxor (k : Scd) (f : PrdF) (s : State) := slotOutcome "PXOR" (prdOk .pxor f) (s.issuePrd .pxor k f)
/-- PANDN (Table 3.9a). -/
def execPandn (k : Scd) (f : PrdF) (s : State) := slotOutcome "PANDN" (prdOk .pandn f) (s.issuePrd .pandn k f)
/-- PNOT (Table 3.9a). -/
def execPnot (k : Scd) (f : PrdF) (s : State) := slotOutcome "PNOT" (prdOk .pnot f) (s.issuePrd .pnot k f)
/-- PSET (Table 3.9a). -/
def execPset (k : Scd) (f : PrdF) (s : State) := slotOutcome "PSET" (prdOk .pset f) (s.issuePrd .pset k f)
/-- PCLR (Table 3.9a). -/
def execPclr (k : Scd) (f : PrdF) (s : State) := slotOutcome "PCLR" (prdOk .pclr f) (s.issuePrd .pclr k f)
/-- PANY (Table 3.9a). -/
def execPany (k : Scd) (f : PrdF) (s : State) := slotOutcome "PANY" (prdOk .pany f) (s.issuePrd .pany k f)
/-- PCMP (Table 3.9a). -/
def execPcmp (k : Scd) (f : PrdF) (s : State) := slotOutcome "PCMP" (prdOk .pcmp f) (s.issuePrd .pcmp k f)
/-- PCNT (Table 3.9a, R284). -/
def execPcnt (k : Scd) (f : PrdF) (s : State) := slotOutcome "PCNT" (prdOk .pcnt f) (s.issuePrd .pcnt k f)
/-- PFIRST (Table 3.9a). -/
def execPfirst (k : Scd) (f : PrdF) (s : State) := slotOutcome "PFIRST" (prdOk .pfirst f) (s.issuePrd .pfirst k f)
/-- PFROMV (Table 3.9a). -/
def execPfromv (k : Scd) (f : PrdF) (s : State) := slotOutcome "PFROMV" (prdOk .pfromv f) (s.issuePrd .pfromv k f)

end Sys2Proof.Machine
end

