-- ==== Sys2Proof/Machine/LoadStore.lean ====
section
/-! DEFINITION. The scratchpad load and store slots LDA, LDB and STA (R92, R93, Table 3.9b). -/

namespace Sys2Proof.Machine

/-- Size and alignment of a load (Table 3.9b). -/
def LdOp.size : LdOp → Nat
  | .ldv => 512 | .lds => 8 | .ldx => 512 | .ldp => 32
def LdOp.align : LdOp → Nat
  | .ldv => 64 | .lds => 8 | .ldx => 64 | .ldp => 32
def StOp.size : StOp → Nat
  | .stv => 512 | .sts => 8 | .stp => 32
def StOp.align : StOp → Nat
  | .stv => 64 | .sts => 8 | .stp => 32

/-- Fret kinds a load accepts: linear and indexed; bitmap for LDV and LDP (R82). -/
def LdOp.kinds : LdOp → List Nat
  | .ldv => [kindLinear, kindIndexed, kindBitmap]
  | .ldp => [kindLinear, kindIndexed, kindBitmap]
  | _ => [kindLinear, kindIndexed]
def StOp.kinds : StOp → List Nat
  | .sts => [kindLinear, kindIndexed]
  | _ => [kindLinear, kindIndexed, kindBitmap]

/-- Slot number of a load port (Table 3.1). -/
def ldSlot (f : LdF) : Nat := if f.portB then 5 else 4

/-- The landing of a load of these bytes. -/
def State.ldLanding (s : State) (op : LdOp) (k : Scd) (f : LdF) (bs : List Byte) : Landing :=
  match op with
  | .ldv => .vec k f.dst (s.activeBits k f.pred 16 256) (vecOfBytes bs)
  | .lds => .sca k f.dst (BitVec.ofNat 64 (leNat bs))
  | .ldx => .idx k (f.dst.truncate 5) (vecOfBytes bs)
  | .ldp => .prd k (f.dst.truncate 4) (BitVec.ofNat 256 (leNat bs))

/-- The address a load reads, or none when it is a chord fault. -/
def State.ldAddr (s : State) (op : LdOp) (k : Scd) (f : LdF) : Option Nat :=
  s.chordAddr k f.fret f.xreg (8 * f.imm.toNat) op.size op.align 0 op.kinds

/-- Issue a load on an SCD: it reads the scratchpad as it stands before any store of this chord (R93); an uncorrectable
word lands zero and taints the SCD (R563). -/
def State.issueLd (s : State) (op : LdOp) (k : Scd) (f : LdF) : State :=
  if s.scdOut k || !s.gate k f.pred then s
  else
    match s.ldAddr op k f with
    | none => s.chordFault k (ldSlot f)
    | some a =>
      if s.uncorrectable a op.size then
        (s.taint k (ldSlot f) a).land op.lat (s.ldLanding op k f (List.replicate op.size 0))
      else (s.correct a op.size).land op.lat (s.ldLanding op k f (s.bankRead a op.size))

/-- The bytes a store writes, with the address of each; STV writes the bytes of active 2-byte units only (R76). -/
def State.stWrites (s : State) (op : StOp) (k : Scd) (f : StF) (a : Nat) : List (Nat × Byte) :=
  match op with
  | .stv => (writesAt a (vecBytes (s.vreg k f.src))).filter (fun e => s.active k f.pred (e.1 - a))
  | .sts => writesAt a (leBytes 8 (s.sreg k f.src).toNat)
  | .stp => writesAt a (leBytes 32 (s.preg k (f.src.truncate 4)).toNat)

/-- The address a store writes, or none when it is a chord fault. -/
def State.stAddr (s : State) (op : StOp) (k : Scd) (f : StF) : Option Nat :=
  s.chordAddr k f.fret f.xreg (8 * f.imm.toNat) op.size op.align 1 op.kinds

/-- Issue a store on an SCD: it writes the scratchpad on the next cy (R93). -/
def State.issueSt (s : State) (op : StOp) (k : Scd) (f : StF) : State :=
  if s.scdOut k || !s.gate k f.pred then s
  else
    match s.stAddr op k f with
    | none => s.chordFault k 6
    | some a => s.land 1 (.store (s.stWrites op k f a))

/-- LDV (Table 3.9b). -/
def execLdv (k : Scd) (f : LdF) (s : State) := slotOutcome "LDV" (ldOk .ldv f) (s.issueLd .ldv k f)
/-- LDS (Table 3.9b). -/
def execLds (k : Scd) (f : LdF) (s : State) := slotOutcome "LDS" (ldOk .lds f) (s.issueLd .lds k f)
/-- LDX (Table 3.9b). -/
def execLdx (k : Scd) (f : LdF) (s : State) := slotOutcome "LDX" (ldOk .ldx f) (s.issueLd .ldx k f)
/-- LDP (Table 3.9b). -/
def execLdp (k : Scd) (f : LdF) (s : State) := slotOutcome "LDP" (ldOk .ldp f) (s.issueLd .ldp k f)
/-- STV (Table 3.9b). -/
def execStv (k : Scd) (f : StF) (s : State) := slotOutcome "STV" (stOk .stv f) (s.issueSt .stv k f)
/-- STS (Table 3.9b). -/
def execSts (k : Scd) (f : StF) (s : State) := slotOutcome "STS" (stOk .sts f) (s.issueSt .sts k f)
/-- STP (Table 3.9b). -/
def execStp (k : Scd) (f : StF) (s : State) := slotOutcome "STP" (stOk .stp f) (s.issueSt .stp k f)

end Sys2Proof.Machine
end

