-- ==== Sys2Proof/Machine/Filter.lean ====
section
/-! DEFINITION. The filter unit FLU (05_gather_filter_rank.md, R146 to R150). -/

namespace Sys2Proof.Machine

/-- The comparison of a float element with the operands a and b (R147, R148). -/
def cmpFloat (c : Nat) (x a b : Num) : Bool :=
  let nan := x.isNan || a.isNan
  let lt := !nan && x.cmp a == .lt
  let eq := !nan && x.cmp a == .eq
  let gt := !nan && x.cmp a == .gt
  let bad := nan || b.isNan
  match c with
  | 0x0 => eq
  | 0x1 => !eq
  | 0x2 => lt
  | 0x3 => lt || eq
  | 0x4 => gt
  | 0x5 => gt || eq
  | 0x6 => !bad && (gt || eq) && x.cmp b != .gt
  | 0x7 => !bad && (lt || x.cmp b == .gt)
  | 0xA => x.isNan
  | 0xB => !x.isNan
  | _ => false

/-- The comparison of an integer element of width w with the operands; `lut` is V[VA] (R147). -/
def cmpInt (c w x a b : Nat) (lut : Vec) : Bool :=
  let sx := toSigned w x
  let sa := toSigned w a
  let sb := toSigned w b
  match c with
  | 0x0 => decide (sx = sa)
  | 0x1 => decide (sx ≠ sa)
  | 0x2 => decide (sx < sa)
  | 0x3 => decide (sx ≤ sa)
  | 0x4 => decide (sx > sa)
  | 0x5 => decide (sx ≥ sa)
  | 0x6 => decide (sa ≤ sx ∧ sx ≤ sb)
  | 0x7 => decide (sx < sa ∨ sx > sb)
  | 0x8 => (x &&& a) != 0
  | 0x9 => (x &&& a) == a
  | 0xC => decide (x < 4096) && lut.getLsbD x
  | _ => false

/-- The selection bit of an element (R147): operands are the low bits of lanes 0 and 1 of V[VA]. -/
def fluCmp (fmt c : Nat) (va : Vec) (x : Nat) : Bool :=
  let w := fmtWidth fmt
  let a := elemAt 64 va.toNat 0 % 2 ^ w
  let b := elemAt 64 va.toNat 1 % 2 ^ w
  if isFloatFmt fmt then cmpFloat c (numOf fmt x) (numOf fmt a) (numOf fmt b) else cmpInt c w x a b va

/-- The selection field of an operation (R149, Table 5.5): its first bit and its length, the zeroed bits of INT64
included. -/
def fluField (f : FluF) : Vec := ones (128 * f.boff.toNat) (128 * fluUnits f.fmt.toNat)

/-- The selection bits of the elements read, and the mask of the elements acted on, at their places. -/
def State.fluBits (s : State) (k : Scd) (f : FluF) (col : Vec) : Vec × Vec :=
  let fmt := f.fmt.toNat
  let w := fmtWidth fmt
  let n := fmtCount fmt
  let va := s.vreg k f.va
  let val := packElems 1 ((List.range n).map fun i => b2n (fluCmp fmt f.cmp.toNat va (elemAt w col.toNat i)))
  let act := packElems 1 ((List.range n).map fun i => b2n (s.active k f.pred (w * i / 8)))
  (BitVec.ofNat 4096 (act <<< (128 * f.boff.toNat)), BitVec.ofNat 4096 (val <<< (128 * f.boff.toNat)))

/-- The mode of an opcode. -/
def FluOp.mode : FluOp → FluMode
  | .fset => .set | .fand => .and | .for_ => .or

/-- The address an FLU operation reads, or none when it is a chord fault (R146). -/
def State.fluAddr (s : State) (k : Scd) (f : FluF) : Option Nat :=
  s.chordAddr k f.fret f.xreg 0 512 64 0 [kindLinear, kindIndexed]

/-- Issue an FLU operation on an SCD: its bits land on cy t + 10, combining with the bits as they stand there (R150). The 64
bits above an INT64 field are written zero (Table 5.5); an uncorrectable word zeroes the field and taints the SCD (R563). -/
def State.issueFlu (s : State) (op : FluOp) (k : Scd) (f : FluF) : State :=
  if s.scdOut k || !s.gate k f.pred then s
  else
    match s.fluAddr k f with
    | none => s.chordFault k 9
    | some a =>
      if s.uncorrectable a 512 then
        (s.taint k 9 a).land 10 (.flu k f.vd .zero (fluField f) 0)
      else
        let r := s.fluBits k f (vecOfBytes (s.bankRead a 512))
        let s := (s.correct a 512).land 10 (.flu k f.vd op.mode r.1 r.2)
        if f.fmt.toNat = fmtInt64 then s.land 10 (.flu k f.vd .zero (ones (128 * f.boff.toNat + 64) 64) 0) else s

/-- What a landing selection field leaves in V[VD]. -/
def fluLand (mode : FluMode) (old mask val : Vec) : Vec :=
  match mode with
  | .set => (old &&& ~~~mask) ||| (val &&& mask)
  | .and => old &&& (val ||| ~~~mask)
  | .or => old ||| (val &&& mask)
  | .zero => old &&& ~~~mask

/-- FSET (R146). -/
def execFSet (k : Scd) (f : FluF) (s : State) := slotOutcome "FSET" (fluOk f) (s.issueFlu .fset k f)
/-- FAND (R150). -/
def execFAnd (k : Scd) (f : FluF) (s : State) := slotOutcome "FAND" (fluOk f) (s.issueFlu .fand k f)
/-- FOR (R150). -/
def execFOr (k : Scd) (f : FluF) (s : State) := slotOutcome "FOR" (fluOk f) (s.issueFlu .for_ k f)

end Sys2Proof.Machine
end

