-- ==== Sys2Proof/Machine/Distance.lean ====
section
/-! DEFINITION. The distance arrays, slots DXA0 to DXA3 (05_gather_filter_rank.md, R160 to R170; sums of R207). -/

namespace Sys2Proof.Machine

/-- Slot number of an array (Table 3.1: DXA0 is slot 11). -/
def dxaSlot (f : DxaF) : Nat := 11 + f.array.toNat

/-- Largest dimension, and what it must be a multiple of (Table 5.8). -/
def dxaMaxDim (fmt : Nat) : Nat :=
  if fmt = fmtBin1 then 16384 else if fmt = fmtE2M1 ∨ fmt = fmtInt4 then 16384
  else if fmt = fmtBf16 ∨ fmt = fmtFp16 then 4096 else 8192
def dxaDimStep (fmt : Nat) : Nat := if fmt = fmtBin1 then 64 else 32

/-- The value of a DXA element; a BIN1 element is 0 or 1. -/
def dxaNum (fmt w : Nat) : Num := if fmt = fmtBin1 then .ofInt w else numOf fmt w

def queryKey (k : Scd) (array : BitVec 2) (q : Nat) : Nat := 32 * k.toNat + 8 * array.toNat + q
def tileKey (k : Scd) (array acc : BitVec 2) : Nat := 16 * k.toNat + 4 * array.toNat + acc.toNat

def DxaTile.fresh : DxaTile := { cursor := 0, fmt := 0, dot := [], sqr := [] }

/-- (dimension, format) of the queries loaded or on their way into an array in this stroke (R166). -/
def State.arrayShape (s : State) (k : Scd) (array : BitVec 2) : Option (Nat × Nat) :=
  match (List.range 8).findSome? (fun q => s.scd.queries.find (queryKey k array q)) with
  | some x => some (x.dim, x.fmt)
  | none => s.timed.findSome? fun e =>
      match e.2 with
      | .land (.query k' a' _ d fm _) => if k' = k ∧ a' = array then some (d, fm) else none
      | _ => none

/-- A DQLD control word breaks Table 5.10 or R166. -/
def State.dqldBad (s : State) (k : Scd) (f : DxaF) (c : Nat) : Bool :=
  let fmt := f.fmt.toNat
  let d := bits c 47 32 + 1
  let q := bits c 18 16
  bits c 63 48 != 0 || bits c 31 19 != 0 || decide (q > (if fmt = fmtBin1 then 7 else 1)) ||
  decide (d > dxaMaxDim fmt) || d % dxaDimStep fmt != 0 ||
  (match s.arrayShape k f.array with
   | some (d', fm') => d' != d || fm' != fmt
   | none => false)

/-- The element values of a register of row or query data; block scales from the register beside it (R167). -/
def State.dxaElems (s : State) (k : Scd) (r : BitVec 6) (fmt : Nat) (mx : Bool) : List Num :=
  let v := s.vreg k r
  let sc := s.vreg k (r + 1)
  (List.range (fmtCount fmt)).map fun i =>
    let x := dxaNum fmt (elemAt (fmtWidth fmt) v.toNat i)
    if mx then scaleNum (elemAt 8 sc.toNat (i / 32)) x else x

/-- DQLD: the query elements below D land on cy t + 2 (R161); inactive elements are not loaded (R75). -/
def State.issueDqld (s : State) (k : Scd) (f : DxaF) : State :=
  let c := (s.sreg k f.sa).toNat
  if s.dqldBad k f c then s.chordFault k (dxaSlot f)
  else
    let fmt := f.fmt.toNat
    let d := bits c 47 32 + 1
    let first := fmtCount fmt * bits c 15 0
    let xs := s.dxaElems k f.vq fmt f.mx
    let es := ((List.range xs.length).zip xs).filterMap fun (e : Nat × Num) =>
      if first + e.1 < d && s.active k f.pred (fmtWidth fmt * e.1 / 8) then some (first + e.1, e.2) else none
    s.land 2 (.query k f.array (bits c 18 16) d fmt es)

/-- The stream of a DSCORE: its elements in order, `none` where they contribute zero (R168, R169), and whether a group of
R168 is bad. -/
def State.dxaStream (s : State) (k : Scd) (f : DxaF) : List (Option Num) × Bool :=
  let fmt := f.fmt.toNat
  let xs := s.dxaElems k f.vr fmt f.mx
  let ys : List (Option Num) := ((List.range xs.length).zip xs).map fun (e : Nat × Num) =>
    if s.active k f.pred (fmtWidth fmt * e.1 / 8) then some e.2 else none
  if f.sp24 then
    let pos := (s.vreg k (f.vr + 1)).toNat
    let group (g : Nat) : List (Option Num) × Bool :=
      let p0 := elemAt 2 pos (2 * g)
      let p1 := elemAt 2 pos (2 * g + 1)
      if p1 ≤ p0 then ([none, none, none, none], true)
      else ((List.range 4).map fun j =>
        if j = p0 then ys.getD (2 * g) none else if j = p1 then ys.getD (2 * g + 1) none else none, false)
    let gs := (List.range (xs.length / 2)).map group
    (gs.flatMap (fun g => g.1), gs.any (fun g => g.2))
  else (ys, false)

/-- An exact value added to a running sum: FP32 with one rounding, INT32 saturating, INT64 for BIN1 (R164, R207, R208). -/
def dxaAcc (fmt old : Nat) (x : Num) : Nat :=
  if fmt = fmtBin1 then intResult fmtInt64 false (toSigned 64 old + x.toInt)
  else if isIntFmt fmt then intResult fmtInt32 true (toSigned 32 old + x.toInt)
  else fp32 ((decodeFloat fmtFp32 old).add x)

/-- The product of a query and a row element: for BIN1 their exclusive OR (R163). -/
def dxaProduct (fmt : Nat) (q r : Num) : Num := if fmt = fmtBin1 then .ofInt (if q.toInt = r.toInt then 0 else 1) else q.mul r

/-- A query lands in the buffer (R161): its elements are placed and the exact sum of their squares is added to Σ q². -/
def State.landQuery (s : State) (k : Scd) (array : BitVec 2) (q d fmt : Nat) (es : List (Nat × Num)) : State :=
  let key := queryKey k array q
  let old := (s.scd.queries.find key).getD { dim := d, fmt := fmt, elems := [], sumSq := 0 }
  let sq := sumNum (es.map fun (e : Nat × Num) => e.2.mul e.2)
  let x : DxaQuery := { dim := d, fmt := fmt, elems := es.foldl (fun m e => m.insert e.1 e.2) old.elems,
                        sumSq := if es.isEmpty then old.sumSq else dxaAcc fmt old.sumSq sq }
  { s with scd := { s.scd with queries := s.scd.queries.insert key x } }

/-- The queries of an array as they stand. -/
def State.queriesOf (s : State) (k : Scd) (array : BitVec 2) : List (Nat × DxaQuery) :=
  (List.range 8).filterMap fun q => (s.scd.queries.find (queryKey k array q)).map fun x => (q, x)

/-- Row data lands in a tile (R161, R162): each row slot it touches gets the exact sum of its products with one rounding, against
the queries as they stood on the issue cy (R80); elements beyond slot 127 are discarded and counted as one chord fault. Without a
query the rows have no dimension and only the cursor moves. -/
def State.landScore (s : State) (k : Scd) (array acc : BitVec 2) (es : List (Option Num)) (fmt : Nat) (bad : Bool)
    (cy : Nat) (dim : Option Nat) (queries : List (Nat × DxaQuery)) : State :=
  let key := tileKey k array acc
  let t := SMap.get DxaTile.fresh s.scd.tiles key
  let n := es.length
  let (t', excess) := match dim with
    | none => (t, false)
    | some d =>
      let lo := t.cursor / d
      let slots := (List.range ((t.cursor + n - 1) / d + 1 - lo)).map (lo + ·)
      let step (t : DxaTile) (slot : Nat) : DxaTile :=
        let a := slot * d - t.cursor
        let b := min n ((slot + 1) * d - t.cursor)
        let dim0 := (t.cursor + a) - slot * d
        let part := (es.drop a).take (b - a)
        let sqr := sumNum (part.map fun (r : Option Num) => match r with
          | some x => x.mul x
          | none => .zero)
        let dots := queries.foldl (fun (m : SMap Nat) (qu : Nat × DxaQuery) =>
          let ps := ((List.range part.length).zip part).map fun (e : Nat × Option Num) =>
            match e.2, qu.2.elems.find (dim0 + e.1) with
            | some r, some x => dxaProduct fmt x r
            | _, _ => .zero
          let i := 128 * qu.1 + slot
          SMap.set 0 m i (dxaAcc fmt (SMap.get 0 m i) (sumNum ps))) t.dot
        { t with dot := dots, sqr := SMap.set 0 t.sqr slot (dxaAcc fmt (SMap.get 0 t.sqr slot) sqr) }
      ((slots.filter (fun j => decide (j < 128))).foldl step t, slots.any (fun j => decide (128 ≤ j)))
  let t' := { t' with cursor := t.cursor + n, fmt := fmt }
  let s := { s with scd := { s.scd with tiles := SMap.set DxaTile.fresh s.scd.tiles key t' } }
  if bad || excess then s.chordFaultAt k (11 + array.toNat) cy else s

/-- The unfilled score (R163): quiet NaN in FP32, −2^31 for INT32 DOT, 2^31 − 1 for HAM. -/
def unfilled (fmt metric : Nat) : Nat :=
  if metric = 3 then 0x7FFFFFFF else if metric = 0 && isIntFmt fmt then 0x80000000 else 0x7FC00000

/-- The score of a filled slot under a metric (R163). -/
def dxaScore (fmt metric qq qr rr : Nat) : Nat :=
  let num (x : Nat) : Num :=
    if isIntFmt fmt then .ofInt (toSigned 32 x) else decodeFloat fmtFp32 x
  match metric with
  | 0 => if isIntFmt fmt then qr % 2 ^ 32 else fp32 (num qr)
  | 1 => fp32 (((num qq).add ((num qr).mul (.ofInt (-2)))).add (num rr))
  | 2 =>
    let nn := (num qq).mul (num rr)
    match nn with
    | .fin _ 0 _ => 0x7FC00000
    | _ => fp32 ((num qr).div nn.sqrt)
  | _ => qr % 2 ^ 32

/-- DOUT: the scores of the tile as it stands on the issue cy (R161), landing on cy t + 8. -/
def State.issueDout (s : State) (k : Scd) (f : DxaF) : State :=
  let c := (s.sreg k f.sa).toNat
  let metric := bits c 5 4
  let t := SMap.get DxaTile.fresh s.scd.tiles (tileKey k f.array f.acc)
  let qu := s.scd.queries.find (queryKey k f.array (bits c 2 0))
  let shape := (List.range 8).findSome? (fun q => s.scd.queries.find (queryKey k f.array q))
  let fmt := match shape with
    | some x => x.fmt
    | none => if t.cursor = 0 && metric = 3 then fmtBin1 else t.fmt
  let bad := bits c 63 6 != 0 || bitAt c 3 || ((metric == 3) != (fmt == fmtBin1))
  let score (slot : Nat) : Nat :=
    match shape with
    | none => unfilled fmt metric
    | some x =>
      if bad || decide (t.cursor < (slot + 1) * x.dim) then unfilled fmt metric
      else dxaScore fmt metric (match qu with | some y => y.sumSq | none => 0)
        (SMap.get 0 t.dot (128 * bits c 2 0 + slot)) (SMap.get 0 t.sqr slot)
  let v := packElems 32 ((List.range 128).map score)
  let s := s.land 8 (.vec k f.vd (s.activeBits k f.pred 32 128) (BitVec.ofNat 4096 v))
  if bad then s.chordFault k (dxaSlot f) else s

/-- Issue a DXA operation on an SCD. -/
def State.issueDxa (s : State) (op : DxaOp) (k : Scd) (f : DxaF) : State :=
  if s.scdOut k || !s.gate k f.pred then s
  else
    match op with
    | .dqld => s.issueDqld k f
    | .dscore =>
      let r := s.dxaStream k f
      s.land 4 (.score k f.array f.acc r.1 f.fmt.toNat r.2 s.time.cy ((s.arrayShape k f.array).map fun x => x.1)
        (s.queriesOf k f.array))
    | .dout => s.issueDout k f
    | .dclr => s.land 1 (.tileClr k f.array f.acc)

/-- A tile is emptied and its cursor becomes zero (DCLR). -/
def State.landTileClr (s : State) (k : Scd) (array acc : BitVec 2) : State :=
  { s with scd := { s.scd with tiles := s.scd.tiles.erase (tileKey k array acc) } }

/-- Outcome of a DXA or RKU row: on a variant without the arrays the loader refuses every segment with such a slot (R182,
check 6). -/
def distanceOutcome (m : String) (ok : Bool) (t s : State) : Host.Outcome State Fault Refusal :=
  if ok && !s.noDistance then .next t else .refused (.reservedSlot m)

/-- DQLD (R161, R166). -/
def execDqld (k : Scd) (f : DxaF) (s : State) := distanceOutcome "DQLD" (dxaOk .dqld f) (s.issueDxa .dqld k f) s
/-- DSCORE (R161, R162). -/
def execDscore (k : Scd) (f : DxaF) (s : State) := distanceOutcome "DSCORE" (dxaOk .dscore f) (s.issueDxa .dscore k f) s
/-- DOUT (R163). -/
def execDout (k : Scd) (f : DxaF) (s : State) := distanceOutcome "DOUT" (dxaOk .dout f) (s.issueDxa .dout k f) s
/-- DCLR (R161). -/
def execDclr (k : Scd) (f : DxaF) (s : State) := distanceOutcome "DCLR" (dxaOk .dclr f) (s.issueDxa .dclr k f) s

end Sys2Proof.Machine
end

