-- ==== Sys2Proof/Machine/Aes.lean ====
section
/-! DEFINITION. AES-256 (FIPS 197) and the two modes that 14_compress_encrypt.md names without giving them: XTS (IEEE 1619,
R415) and GCM (SP 800-38D, R416) (PRESUMED, assumption 6). Blocks are lists of 16 bytes held as natural numbers. -/

namespace Sys2Proof.Machine

/-! ### The block cipher -/

/-- S-box values 0 to 63. -/
def aesS0 : List Nat :=
  [0x63, 0x7C, 0x77, 0x7B, 0xF2, 0x6B, 0x6F, 0xC5, 0x30, 0x01, 0x67, 0x2B, 0xFE, 0xD7, 0xAB, 0x76,
   0xCA, 0x82, 0xC9, 0x7D, 0xFA, 0x59, 0x47, 0xF0, 0xAD, 0xD4, 0xA2, 0xAF, 0x9C, 0xA4, 0x72, 0xC0,
   0xB7, 0xFD, 0x93, 0x26, 0x36, 0x3F, 0xF7, 0xCC, 0x34, 0xA5, 0xE5, 0xF1, 0x71, 0xD8, 0x31, 0x15,
   0x04, 0xC7, 0x23, 0xC3, 0x18, 0x96, 0x05, 0x9A, 0x07, 0x12, 0x80, 0xE2, 0xEB, 0x27, 0xB2, 0x75]

/-- S-box values 64 to 127. -/
def aesS1 : List Nat :=
  [0x09, 0x83, 0x2C, 0x1A, 0x1B, 0x6E, 0x5A, 0xA0, 0x52, 0x3B, 0xD6, 0xB3, 0x29, 0xE3, 0x2F, 0x84,
   0x53, 0xD1, 0x00, 0xED, 0x20, 0xFC, 0xB1, 0x5B, 0x6A, 0xCB, 0xBE, 0x39, 0x4A, 0x4C, 0x58, 0xCF,
   0xD0, 0xEF, 0xAA, 0xFB, 0x43, 0x4D, 0x33, 0x85, 0x45, 0xF9, 0x02, 0x7F, 0x50, 0x3C, 0x9F, 0xA8,
   0x51, 0xA3, 0x40, 0x8F, 0x92, 0x9D, 0x38, 0xF5, 0xBC, 0xB6, 0xDA, 0x21, 0x10, 0xFF, 0xF3, 0xD2]

/-- S-box values 128 to 191. -/
def aesS2 : List Nat :=
  [0xCD, 0x0C, 0x13, 0xEC, 0x5F, 0x97, 0x44, 0x17, 0xC4, 0xA7, 0x7E, 0x3D, 0x64, 0x5D, 0x19, 0x73,
   0x60, 0x81, 0x4F, 0xDC, 0x22, 0x2A, 0x90, 0x88, 0x46, 0xEE, 0xB8, 0x14, 0xDE, 0x5E, 0x0B, 0xDB,
   0xE0, 0x32, 0x3A, 0x0A, 0x49, 0x06, 0x24, 0x5C, 0xC2, 0xD3, 0xAC, 0x62, 0x91, 0x95, 0xE4, 0x79,
   0xE7, 0xC8, 0x37, 0x6D, 0x8D, 0xD5, 0x4E, 0xA9, 0x6C, 0x56, 0xF4, 0xEA, 0x65, 0x7A, 0xAE, 0x08]

/-- S-box values 192 to 255. -/
def aesS3 : List Nat :=
  [0xBA, 0x78, 0x25, 0x2E, 0x1C, 0xA6, 0xB4, 0xC6, 0xE8, 0xDD, 0x74, 0x1F, 0x4B, 0xBD, 0x8B, 0x8A,
   0x70, 0x3E, 0xB5, 0x66, 0x48, 0x03, 0xF6, 0x0E, 0x61, 0x35, 0x57, 0xB9, 0x86, 0xC1, 0x1D, 0x9E,
   0xE1, 0xF8, 0x98, 0x11, 0x69, 0xD9, 0x8E, 0x94, 0x9B, 0x1E, 0x87, 0xE9, 0xCE, 0x55, 0x28, 0xDF,
   0x8C, 0xA1, 0x89, 0x0D, 0xBF, 0xE6, 0x42, 0x68, 0x41, 0x99, 0x2D, 0x0F, 0xB0, 0x54, 0xBB, 0x16]

/-- The S-box. -/
def aesSub (x : Nat) : Nat :=
  let t := if x < 64 then aesS0 else if x < 128 then aesS1 else if x < 192 then aesS2 else aesS3
  t.getD (x % 64) 0

/-- The inverse S-box. -/
def aesUnsub (y : Nat) : Nat := (aesS0 ++ aesS1 ++ aesS2 ++ aesS3).findIdx (fun v => v == y)

/-- Multiply by x in GF(2^8). -/
def aesX (a : Nat) : Nat := if a < 128 then 2 * a else (2 * a - 256) ^^^ 0x1B

/-- Multiply in GF(2^8) by a factor below 16. -/
def aesMul (c a : Nat) : Nat :=
  let p0 := if c % 2 = 1 then a else 0
  let p1 := if c / 2 % 2 = 1 then aesX a else 0
  let p2 := if c / 4 % 2 = 1 then aesX (aesX a) else 0
  let p3 := if c / 8 % 2 = 1 then aesX (aesX (aesX a)) else 0
  p0 ^^^ p1 ^^^ p2 ^^^ p3

def xorList (xs ys : List Nat) : List Nat := (xs.zip ys).map fun p => p.1 ^^^ p.2

/-- The next word of the AES-256 key schedule, from the words so far, newest first, of which there are `n`. -/
def aesNextWord (n : Nat) (ws : List (List Nat)) : List Nat :=
  let t := ws.headD []
  let t := if n % 8 = 0 then
      let r := (t.drop 1 ++ t.take 1).map aesSub
      xorList r [2 ^ (n / 8 - 1), 0, 0, 0]
    else if n % 8 = 4 then t.map aesSub else t
  xorList (ws.getD 7 []) t

/-- The words of the key schedule, newest first. -/
def aesWords (key : List Nat) : List (List Nat) :=
  let first := (List.range 8).map fun i => (key.drop (4 * i)).take 4
  (List.range 52).foldl (fun ws i => aesNextWord (i + 8) ws :: ws) first.reverse

/-- The 15 round keys of a 32-byte key. -/
def aesKeys (key : List Nat) : List (List Nat) :=
  let ws := (aesWords key).reverse
  (List.range 15).map fun r => ((ws.drop (4 * r)).take 4).flatten

def aesShiftRows (b : List Nat) : List Nat := (List.range 16).map fun i => b.getD ((i + 4 * (i % 4)) % 16) 0
def aesUnshiftRows (b : List Nat) : List Nat := (List.range 16).map fun i => b.getD ((i + 12 * (i % 4)) % 16) 0

/-- Multiply every column by a circulant matrix whose first row is given. -/
def aesMix (row : List Nat) (b : List Nat) : List Nat :=
  (List.range 16).map fun i =>
    (List.range 4).foldl (fun v j => v ^^^ aesMul (row.getD ((j + 4 - i % 4) % 4) 0) (b.getD (4 * (i / 4) + j) 0)) 0

/-- Encrypt a block with round keys. -/
def aesEncrypt (ks : List (List Nat)) (b : List Nat) : List Nat :=
  let b := xorList b (ks.headD [])
  let b := ((ks.drop 1).take 13).foldl (fun b k => xorList (aesMix [2, 3, 1, 1] (aesShiftRows (b.map aesSub))) k) b
  xorList (aesShiftRows (b.map aesSub)) (ks.getD 14 [])

/-- Decrypt a block with round keys. -/
def aesDecrypt (ks : List (List Nat)) (b : List Nat) : List Nat :=
  let b := xorList b (ks.getD 14 [])
  let b := ((ks.drop 1).take 13).reverse.foldl
    (fun b k => aesMix [14, 11, 13, 9] (xorList ((aesUnshiftRows b).map aesUnsub) k)) b
  xorList ((aesUnshiftRows b).map aesUnsub) (ks.headD [])

/-! ### XTS (R415) -/

def natsOf (bs : List Byte) : List Nat := bs.map fun b => b.toNat
def bytesOf (ns : List Nat) : List Byte := ns.map fun n => BitVec.ofNat 8 n

/-- The next tweak: multiplication by x in GF(2^128), least significant byte first. -/
def xtsNext (t : Nat) : Nat := if t < 2 ^ 127 then 2 * t else (2 * t - 2 ^ 128) ^^^ 0x87

/-- The blocks of a data unit, each whitened with its tweak before and after a block operation. -/
def xtsBlocks (f : List Nat → List Nat) : Nat → List (List Nat) → List (List Nat)
  | _, [] => []
  | t, b :: bs =>
    let w := natsOf (leBytes 16 t)
    xorList (f (xorList b w)) w :: xtsBlocks f (xtsNext t) bs

/-- A 128-byte data unit under a 64-byte key and a tweak, encrypted or decrypted. -/
def xtsUnit (enc : Bool) (key : List Byte) (tweak : Nat) (line : List Byte) : List Byte :=
  let ks := aesKeys (natsOf (key.take 32))
  let t := leNat (bytesOf (aesEncrypt (aesKeys (natsOf (key.drop 32))) (natsOf (leBytes 16 tweak))))
  let blocks := (List.range 8).map fun i => natsOf (sub line (16 * i) 16)
  bytesOf (xtsBlocks (if enc then aesEncrypt ks else aesDecrypt ks) t blocks).flatten

/-! ### GCM (R416) -/

/-- The blocks of 16 bytes of a byte list, the last one filled with zeros, as 128-bit numbers. -/
def gcmBlocks (bs : List Byte) : List Nat :=
  (List.range (ceilDiv bs.length 16)).map fun i => beNat (padTo 16 (sub bs (16 * i) 16))

/-- Multiplication in the field of GHASH, the most significant bit of a block first. -/
def gcmMul (x y : Nat) : Nat :=
  ((List.range 128).foldl (fun (p : Nat × Nat) i =>
    (if x.testBit (127 - i) then p.1 ^^^ p.2 else p.1,
     if p.2 % 2 = 1 then (p.2 / 2) ^^^ (0xE1 <<< 120) else p.2 / 2)) (0, y)).1

/-- Encrypt a block number. -/
def gcmCipher (ks : List (List Nat)) (x : Nat) : Nat := beNat (bytesOf (aesEncrypt ks (natsOf (beBytes 16 x))))

/-- The counter-mode stream over a payload, from the block after the first counter of a 96-bit nonce. -/
def gcmStream (ks : List (List Nat)) (nonce : BitVec 96) (bs : List Byte) : List Byte :=
  let pad := (List.range (ceilDiv bs.length 16)).flatMap fun i =>
    beBytes 16 (gcmCipher ks (nonce.toNat * 2 ^ 32 + (i + 2) % 2 ^ 32))
  (bs.zip pad).map fun p => p.1 ^^^ p.2

/-- The tag of additional data and ciphertext. -/
def gcmTag (ks : List (List Nat)) (nonce : BitVec 96) (aad ct : List Byte) : List Byte :=
  let h := gcmCipher ks 0
  let blocks := gcmBlocks aad ++ gcmBlocks ct ++ [(8 * aad.length) * 2 ^ 64 + 8 * ct.length]
  let y := blocks.foldl (fun y b => gcmMul (y ^^^ b) h) 0
  beBytes 16 (y ^^^ gcmCipher ks (nonce.toNat * 2 ^ 32 + 1))

/-- AES-256-GCM: ciphertext followed by the 16-byte tag. -/
def gcmSeal (key : List Byte) (nonce : BitVec 96) (aad bs : List Byte) : List Byte :=
  let ks := aesKeys (natsOf key)
  let ct := gcmStream ks nonce bs
  ct ++ gcmTag ks nonce aad ct

/-- The plaintext of ciphertext and tag; none when the tag does not verify. -/
def gcmOpen (key : List Byte) (nonce : BitVec 96) (aad sealed : List Byte) : Option (List Byte) :=
  let ks := aesKeys (natsOf key)
  let n := sealed.length - 16
  let ct := sealed.take n
  if decide (16 ≤ sealed.length) && sealed.drop n == gcmTag ks nonce aad ct then some (gcmStream ks nonce ct) else none

end Sys2Proof.Machine
end

