-- ==== Sys2Proof/Machine/Ports.lean ====
section
/-! DEFINITION. Octets, ports and their owners (R19 to R22, R390 to R392), the frame sizes of R68, and the buffers of the
switch core: queues, cells, admission and congestion marks (R359 to R369). -/

namespace Sys2Proof.Machine

/-! ### Ports -/

/-- Port numbers of the management ports (R455). -/
def portM0 : Nat := 640
def portM1 : Nat := 641

/-- The die unit of a port in the `lane` register block: PHE 0 to 15, EIO 16 to 19 (R391). -/
def portUnit (p : Nat) : Nat := if p < 512 then p / 32 else 16 + (p - 512) / 32

/-- Local index of a port on its die (R391). -/
def portIndex (p : Nat) : Nat := p % 32

/-- The octet of a port on its die, 0 to 3. -/
def portOctet (p : Nat) : Nat := (p / 8) % 4

/-- First port number of an octet of a unit (R390). -/
def octetFirst (u o : Nat) : Nat := if u < 16 then 8 * (4 * u + o) else 512 + 8 * (4 * (u - 16) + o)

/-- Mode of a port's octet, as it acts (R393). -/
def State.octMode (s : State) (p : Nat) : Nat := s.af .laneOctcfg 1 0 (portUnit p) (portOctet p)

/-- Lanes of a port in a mode (Table 13.2). -/
def modeLanes (m : Nat) : Nat := 8 / 2 ^ m

/-- The octet's mode uses this port number (Table 13.7, ACTIVE). -/
def State.portActive (s : State) (p : Nat) : Bool := decide (p < 640) && p % 8 % modeLanes (s.octMode p) == 0

/-- A port may come up: active, its octet enabled, its die not lost (R392). -/
def State.portUsable (s : State) (p : Nat) : Bool :=
  s.portActive p && s.af .laneOctcfg 31 31 (portUnit p) (portOctet p) == 1 &&
  !s.pwr.lostLane.getLsbD (portUnit p)

/-- The link of a port is up; M0 and M1 by CTL_MGMT. -/
def State.portUp (s : State) (p : Nat) : Bool :=
  if p = portM0 then s.rf .ctlMgmt 31 31 == 1
  else if p = portM1 then s.rf .ctlMgmt 30 30 == 1
  else SMap.get false s.lanes.up p

/-- Rate of a port, Gb/s (Table 13.2; M0 and M1 run at 400, Table 13.1). -/
def State.portRate (s : State) (p : Nat) : Nat := if p < 640 then 200 * modeLanes (s.octMode p) else 400

/-- The SCD that R20 to R22 give a port. -/
def State.rawOwner (s : State) (p : Nat) : Scd :=
  if p < 512 then BitVec.ofNat 5 (p / 16)
  else
    let j := (p - 512) / 8
    if s.octMode p = 0 ∨ p % 8 < 4 then BitVec.ofNat 5 (2 * j) else BitVec.ofNat 5 (2 * j + 1)

/-- The SCD that owns a port now (R571): its substitute from the remap stroke on; none while a lost SCD's ports carry
nothing. -/
def State.owner (s : State) (p : Nat) : Option Scd :=
  let k := s.rawOwner p
  if s.pwr.portSub.contains k then some (k ^^^ 1)
  else if s.scdOut k then none
  else some k

/-- Role of a port (LMT_PROLE, R355), as it acts: 0 endpoint, 1 tray, 2 uplink. M0 and M1 count as endpoints. -/
def State.role (s : State) (p : Nat) : Nat :=
  if p < 640 then bits (s.av .lmtProle 0 (p / 16)) (2 * (p % 16) + 1) (2 * (p % 16)) else 0

/-- The ingress port for binding and role checks (R473): the lowest-numbered uplink port for frames from any uplink. -/
def State.bindPort (s : State) (p : Nat) : Nat :=
  if s.role p = 2 then (firstBelow 640 (fun q => s.role q == 2)).getD p else p

/-- A port goes down: counted, and frames in transmission on it are lost (R393). -/
def State.portDown (s : State) (p : Nat) : State :=
  if !s.portUp p then s
  else
    let u := portUnit p
    let inFlight (x : Sent) : Bool :=
      x.frame.port.toNat == p && !x.lost && decide (s.now < x.at_ + 96 + ceilDiv (12 * x.frame.size) (s.portRate p))
    let n := countIf inFlight s.net.wire
    let s := { s with lanes := { s.lanes with up := s.lanes.up.erase p, downAt := s.lanes.downAt.insert p s.time.stroke },
                      net := { s.net with wire := s.net.wire.map fun x => if inFlight x then { x with lost := true } else x,
                                          busy := s.net.busy.erase p } }
    let s := s.bump .lanePlinkdn 1 u (portIndex p)
    let s := s.bump .lanePtxdown n u (portIndex p)
    s.wv .lanePtxfrm (wrap32 (s.rv .lanePtxfrm u (portIndex p) + 2 ^ 32 - n)) u (portIndex p)

/-- A port comes up. -/
def State.portRise (s : State) (p : Nat) : State :=
  if s.portUsable p then { s with lanes := { s.lanes with up := SMap.set false s.lanes.up p true, downAt := s.lanes.downAt.erase p } } else s

/-! ### Frame sizes -/

/-- Bytes of an LMT frame under R68: preamble 8, Ethernet 14, tag, IP, UDP 8, header 40, extension, payload, GCM tag, FCS 4. -/
def lmtSize (v4 : Bool) (vlan : Option (BitVec 16)) (ext len : Nat) (enc : Bool) : Nat :=
  8 + 14 + (if vlan.isSome then 4 else 0) + (if v4 then 20 else 40) + 8 + 40 + ext + len + (if enc then 16 else 0) + 4

/-- Cells of a frame (12_queues_traffic.md, before R365): L is the size without preamble. -/
def frameCells (f : Frame) : Nat := ceilDiv (f.size - 8) 128

/-- Cells of a line request: one, and one more when it carries a payload piece. -/
def reqCells (r : Req) : Nat := if r.r.data.isEmpty then 1 else 2

/-! ### Queues -/

/-- A queue of Table 12.2. -/
inductive QId
  | req (k : Scd) (c : Nat)
  | planned (p : Nat)
  | node (p c : Nat)
  | svc (sub v : Nat)
  deriving DecidableEq, Repr

def reqKey (k : Scd) (c : Nat) : Nat := 8 * k.toNat + c

/-- Management base and stride of QOS_SUB_A, to enumerate the subscribers that differ from reset. -/
def subBase : Nat := (RegRef.mk .qosSubA 0 0 0).addr

/-- Insert a number into a rising list. -/
def insertAsc (n : Nat) : List Nat → List Nat
  | [] => [n]
  | x :: xs => if n < x then n :: x :: xs else if n = x then x :: xs else x :: insertAsc n xs

/-- Subscriber numbers whose QOS_SUB_A was ever written, ascending. -/
def State.subNumbers (s : State) : List Nat :=
  let pick (m : SMap Word) : List Nat := m.filterMap fun e =>
    if subBase ≤ e.1 ∧ e.1 < subBase + 16 * 16384 ∧ (e.1 - subBase) % 16 = 0 then some ((e.1 - subBase) / 16) else none
  (pick s.acts).foldl (fun a n => insertAsc n a) (pick s.regs)

/-- Subscribers one of whose shapers was ever configured (R372), ascending: QOS_SUB_SHR and QOS_SVC_SHR. -/
def State.shaperNumbers (s : State) : List Nat :=
  let svcBase := (RegRef.mk .qosSvcCfg 0 0 0).addr
  let x (a : Nat) : Option Nat :=
    if subBase ≤ a ∧ a < subBase + 16 * 16384 then some ((a - subBase) / 16)
    else if svcBase ≤ a ∧ a < svcBase + 128 * 16384 then some ((a - svcBase) / 128)
    else none
  (s.regs.filterMap fun e => x e.1).foldl (fun a n => insertAsc n a) []

/-- Valid subscribers, with port and key, as the mapping acts (R364). -/
def State.subs (s : State) : List (Nat × Nat × Nat) :=
  s.subNumbers.filterMap fun i =>
    if s.af .qosSubA 31 31 0 i = 1 then some (i, s.af .qosSubA 21 12 0 i, s.af .qosSubA 11 0 0 i) else none

/-- Frames of a queue of frames. -/
def State.frames (s : State) : QId → List Frame
  | .planned p => SMap.get [] s.net.planned p
  | .node p c => SMap.get [] s.net.node (8 * p + c)
  | .svc x v => SMap.get [] s.net.svc (8 * x + v)
  | .req _ _ => []

def State.setFrames (s : State) (q : QId) (fs : List Frame) : State :=
  match q with
  | .planned p => { s with net := { s.net with planned := SMap.set [] s.net.planned p fs } }
  | .node p c => { s with net := { s.net with node := SMap.set [] s.net.node (8 * p + c) fs } }
  | .svc x v => { s with net := { s.net with svc := SMap.set [] s.net.svc (8 * x + v) fs } }
  | .req _ _ => s

/-- The request queue of a class on an SCD. -/
def State.reqQueue (s : State) (k : Scd) (c : Nat) : List QReq := SMap.get [] s.lane.queues (reqKey k c)

def State.setReqQueue (s : State) (k : Scd) (c : Nat) (qs : List QReq) : State :=
  { s with lane := { s.lane with queues := SMap.set [] s.lane.queues (reqKey k c) qs } }

/-- Cells in use in a queue. -/
def State.used (s : State) (q : QId) : Nat :=
  match q with
  | .req k c => ((s.reqQueue k c).map fun (x : QReq) => x.cells).sum
  | q => ((s.frames q).map frameCells).sum

/-- Profile of a queue (R365). -/
def State.prof (s : State) : QId → Nat
  | .req _ c => s.rf .qosRqprof 5 0 0 c
  | .planned p => s.rf .qosPortcfg 27 22 0 p
  | .node p _ => s.rf .qosPortcfg 21 16 0 p
  | .svc x v => s.rf .qosSvcCfg 5 0 0 x v

def State.qMin (s : State) (q : QId) : Nat := s.rf .qosQprofA 16 0 0 (s.prof q)
def State.qAlpha (s : State) (q : QId) : Nat := s.rf .qosQprofB 20 17 0 (s.prof q)
def State.qEcnth (s : State) (q : QId) : Nat := s.rf .qosQprofB 16 0 0 (s.prof q)

/-- The ports an SCD owns: those of its optical octets and of its half of an electrical octet that its mode uses. -/
def State.ownedPorts (s : State) (k : Scd) : List Nat :=
  (List.range 640).filter fun p => s.portActive p && s.owner p == some k

/-- Every queue of an SCD (Table 12.2). -/
def State.queuesOf (s : State) (k : Scd) : List QId :=
  let ports := s.ownedPorts k
  (List.range 8).map (QId.req k) ++ ports.map QId.planned ++
  ports.flatMap (fun p => (List.range 8).map (QId.node p)) ++
  (s.subs.filter (fun x => ports.contains x.2.1)).flatMap (fun x => (List.range 8).map (QId.svc x.1))

/-- Reserved cells R of an SCD (R365). -/
def State.reservedCells (s : State) (k : Scd) : Nat := ((s.queuesOf k).map s.qMin).sum

/-- Shared cells X in use on an SCD (R367). -/
def State.sharedUsed (s : State) (k : Scd) : Nat := ((s.queuesOf k).map fun q => s.used q - s.qMin q).sum

/-- Admission of n cells to a queue of an SCD (R367). -/
def State.admitCells (s : State) (k : Scd) (q : QId) (n : Nat) (marked : Bool) : Bool :=
  let m := s.qMin q
  let u := s.used q
  let sh := u - m
  let e := (u + n - m) - sh
  if e = 0 then true
  else
    let f := (98304 - s.reservedCells k) - s.sharedUsed k
    let limit16 := f * 2 ^ s.qAlpha q / (if marked then 2 else 1)
    decide (e ≤ f) && decide (16 * (sh + e) ≤ limit16)

/-- A queue marks what it admits (R369). -/
def State.marks (s : State) (q : QId) : Bool := s.qEcnth q != 0 && decide (s.qEcnth q ≤ s.used q)

/-- Enqueue a line request on its home SCD, or drop it (R367, R368); a marking queue sets ECE on its responses (R369). -/
def State.enqueueReq (s : State) (k : Scd) (r : Req) (yellow : Bool) : State :=
  if s.scdOut k then s
  else
    let q := QId.req k r.r.cls.toNat
    let n := reqCells r
    if !s.admitCells k q n yellow then s.bump .qosDropbuf
    else
      let mark := s.marks q
      let r := { r with r := { r.r with ce := r.r.ce || mark, yellow := yellow } }
      let s := if mark then s.bump .qosMarkecn else s
      s.setReqQueue k r.r.cls.toNat
        (s.reqQueue k r.r.cls.toNat ++ [{ req := r, at_ := s.now, cells := n }])

/-- The queue of a frame at its egress port (R359 to R361). -/
def State.frameQueue (s : State) (f : Frame) : QId :=
  let p := f.port.toNat
  match f.key with
  | none => .planned p
  | some key =>
    match s.subs.find? (fun x => x.2.1 == p && x.2.2 == key) with
    | some x => .svc x.1 (bits (s.av .qosSubB 0 x.1) (3 * f.cls + 2) (3 * f.cls))
    | none => .node p f.cls

/-- A frame is an IP frame whose ECN field is ECT or CE, so that a queue can mark it (R369). -/
def Frame.ect (f : Frame) : Bool :=
  match f.body with
  | .lmt _ => true
  | .fabric _ _ => true
  | .neighbor _ => false
  | .plain b =>
    let et := beAt b 12 2
    let (et, off) := if et = 0x8100 then (beAt b 16 2, 18) else (et, 14)
    if et = 0x86DD then (beAt b off 2 / 16) % 4 != 0
    else if et = 0x0800 then beAt b (off + 1) 1 % 4 != 0
    else false

/-- Enqueue a frame at its egress SCD: dropped and counted when its queue refuses it (R367, R368), marked CE when its queue
marks (R369). The key of a switched frame is that of its input port when it is enqueued (R360, R364). Frames of M0 and M1 enter no queue of an SCD. -/
def State.enqueueFrame (s : State) (f : Frame) : State :=
  let f := { f with enq := s.now, key := if f.inPort = 0x3FF then f.key else some (0x400 + s.af .qosPortcfg 9 0 0 f.inPort.toNat) }
  let p := f.port.toNat
  if 640 ≤ p then s.setFrames (.planned p) (s.frames (.planned p) ++ [f])
  else
    match s.owner p with
    | none => s.bump .lanePtxdown 1 (portUnit p) (portIndex p)
    | some k =>
      let q := s.frameQueue f
      if !s.admitCells k q (frameCells f) f.yellow then s.bump .qosDropbuf
      else
        let mark := s.marks q && f.ect
        let f := { f with ce := f.ce || mark }
        let s := if mark then s.bump .qosMarkecn else s
        s.setFrames q (s.frames q ++ [f])

/-- The header fields of R323 of an LMT frame that the device builds, which a fabric-protocol frame takes too (assumption 87). Its
operation can become old (R467) only when it carries its tenant's epoch now. -/
def State.stamp (s : State) (f : Frame) : Frame :=
  match f.body with
  | .lmt m =>
    { f with
        tenant := if (s.tenant m.tenant).st == .active && (s.tenant m.tenant).epoch == m.tepoch then f.tenant else none
        dscp := BitVec.ofNat 6 (s.af .lmtIpcfg 5 0 + f.cls)
        hop := BitVec.ofNat 8 (s.af .lmtIpcfg 23 16)
        sport := if m.rsp then BitVec.ofNat 16 (s.av .lmtCfg) else BitVec.ofNat 16 (49152 + m.opid.toNat % 16384) }
  | .fabric _ _ =>
    { f with
        dscp := BitVec.ofNat 6 (s.af .lmtIpcfg 5 0 + f.cls)
        hop := BitVec.ofNat 8 (s.af .lmtIpcfg 23 16)
        sport := f.udp }
  | _ => f

/-- Hand a frame built on SCD k to its egress SCD: 24 cy later when that is another die (R28). -/
def State.sendFrame (s : State) (k : Scd) (frame : Frame) : State :=
  let f := s.stamp frame
  if 640 ≤ f.port.toNat then s.enqueueFrame f
  else if s.owner f.port.toNat == some k then s.enqueueFrame f
  else s.after (s.now + 24) (.frame f)

end Sys2Proof.Machine
end

