-- ==== Sys2Proof/Machine/Frames.lean ====
section
/-! DEFINITION. The bytes of frames: checksums, the LMT header with its nonce and payload (R323, R327, R416, Table 14.2), the
fabric-protocol frame (Table 16.2), congestion marks (R369), and the frame check sequence. -/

namespace Sys2Proof.Machine

/-! ### Checksums -/

/-- Sum of the 16-bit words of a run of bytes, an odd last byte padded with zero. -/
def wordSum : List Byte → Nat
  | [] => 0
  | [a] => 256 * a.toNat
  | a :: b :: bs => 256 * a.toNat + b.toNat + wordSum bs

/-- A ones' complement sum of words, folded to 16 bits (a frame has too few words to carry more than twice). -/
def fold16 (n : Nat) : Nat :=
  let f (x : Nat) : Nat := x % 65536 + x / 65536
  f (f (f n))

/-- The pseudo header that a transport checksum covers. -/
def pseudoHeader (v4 : Bool) (src dst : BitVec 128) (proto n : Nat) : List Byte :=
  if v4 then beBytes 4 src.toNat ++ beBytes 4 dst.toNat ++ beBytes 2 proto ++ beBytes 2 n
  else beBytes 16 src.toNat ++ beBytes 16 dst.toNat ++ beBytes 4 n ++ beBytes 4 proto

/-- One byte of the CRC-32 of the frame check sequence (PRESUMED: IEEE 802.3, assumption 87). -/
def crcByte (c : Nat) (b : Byte) : Nat :=
  (List.range 8).foldl (fun c _ => if c % 2 = 1 then (c / 2) ^^^ 0xEDB88320 else c / 2) (c ^^^ b.toNat)

/-- The frame check sequence of a frame, as carried. -/
def frameFcs (b : List Byte) : List Byte := leBytes 4 (0xFFFFFFFF ^^^ b.foldl crcByte 0xFFFFFFFF)

/-- The first 256 bytes of a frame through its FCS (R383). -/
def withFcs (b : List Byte) : List Byte := if 256 ≤ b.length then b.take 256 else (b ++ frameFcs b).take 256

/-! ### IP and Ethernet -/

/-- The Ethernet header of a frame that the device builds; spec/ gives no MAC address (assumption 87). -/
def ethHeader (p : Port) (dest : BitVec 128) (vlan : Option (BitVec 16)) (etype : Nat) : List Byte :=
  beBytes 12 (Config.macAddresses p dest).toNat ++
  (match vlan with
    | some t => beBytes 2 0x8100 ++ beBytes 2 t.toNat
    | none => []) ++ beBytes 2 etype

/-- An IPv4 header with its checksum: DF 1 (R323). -/
def ip4Header (src dst : BitVec 128) (tos hop proto n id : Nat) : List Byte :=
  let part (sum : Nat) : List Byte := [0x45] ++ beBytes 1 tos ++ beBytes 2 (20 + n) ++ beBytes 2 id ++ beBytes 2 0x4000 ++
    beBytes 1 hop ++ beBytes 1 proto ++ beBytes 2 sum ++ beBytes 4 src.toNat ++ beBytes 4 dst.toNat
  part (65535 - fold16 (wordSum (part 0)))

/-- An IPv6 header. -/
def ip6Header (src dst : BitVec 128) (tos hop proto n flow : Nat) : List Byte :=
  beBytes 4 (6 * 2 ^ 28 + tos * 2 ^ 20 + flow % 2 ^ 20) ++ beBytes 2 n ++ beBytes 1 proto ++ beBytes 1 hop ++
  beBytes 16 src.toNat ++ beBytes 16 dst.toNat

/-- A UDP datagram with its checksum, which is sent as all ones when it is zero. -/
def udpDatagram (v4 : Bool) (src dst : BitVec 128) (sport dport : BitVec 16) (body : List Byte) : List Byte :=
  let n := 8 + body.length
  let part (sum : Nat) : List Byte := beBytes 2 sport.toNat ++ beBytes 2 dport.toNat ++ beBytes 2 n ++ beBytes 2 sum ++ body
  let c := 65535 - fold16 (wordSum (pseudoHeader v4 src dst 17 n) + wordSum (part 0))
  part (if c = 0 then 65535 else c)

/-- A frame that carries a UDP datagram, by the header fields that R323 sets; IPv4 identification and IPv6 flow label are not
given (assumption 87). -/
def udpFrame (f : Frame) (body : List Byte) : List Byte :=
  let tos := 4 * f.dscp.toNat + (if f.ce then 3 else 2)
  let u := udpDatagram f.v4 f.src f.dest f.sport f.udp body
  let label := (Config.ipLabel u).toNat
  if f.v4 then
    ethHeader f.port f.dest f.vlan 0x0800 ++ ip4Header f.src f.dest tos f.hop.toNat 17 u.length (label % 65536) ++ u
  else
    ethHeader f.port f.dest f.vlan 0x86DD ++ ip6Header f.src f.dest tos f.hop.toNat 17 u.length label ++ u

/-! ### LMT -/

/-- The GCM nonce of Table 14.2, `tray` on a port whose role is tray. -/
def lmtNonce (rsp tray : Bool) (opc reqid opid fidx addr : Nat) : BitVec 96 :=
  let b2 := 128 * b2n rsp + 64 * b2n (opc == 0x19 || opc == 0x1F) + 32 * b2n (decide (0x1A ≤ opc ∧ opc ≤ 0x1E)) +
    16 * b2n tray + fidx % 16
  let b3 := if rsp then bits addr 12 7 else 0
  BitVec.ofNat 96 (beNat (beBytes 2 reqid ++ beBytes 1 b2 ++ beBytes 1 b3 ++ beBytes 4 opid ++ beBytes 4 0))

/-- The 40-byte header of a message (Tables 11.2 and 11.3). -/
def Lmt.header (m : Lmt) : List Byte :=
  beBytes 1 1 ++ beBytes 1 m.opc ++ beBytes 1 (128 * b2n m.rsp + 64 * b2n m.enc + 32 * b2n m.cmp + 16 * b2n m.ece) ++
  beBytes 1 m.status.code ++ beBytes 2 (8192 * m.cls + m.tenant.toNat) ++ beBytes 2 m.tepoch.toNat ++ beBytes 2 m.mepoch.toNat ++
  beBytes 2 m.reqid.toNat ++ beBytes 4 m.rkey.toNat ++ beBytes 4 m.opid.toNat ++ beBytes 1 m.fidx ++ beBytes 1 m.nfrm ++
  beBytes 2 m.data.length ++ beBytes 8 m.addr ++ beBytes 2 m.ctr.toNat ++ beBytes 2 m.hint.toNat ++ beBytes 4 m.arg.toNat

/-- A message as carried: header, extension, payload, and under ENC 1 the payload encrypted under the tenant's wire key with
its tag (R327, R416). A wire slot that holds no key seals with a free value (assumption 88). -/
def State.lmtBytes (s : State) (p : Port) (m : Lmt) : List Byte :=
  let aad := m.header ++ m.ext
  let key := (s.slot (wireSlot m.tenant)).key
  if !m.enc then aad ++ m.data
  else if key.length = 32 then
    aad ++ gcmSeal key (lmtNonce m.rsp (s.role p.toNat == 1) m.opc m.reqid.toNat m.opid.toNat m.fidx m.addr) aad m.data
  else aad ++ padTo (m.data.length + 16) (Config.unkeyedSeal aad m.data)

/-! ### The fabric protocol -/

/-- A fabric-protocol message as carried (Table 16.2): header, payload encrypted under the fabric key, tag. -/
def State.fabBytes (s : State) (type : Nat) (m : FabMsg) : List Byte :=
  let h := beBytes 1 1 ++ beBytes 1 type ++ beBytes 1 m.fidx.toNat ++ beBytes 1 m.nfrm.toNat ++ beBytes 8 m.serial.toNat ++
    beBytes 2 m.epoch.toNat ++ beBytes 2 m.payload.length ++ beBytes 8 m.capo.toNat ++ beBytes 4 m.seq.toNat ++
    beBytes 4 m.chunk.toNat
  let nonce := BitVec.ofNat 96 (m.serial.toNat * 2 ^ 32 + m.seq.toNat)
  match s.fab.key with
  | some k => h ++ gcmSeal k nonce h m.payload
  | none => h ++ padTo (m.payload.length + 16) (Config.unkeyedSeal h m.payload)

/-! ### Frames -/

/-- The answer to ARP or a Neighbor Solicitation. PRESUMED (log entry 84): the layouts of RFC 826 and RFC 4861. -/
def neighborBytes (f : Frame) (ip : BitVec 128) : List Byte :=
  let macs := beBytes 12 (Config.macAddresses f.port f.dest).toNat
  if f.v4 then
    ethHeader f.port f.dest f.vlan 0x0806 ++ beBytes 8 0x0001080006040002 ++ macs.drop 6 ++ beBytes 4 ip.toNat ++ macs.take 6 ++
      beBytes 4 f.dest.toNat ++ (if f.vlan.isSome then leBytes 14 0 else leBytes 18 0)
  else
    let part (sum : Nat) : List Byte := beBytes 2 0x8800 ++ beBytes 2 sum ++ beBytes 4 0x60000000 ++ beBytes 16 ip.toNat ++
      beBytes 2 0x0201 ++ macs.drop 6
    let u := part (65535 - fold16 (wordSum (pseudoHeader false f.src f.dest 58 32) + wordSum (part 0)))
    ethHeader f.port f.dest f.vlan 0x86DD ++ ip6Header f.src f.dest 0 255 58 32 (Config.ipLabel u).toNat ++ u

/-- A switched frame with its ECN field set to CE, and the IPv4 header checksum recomputed (R369). -/
def markCe (b : List Byte) : List Byte :=
  let off := if beAt b 12 2 = 0x8100 then 18 else 14
  let et := beAt b (off - 2) 2
  if et = 0x86DD then patch b (off + 1) (beBytes 1 (beAt b (off + 1) 1 ||| 0x30))
  else if et = 0x0800 then
    let n := 4 * (beAt b off 1 % 16)
    let h := patch (patch (sub b off n) 1 (beBytes 1 (beAt b (off + 1) 1 ||| 3))) 10 [0, 0]
    patch b off (patch h 10 (beBytes 2 (65535 - fold16 (wordSum h))))
  else b

/-- The bytes of a frame from its destination MAC address, as it leaves, without its FCS. -/
def State.frameBytes (s : State) (f : Frame) : List Byte :=
  match f.body with
  | .plain b => if f.ce then markCe b else b
  | .lmt m => udpFrame f (s.lmtBytes f.port m)
  | .fabric type m => udpFrame f (s.fabBytes type m)
  | .neighbor ip => neighborBytes f ip

end Sys2Proof.Machine
end

