-- ==== Sys2Proof/Machine/Egress.lean ====
section
/-! DEFINITION. The frames the device originates (R323, R329, R338), the rate governor (R342 to R345), egress scheduling and
shapers (R67, R370 to R376), and mirroring (R382 to R384). -/

namespace Sys2Proof.Machine

/-! ### Origination -/

/-- The next OPID of a tenant's wire key (R417; it counts from 0, assumption 10). -/
def State.nextOpid (s : State) (t : Tenant) : Word × State :=
  let n := SMap.get 0 s.net.opid t.toNat
  (BitVec.ofNat 32 n, { s with net := { s.net with opid := SMap.set 0 s.net.opid t.toNat (wrap32 (n + 1)) } })

/-- Frames originated for a tenant are encrypted (R418). -/
def State.wenc (s : State) (t : Tenant) : Bool := s.af .lmtTenpol 1 1 0 t.toNat == 1

/-- The current map epoch (FAB_EPOCH.CUR). -/
def State.mapEpoch (s : State) : BitVec 16 := BitVec.ofNat 16 (s.rf .fabEpoch 15 0)

/-- REQID of the frames the device originates (R338). -/
def State.selfReqid (s : State) : BitVec 16 := BitVec.ofNat 16 (s.rv .lmtSelf)

/-- An LMT_IPADDR entry as it acts (Table 11.8: byte 4w in bits [31:24] of word w). -/
def State.ipEntry (s : State) (i : Nat) : BitVec 128 :=
  BitVec.ofNat 128 ((List.range 4).foldl (fun v w => v * 2 ^ 32 + s.av .lmtIpaddr 0 i w) 0)

/-- The lowest valid address of a family (R323); zero when none is valid. -/
def State.sourceIp (s : State) (v4 : Bool) : BitVec 128 :=
  let fam (i : Nat) : Bool := (s.ipEntry i).toNat / 2 ^ 32 == 0xFFFF
  match firstBelow 16 (fun i => bitAt (s.av .lmtIpvalid) i && fam i == v4) with
  | some i => s.ipEntry i
  | none => 0

/-- A frame that carries an LMT message. -/
def lmtFrame (port : Port) (m : Lmt) (dest src : BitVec 128) (udp : BitVec 16) (v4 : Bool) (vlan : Option (BitVec 16))
    (key : Option Nat) : Frame :=
  { port := port, cls := m.cls, size := lmtSize v4 vlan m.ext.length m.data.length m.enc, body := .lmt m, dest := dest,
    src := src, udp := udp, v4 := v4, vlan := vlan, tenant := some (m.tenant, m.tepoch), fwd := none, key := key,
    inPort := 0x3FF, ce := false, yellow := false, enq := 0 }

/-- The LMT response of a piece (R329): request fields echoed, RKEY zero, CLASS 3 unless a coherence class applies. -/
def State.responseMsg (s : State) (opc cls : Nat) (r : LineReq) (st : Status) (data : List Byte) : Lmt :=
  { opc := opc, rsp := true, status := st, cls := cls, tenant := r.tenant, tepoch := r.tepoch, mepoch := r.mepoch,
    reqid := r.reqid, rkey := 0, opid := r.opid, fidx := r.fidx.toNat, nfrm := r.nfrm.toNat, addr := r.addr.toNat,
    ctr := 0, hint := 0, arg := r.arg, ext := [], data := data, enc := r.enc || s.wenc r.tenant, cmp := false,
    ece := r.ce }

/-- Send the response of a piece from SCD k back over the port it came in on (R323, R332); a contribution line of R338 gets
none. -/
def State.sendResponse (s : State) (k : Scd) (opc : Nat) (r : LineReq) (st : Status) (data : List Byte) : State :=
  if r.internal then s
  else
    let m := s.responseMsg opc 3 r st data
    s.sendFrame k (lmtFrame r.port m r.ret.ip r.ret.dstIp r.ret.udp r.ret.v4 r.ret.vlan none)

/-- The UDP source port of a request the device originates (R323); the destination port is the configured LMT port unless
the sender names one. -/
def lmtPort (s : State) : BitVec 16 := BitVec.ofNat 16 (s.av .lmtCfg)

/-! ### The governor -/

/-- LADDER of R343. -/
def ladder (k : Nat) : Nat := [65536, 60098, 55109, 50535, 46341, 42495, 38968, 35734].getD (k % 8) 65536

def State.flow (s : State) (i : Nat) : Flow := SMap.get Flow.fresh s.net.flows i
def State.setFlow (s : State) (i : Nat) (f : Flow) : State :=
  { s with net := { s.net with flows := SMap.set Flow.fresh s.net.flows i f } }

/-- RC of R343 for a port rate in units of 100 Mb/s. -/
def State.flowRate (s : State) (f : Flow) (rmax : Nat) : Nat :=
  max (s.rv .lmtRgMin) ((rmax * ladder f.step) >>> (16 + f.step / 8))

/-- Flow index of a governed frame (R343). -/
def flowIndex (dest : BitVec 128) (c : Nat) : Nat := (dest.toNat % 2 ^ 13) ^^^ (c <<< 10) % 2 ^ 13

/-- Key of a governed request: OPIDs are counted per tenant (R417). -/
def governedKey (t : Tenant) (opid : Word) : Nat := 2 ^ 32 * t.toNat + opid.toNat

/-- Hand a governed frame to the pacing stage (R342, R359); its tenant and OPID find the flow again (R344). -/
def State.sendGoverned (s : State) (f : Frame) (t : Tenant) (opid : Word) : State :=
  let i := flowIndex f.dest f.cls
  { s with net := { s.net with
      pacing := s.net.pacing ++ [(i, { s.stamp f with flow := some i })], governed := s.net.governed.insert (governedKey t opid) i } }

/-- The head frame of a flow may start: pacing is off or NEXT is reached (R345). -/
def State.paceReady (s : State) (i : Nat) : Bool :=
  s.rf .lmtRgCfg 31 31 == 0 || decide ((s.flow i).next ≤ s.now)

/-- A frame of a flow that was released waits for its egress start. -/
def State.flowWaits (s : State) (i : Nat) : Bool :=
  let has (fs : List Frame) : Bool := fs.any fun (f : Frame) => f.flow == some i
  s.net.planned.any (fun e => has e.2) || s.net.node.any (fun e => has e.2) || s.net.svc.any (fun e => has e.2)

/-- The egress start of a governed frame moves NEXT of its flow on (R345). -/
def State.flowStart (s : State) (f : Frame) : State :=
  match f.flow with
  | none => s
  | some i =>
    let w := s.flow i
    let rmax := 10 * s.portRate f.port.toNat
    s.setFlow i { w with next := s.now + ceilDiv (120 * f.size) (s.flowRate w rmax), rmax := rmax }

/-- Release the oldest paced frame of a flow into its queue (R345): no other of its flow waits there, so that it starts no earlier
than NEXT. -/
def State.paceRelease (s : State) (i : Nat) : State :=
  match s.net.pacing.find? (fun x => x.1 == i) with
  | none => s
  | some x =>
    if !s.paceReady i || (s.rf .lmtRgCfg 31 31 == 1 && s.flowWaits i) then s
    else
      ({ s with net := { s.net with pacing := dropFirst (fun y => y.1 == i) s.net.pacing } }).enqueueFrame x.2

/-- Release every paced frame whose flow is ready, in order. -/
def State.paceAll (s : State) : State := s.net.pacing.foldl (fun s x => s.paceRelease x.1) s

/-- The update of one flow at cy 1472 (R344). -/
def State.flowUpdate (s : State) (f : Flow) : Flow :=
  let dgain := s.rf .lmtRgCfg 26 24
  let thold := s.rf .lmtRgCfg 23 20
  let tup := s.rf .lmtRgCfg 19 12
  let stepmax := s.rf .lmtRgCfg 6 0
  let f :=
    if 0 < f.marks then
      if f.hold = 0 then
        { f with quiet := 0, step := min (f.step + 1 + dgain * f.marks / f.acks) stepmax, hold := thold }
      else { f with quiet := 0, hold := f.hold - 1 }
    else if 0 < f.hold then { f with hold := f.hold - 1 }
    else if f.quiet + 1 = tup then { f with quiet := 0, step := f.step - 1 }
    else { f with quiet := f.quiet + 1 }
  { f with acks := 0, marks := 0 }

/-- Every flow is updated (R344). A flow at reset is quiet: its QUIET count runs too, but on STEP 0 it changes no rate, so
an unlisted flow stays unlisted (assumption 16). -/
def State.flowsUpdate (s : State) : State :=
  s.net.flows.foldl (fun s e => s.setFlow e.1 (s.flowUpdate e.2)) s

/-- A response to a governed frame (R344). -/
def State.governedReply (s : State) (t : Tenant) (opid : Word) (ece : Bool) : State :=
  match s.net.governed.find (governedKey t opid) with
  | none => s
  | some i =>
    let f := s.flow i
    let s := s.setFlow i { f with acks := f.acks + 1, marks := f.marks + b2n ece }
    if ece then s.bump .lmtEcerx else s

/-! ### Shapers -/

/-- RATE and BURST of a shaper: j = 0 the subscriber's, j = 1 + v its service v's. -/
def State.shaperCfg (s : State) (x j : Nat) : Nat × Nat :=
  if j = 0 then (s.rf .qosSubShr 15 0 0 x, s.rf .qosSubShb 19 0 0 x)
  else (s.rf .qosSvcShr 15 0 0 x (j - 1), s.rf .qosSvcShb 19 0 0 x (j - 1))

def State.tokens (s : State) (x j : Nat) : Int := SMap.get 0 s.net.tokens (9 * x + j)
def State.setTokens (s : State) (x j : Nat) (v : Int) : State :=
  { s with net := { s.net with tokens := SMap.set 0 s.net.tokens (9 * x + j) v } }

/-- A shaper is eligible (R374, R375). -/
def State.shaperOk (s : State) (x j : Nat) : Bool := (s.shaperCfg x j).1 == 0 || decide (0 ≤ s.tokens x j)

/-- The cy multiple of 15 passed n times: every shaper with a rate gains (R372). -/
def State.shaperGain (s : State) (n : Nat) : State :=
  s.shaperNumbers.foldl (fun s x =>
    (List.range 9).foldl (fun s j =>
      let c := s.shaperCfg x j
      if c.1 = 0 then s else s.setTokens x j (min (512 * c.2) (s.tokens x j + n * c.1))) s) s

/-- A frame of B bytes starts: its shapers pay (R373). -/
def State.shaperPay (s : State) (x j b : Nat) : State :=
  if (s.shaperCfg x j).1 = 0 then s else s.setTokens x j (s.tokens x j - 8 * b)

/-! ### Meters (R377 to R381) -/

def meterKey (k : Scd) (m : Nat) : Nat := 8192 * k.toNat + m

/-- Bucket depths of a meter: 512 × CBS and 512 × PBS. -/
def State.meterFull (s : State) (m : Nat) : Int × Int :=
  ((512 * s.rf .qosMetBurst 15 0 0 m : Nat), (512 * s.rf .qosMetBurst 31 16 0 m : Nat))

def State.meter (s : State) (k : Scd) (m : Nat) : Int × Int :=
  (s.net.meters.find (meterKey k m)).getD (s.meterFull m)

/-- Store the buckets of a meter; full buckets are not listed. -/
def State.setMeter (s : State) (k : Scd) (m : Nat) (v : Int × Int) : State :=
  { s with net := { s.net with
      meters := if v = s.meterFull m then s.net.meters.erase (meterKey k m) else s.net.meters.insert (meterKey k m) v } }

/-- The cy multiple of 15 passed n times: every meter gains CIR and PIR up to its depths (R378). -/
def State.meterGain (s : State) (n : Nat) : State :=
  s.net.meters.foldl (fun s e =>
    let m := e.1 % 8192
    let full := s.meterFull m
    s.setMeter (BitVec.ofNat 5 (e.1 / 8192)) m
      (min full.1 (e.2.1 + n * s.rf .qosMetCir 15 0 0 m), min full.2 (e.2.2 + n * s.rf .qosMetPir 15 0 0 m))) s

/-- Colour of a frame of L bytes (R378): 0 green, 1 yellow, 2 red. -/
def State.meterColour (s : State) (k : Scd) (m l : Nat) (dei : Bool) : Nat × State :=
  let b := s.meter k m
  let n : Int := (8 * l : Nat)
  let aware := s.rf .qosMetCtl 0 0 0 m == 1
  if b.2 < n then (2, s)
  else if b.1 < n || (aware && dei) then (1, s.setMeter k m (b.1, b.2 - n))
  else (0, s.setMeter k m (b.1 - n, b.2 - n))

/-! ### Mirroring -/

/-- Sample a frame in every session that matches it (R382 to R384). -/
def State.mirror (s : State) (dir port cls : Nat) (k : Scd) (colour : Nat) (dropped : Bool) (inPort outPort l : Nat)
    (bytes : List Byte) : State :=
  (List.range 16).foldl (fun s i =>
    if s.rf .qosMirA 31 31 0 i = 1 ∧ s.rf .qosMirA 30 30 0 i = dir ∧ s.rf .qosMirA 25 16 0 i = port ∧
        bitAt (s.rf .qosMirA 15 8 0 i) cls = true then
      let n := SMap.get 0 s.net.mirror i
      let s := { s with net := { s.net with mirror := SMap.set 0 s.net.mirror i (n + 1) } }
      if n % 2 ^ s.rf .qosMirA 4 0 0 i ≠ 0 then s
      else if 64 ≤ countIf (fun x => x.1 == k.toNat) s.net.samples then s.bump .qosSmpdrop
      else
        let s := s.bump .qosMirCnt 1 0 i
        let h := leBytes 8 s.time.stroke ++ leBytes 2 s.time.cy ++ leBytes 1 i ++
          leBytes 1 (dir + 2 * colour + 8 * b2n dropped) ++ leBytes 2 inPort ++ leBytes 2 outPort ++ leBytes 1 cls ++
          leBytes 1 0 ++ leBytes 2 l
        { s with net := { s.net with samples := s.net.samples ++ [(k.toNat, padTo 64 h ++ padTo 320 (withFcs bytes))] } }
    else s) s

/-! ### Egress -/

/-- BARRIER holds a hierarchy frame: it was enqueued after the oldest change still waited for (R364). -/
def State.barred (s : State) (p : Nat) (f : Frame) : Bool :=
  match SMap.get [] s.net.barrier p with
  | c :: _ => decide (c ≤ f.enq)
  | [] => false

/-- The queues of a port that hold its hierarchy frames: default node and subscribers. -/
def State.hierQueues (s : State) (p : Nat) : List QId :=
  (List.range 8).map (QId.node p) ++ s.subNumbers.flatMap (fun x => (List.range 8).map (QId.svc x))

/-- Hierarchy frames of a port that were enqueued before its change of mapping. -/
def State.beforeBarrier (s : State) (p : Nat) (c : Nat) : Bool :=
  (s.hierQueues p).any fun q => (s.frames q).any fun f => f.port.toNat == p && decide (f.enq < c)

/-- The changes a port still waits for: those that an earlier hierarchy frame of the port precedes, and all after one of these. -/
def State.barriersLeft (s : State) (p : Nat) : List Nat :=
  (SMap.get [] s.net.barrier p).dropWhile fun c => !s.beforeBarrier p c

/-- A port clears BARRIER when every earlier hierarchy frame has left or been dropped (R364). -/
def State.barrierTry (s : State) (p : Nat) : State :=
  { s with net := { s.net with barrier := SMap.set [] s.net.barrier p (s.barriersLeft p) } }

/-- Head of a queue of a port that BARRIER does not hold. -/
def State.head (s : State) (p : Nat) (q : QId) : Option Frame :=
  match s.frames q with
  | f :: _ => if f.port.toNat == p && !s.barred p f then some f else none
  | [] => none

/-- One deficit round robin selection (R371) over a ring of (number, weight, head bytes if eligible), from the current
number: the chosen number, the new deficits and the new current number. -/
def drrLoop : Nat → List (Nat × Nat × Option Nat) → SMap Nat → Nat → (Nat → Nat) → Option (Nat × SMap Nat)
  | 0, _, _, _, _ => none
  | fuel + 1, ring, d, cur, key =>
    match ring.find? (fun x => decide (cur ≤ x.1)) with
    | none =>
      match ring with
      | [] => none
      | x :: _ => drrLoop fuel ring d x.1 key
    | some (n, w, head) =>
      match head with
      | none => drrLoop fuel ring (d.erase (key n)) (n + 1) key
      | some b =>
        let v := SMap.get 0 d (key n)
        if b ≤ v then some (n, SMap.set 0 d (key n) (v - b))
        else drrLoop fuel ring (SMap.set 0 d (key n) (v + w * 256)) (n + 1) key

/-- Steps in which a loop over a ring ends: at weight 1 every round adds 256 B to each deficit, so the longest head is
reached (R371 bounds no round). -/
def drrFuel (ring : List (Nat × Nat × Option Nat)) : Nat :=
  (((ring.map fun x => x.2.2.getD 0).foldl max 0) / 256 + 3) * (ring.length + 1)

/-- The service queue a subscriber would send from (R370, step 3): lowest PRIO among its eligible queues, then deficit round
robin by WEIGHT; with the new service deficits. -/
def State.svcPick (s : State) (p x : Nat) : Option (Nat × Frame × SMap Nat) :=
  let elig := (List.range 8).filterMap fun v =>
    if s.shaperOk x (v + 1) then (s.head p (.svc x v)).map (fun f => (v, f)) else none
  match (elig.map fun (e : Nat × Frame) => s.rf .qosSvcCfg 16 14 0 x e.1).min? with
  | none => none
  | some pr =>
    let ring := (List.range 8).filterMap fun v =>
      if s.rf .qosSvcCfg 16 14 0 x v = pr then
        some (v, s.rf .qosSvcCfg 13 6 0 x v, (elig.find? (fun (e : Nat × Frame) => e.1 == v)).map (fun e => e.2.size))
      else none
    match drrLoop (drrFuel ring) ring s.net.svcDeficit (SMap.get 0 s.net.svcRing x) (fun v => 8 * x + v) with
    | none => none
    | some (v, d) => (elig.find? (fun (e : Nat × Frame) => e.1 == v)).map (fun e => (v, e.2, d))

/-- The frame the default node of a port would send: lowest class with a frame. -/
def State.nodePick (s : State) (p : Nat) : Option (Nat × Frame) :=
  (List.range 8).findSome? fun c => (s.head p (.node p c)).map (fun f => (c, f))

/-- Take the head of a queue. -/
def State.popFrame (s : State) (q : QId) : State := s.setFrames q ((s.frames q).drop 1)

/-- Subscribers that take part at a port: those its mapping attaches, and those that still hold frames of it from before a
change of mapping (R364). -/
def State.attached (s : State) (p : Nat) : List Nat :=
  let now := (s.subs.filter (fun x => x.2.1 == p)).map fun x => x.1
  s.subNumbers.filter fun x =>
    now.contains x || (List.range 8).any fun v => (s.frames (.svc x v)).any fun f => f.port.toNat == p

/-- Select the next frame of a port and take it from its queue (R370). -/
def State.selectFrame (s : State) (p : Nat) : Option (Frame × State) :=
  match s.frames (.planned p) with
  | f :: _ => some (f, s.popFrame (.planned p))
  | [] =>
    let subs := s.attached p
    let picks := subs.map fun x => (x, if s.shaperOk x 0 then s.svcPick p x else none)
    let nodeP := s.nodePick p
    let ring := (0, s.rf .qosPortcfg 31 28 0 p, nodeP.map (fun e => e.2.size)) ::
      (picks.map fun (e : Nat × Option (Nat × Frame × SMap Nat)) =>
        (1 + e.1, s.rf .qosSubB 31 24 0 e.1, e.2.map (fun y => y.2.1.size)))
    match drrLoop (drrFuel ring) ring s.net.deficit (SMap.get 0 s.net.ring p) (fun n => 16385 * p + n) with
    | none => none
    | some (n, d) =>
      let s := { s with net := { s.net with deficit := d, ring := SMap.set 0 s.net.ring p n } }
      if n = 0 then nodeP.map fun e => (e.2, s.popFrame (.node p e.1))
      else
        match (picks.find? (fun (e : Nat × Option (Nat × Frame × SMap Nat)) => e.1 + 1 == n)).bind (fun e => e.2) with
        | none => none
        | some (v, f, sd) =>
          let x := n - 1
          let s := { s with net := { s.net with svcDeficit := sd, svcRing := SMap.set 0 s.net.svcRing x v } }
          some (f, ((s.popFrame (.svc x v)).shaperPay x 0 f.size).shaperPay x (v + 1) f.size)

/-- What a frame of an old tenant epoch becomes at egress start (Table 15.11): `none` when it is not sent. A response is
rebuilt as LEN 0 with TENANT_GONE; frames of MOV, tray forwards and stashes are not sent. -/
def State.staleFrame (s : State) (f : Frame) : Option Frame :=
  match f.tenant, f.body with
  | some (t, e), .lmt m =>
    if (s.tenant t).st == .active && (s.tenant t).epoch == e then some f
    else if m.rsp && decide (m.opc < 0x10) then
      let m := { m with status := .tenantGone, data := [], ece := m.ece }
      some { f with body := .lmt m, size := lmtSize f.v4 f.vlan 0 0 m.enc }
    else if m.opc == 0x15 || m.opc == 0x16 || m.opc == 0x17 then some f
    else if decide (0x19 ≤ m.opc) then some f
    else none
  | _, _ => some f

/-- A request to a tray leaves: its wait counts from the stroke of its departure (R349). -/
def State.forwardLeft (s : State) (f : Frame) : State :=
  match f.body with
  | .lmt m =>
    if m.rsp then s
    else { s with lane := { s.lane with fwd := s.lane.fwd.map fun (x : Fwd) =>
        if x.tenant = m.tenant ∧ x.opid = m.opid ∧ x.port = f.port then { x with stroke := (s.now + 96) / 1536 } else x } }
  | _ => s

/-- Record a frame whose egress starts now (assumption 11). -/
def State.transmit (s : State) (f : Frame) : State :=
  let p := f.port.toNat
  let bytes := s.frameBytes f
  let s := (s.forwardLeft f).flowStart f
  let s := { s with net := { s.net with
      wire := s.net.wire ++ [{ at_ := s.now, frame := f, bytes := bytes, lost := false }],
      busy := s.net.busy.insert p (s.now + ceilDiv (12 * f.size) (s.portRate p)) } }
  if p < 640 then
    let s := s.bump .lanePtxfrm 1 (portUnit p) (portIndex p)
    match s.owner p with
    | some k => s.mirror 1 p f.cls k f.colour false (if f.inPort = 0x3FF then 0xFFFF else f.inPort.toNat) p (f.size - 8) bytes
    | none => s
  else s

/-- The transmitter of a port is free. -/
def State.txFree (s : State) (p : Nat) : Bool := decide (SMap.get 0 s.net.busy p ≤ s.now)

/-- A lane operation whose tray request was not sent because its epoch is old completes at once (Table 15.11); the request
lane supplies the operation (Machine/Lane.lean schedules its response). -/
def State.failForward (s : State) (op : Nat) : State :=
  match s.lane.ops.find? (fun o => o.id == op) with
  | none => s
  | some o =>
    let s := { s with lane := { s.lane with
        ops := s.lane.ops.map fun (x : LaneOp) =>
          if x.id = op then { x with status := .tenantGone, data := [], waits := false, due := s.now } else x,
        fwd := s.lane.fwd.filter fun (x : Fwd) => x.kind != FwdKind.request op } }
    s.after s.now (.respond o.k op)

/-- A stash that was not sent leaves its line in I (Table 15.11), as STASH_NAK does; requests held for it may re-enter. -/
def State.failStash (s : State) (m : Lmt) : State :=
  let line := m.addr / 128
  { s with
    coh := { s.coh with
      entries := s.coh.entries.erase line,
      txns := s.coh.txns.filter fun t => !(t.line == line && t.kind == .stash) },
    lane := { s.lane with held := s.lane.held.map fun h => if h.line = line then { h with released := true, since := s.now } else h } }

/-- Egress start of a selected frame: discarded on a port that is down (R392), rebuilt or not sent when its tenant epoch is
old (Table 15.11), else transmitted. -/
def State.egress (s : State) (f : Frame) : State :=
  let p := f.port.toNat
  if !s.portUp p then
    if p < 640 then s.bump .lanePtxdown 1 (portUnit p) (portIndex p) else s
  else
    match s.staleFrame f with
    | some f => s.transmit f
    | none =>
      match f.fwd, f.body with
      | some op, _ => s.failForward op
      | none, .lmt m => if m.opc = 0x18 then s.failStash m else s
      | none, _ => s

/-- A port whose transmitter is free starts its next frame (R370). -/
def State.egressStart (s : State) (p : Nat) : State :=
  if !s.txFree p then s
  else
    match s.selectFrame p with
    | none => s
    | some (f, s) => (s.egress f).barrierTry p

/-- Ports with frames waiting. -/
def State.waitingPorts (s : State) : List Nat :=
  let a := (s.net.planned.map fun e => e.1) ++ (s.net.node.map fun e => e.1 / 8) ++
    (s.net.svc.flatMap fun e => e.2.map fun f => f.port.toNat)
  a.eraseDups

/-- Frames waiting for a port. -/
def State.waitingCount (s : State) (p : Nat) : Nat :=
  (s.frames (.planned p)).length + ((s.hierQueues p).map fun q => countIf (fun f => f.port.toNat == p) (s.frames q)).sum

/-- Every port whose transmitter is free starts its next frame that is sent: one that is not sent leaves its cy to the next
(R67, Table 15.11), and a port that is down discards all that reaches egress start. -/
def State.egressAll (s : State) : State :=
  s.waitingPorts.foldl (fun s p => forUpto (s.waitingCount p) (fun _ s => s.egressStart p) s) s

/-! ### Rows -/

/-- EGRESS_START (R370): the port's transmitter selects and starts its next frame. -/
def execEgressStart (p : Port) (s : State) : Host.Outcome State Fault Refusal := .next (s.egressStart p.toNat)

/-- BARRIER_CLEAR (R364). -/
def execBarrierClear (p : Port) (s : State) : Host.Outcome State Fault Refusal := .next (s.barrierTry p.toNat)

/-- GOVERNED_RESPONSE (R344). -/
def execGovernedResponse (opid : WireId) (ece : Bool) (s : State) : Host.Outcome State Fault Refusal :=
  .next (s.governedReply opid.tenant opid.opid ece)

/-- A sample is written to the sample ring, or dropped when the ring is full (R383, R384). -/
def State.sampleWrite (s : State) : State :=
  match s.net.samples with
  | [] => s
  | x :: xs =>
    let s := { s with net := { s.net with samples := xs } }
    let head := s.rv .qosSmpHead
    let n := s.rf .qosSmpSize 4 0
    if wrap32 (head + 2 ^ 32 - s.rv .qosSmpTail) = 2 ^ n then s.bump .qosSmpdrop
    else
      let base := s.rf .qosSmpBaseHi 24 0 * 2 ^ 32 + s.rf .qosSmpBaseLo 31 7 * 128
      (s.store (base + 384 * (head % 2 ^ n)) x.2).bump .qosSmpHead

/-- SAMPLE_RECORD_WRITE (R383). -/
def execSampleRecordWrite (s : State) : Host.Outcome State Fault Refusal := .next s.sampleWrite

end Sys2Proof.Machine
end

