-- ==== Sys2Proof/Machine/Layers.lean ====
section
/-! DEFINITION. Encryption in memory (R413 to R415): which key protects a line, the lines of a run of bytes under XTS, and what the
stacks store. `mem.bytes` holds the near tier in the clear; what a stack stores of it is `storedWord`. -/

namespace Sys2Proof.Machine

/-- The tenant that owns the granule of an address, if an OWNER entry covers it. -/
def State.granuleOwner (s : State) (a : Nat) : Option Tenant :=
  s.sec.grants.findSome? fun e => if e.2.owner && e.2.spans a 1 then some e.2.tenant else none

/-- The tenant whose key protects a shadow: the owner of its granule, else the management tenant (assumption 23). -/
def State.granuleTenant (s : State) (a : Nat) : Tenant := (s.granuleOwner a).getD 0

/-- The slot whose key encrypts a granule: the weight slot of a weight-class granule, else the memory slot of its owner; for a
granule that no OWNER entry covers, the memory slot of the tenant given. -/
def State.granuleSlot (s : State) (t : Tenant) (a : Nat) : Nat :=
  match s.weightClass a with
  | some u => weightSlot u
  | none => memSlot ((s.granuleOwner a).getD t)

/-- The device key, which the root of trust holds (R414): a value of the part (assumption 93). -/
def State.deviceKey (s : State) : List Byte := padTo 64 (Config.deviceKey s.sec.serial)

/-- The key that encrypts a near-tier line: that of the owner's slot; the device key for the control region, the FTL map area and a
granule that no tenant owns (Table 14.1, R465). -/
def State.memKey (s : State) (a : Nat) : List Byte :=
  match s.region a with
  | .userNear =>
    match s.granuleOwner a with
    | some t => (s.slot (s.granuleSlot t a)).key
    | none => s.deviceKey
  | _ => s.deviceKey

/-- Bytes at an address of the space that stores them, encrypted or decrypted line by line, the tweak being the line's number there
(R415). Whole blocks of 16 bytes can be worked on; other bytes, and bytes whose key slot is empty, stay as they are (assumption
94). -/
def xtsRun (enc : Bool) (key : List Byte) (a : Nat) (data : List Byte) : List Byte :=
  if key.length ≠ 64 ∨ a % 16 ≠ 0 ∨ data.length % 16 ≠ 0 then data
  else
    (List.range (ceilDiv (a % 128 + data.length) 128)).flatMap fun i =>
      let line := a / 128 + i
      let lo := max a (128 * line)
      let hi := min (a + data.length) (128 * line + 128)
      let bs := List.replicate (lo - 128 * line) 0 ++ sub data (lo - a) (hi - lo)
      sub (xtsUnit enc key line (padTo 128 bs)) (lo - 128 * line) (hi - lo)

/-- A near-tier line as its stack stores it (R413): the line in the clear under the key of its granule and its near address. -/
def State.storedLine (s : State) (line : Nat) : List Byte :=
  xtsRun true (s.memKey (128 * line)) (128 * line) (s.bankRead (128 * line) 128)

/-- The code word of a 32-bit word that a stack stores: ciphertext with its check bits (R26, R413), a single-bit error in it inverted
(R561). -/
def State.storedWord (s : State) (w : Nat) : BitVec 39 :=
  let c : BitVec 32 := BitVec.ofNat 32 (leNat (sub (s.storedLine (w / 32)) (4 * (w % 32)) 4))
  let word := Config.checkBits c ++ c
  match s.mem.soft.find w with
  | some b => word ^^^ ((1 : BitVec 39) <<< b)
  | none => word

end Sys2Proof.Machine
end

