-- ==== Sys2Proof/Machine/Extents.lean ====
section
/-! DEFINITION. Where a piece's bytes live: the extent table (R247 to R253), delta bases (R420 to R423) and the fixed-rate
slots of FORM 4 extents (R259 to R263, R424 to R431). -/

namespace Sys2Proof.Machine

/-- The place of an address, with the address or extent that serves it. -/
inductive Place
  | near (a : Nat)
  /-- VALID shadow of a far-cached extent, at its near address -/
  | shadow (a x : Nat)
  | far (x : Nat)
  | lost
  | cold (x : Nat)
  | slot (x : Nat)
  | scratch (k : Nat)
  | control
  | nowhere
  deriving DecidableEq, Repr

/-- The valid descriptor that covers an address, as the SCD that looks it up holds it (R248; Table 19.1 for a bad entry). -/
def State.extentAt (s : State) (k : Scd) (a : Nat) : Option (Nat × Extent) :=
  s.tier.ext.find? fun e =>
    e.2.form != 0 && decide (e.2.vbase ≤ a ∧ a < e.2.vbase + e.2.len * 2 ^ 21) && !s.tier.bad.contains (k.toNat, e.1)

/-- The place of an address (R230 to R233, R253, R572). -/
def State.place (s : State) (k : Scd) (a : Nat) : Place :=
  match s.region a with
  | .userNear => .near a
  | .control => .control
  | .scratch j => .scratch j
  | .mapped =>
    match s.extentAt k a with
    | none => .nowhere
    | some (x, e) =>
      match e.form with
      | 1 => .far x
      | 2 =>
        let sh := e.aux + (a - e.vbase)
        if e.st = 4 then .lost
        else if e.st = 2 ∨ e.st = 3 then (if s.stackOut (stackOf sh) then .far x else .shadow sh x)
        else .far x
      | 3 => .cold x
      | 4 => .slot x
      | _ => .nowhere
  | _ => .nowhere

/-- The near address whose bank serves a place. -/
def Place.nearAddr : Place → Option Nat
  | .near a => some a
  | .shadow a _ => some a
  | .control => none
  | _ => none

def State.extent (s : State) (x : Nat) : Extent :=
  (s.tier.ext.find x).getD
    { vbase := 0, len := 0, form := 0, store := 0, ovfk := 0, st := 0, target := 0, aux := 0, port := 0, baseid := 0,
      trayIp := 0 }

/-! ### Flash -/

/-- Ports of this device whose members in the map are flash trays (R481). -/
def State.flashMembers (s : State) : List Nat :=
  match s.fab.map with
  | none => []
  | some m =>
    let me := m.devs.findIdx? fun d => d.serial == s.sec.serial
    (m.mems.filter fun x => x.role == 5 && !x.lost && decide (x.port.toNat < 640) && me == some x.dev.toNat).map fun x => x.port.toNat

/-- Pages of a 64 KiB unit. -/
def FlashTray.unitPages (t : FlashTray) : Nat := 65536 / t.pagesz

/-- Bytes of a block. -/
def FlashTray.blockSize (t : FlashTray) : Nat := t.pagesz * t.ppb

/-- A tray whose geometry keeps Table 11.7 and whose blocks hold a unit. -/
def FlashTray.usable (t : FlashTray) : Bool :=
  (t.pagesz == 4096 || t.pagesz == 8192 || t.pagesz == 16384) && decide (t.unitPages ≤ t.ppb) && decide (1 ≤ t.blocks)

/-- Ports of the flash trays in use: those of the map that have been identified. -/
def State.flashTrays (s : State) : List Nat :=
  s.flashMembers.filter fun p => match s.tier.trays.find p with
    | some t => t.usable
    | none => false

/-- The tray to which the FTL writes a unit now: its choice is not stated (assumption 95). -/
def State.ftlTarget (s : State) (u : Nat) : Nat :=
  let c := (Config.ftlTray s.tier.journal u).toNat
  match s.flashTrays with
  | [] => c
  | ts => ts.getD (c % ts.length) 0

/-- The tray for whose free blocks a new write of a unit waits (R269). -/
def State.ftlHold (s : State) (u : Nat) : Option Nat :=
  if s.tier.starved.any (fun (p : Port) => p.toNat == s.ftlTarget u) then some (s.ftlTarget u) else none

/-- The unit of an FTL byte offset has a place on flash. -/
def State.onFlash (s : State) (off : Nat) : Bool := (s.tier.located.find (off / 65536)).isSome

/-- An operation is in the hands of the flash translation layer (R264). -/
def State.ftlStart (s : State) (f : FtlOp) : State :=
  ({ s with tier := { s.tier with ftl := s.tier.ftl ++ [f] } }).after s.now (.ftlGo f.id)

/-- A write of Cold bytes as the FTL takes it. -/
def State.ftlWrite (s : State) (id op off : Nat) (data : List Byte) : FtlOp :=
  { id := id, op := op, off := off, write := true, data := data, len := data.length, heldFor := s.ftlHold (off / 65536),
    stroke := s.time.stroke, tray := s.ftlTarget (off / 65536) }

/-- A read of Cold bytes as the FTL takes it. -/
def State.ftlRead (s : State) (id op unit off n : Nat) : FtlOp :=
  { id := id, op := op, off := off, write := false, data := [], len := n, heldFor := none, stroke := s.time.stroke, unit := unit }

/-! ### Bases -/

def State.base (s : State) (b : Nat) : Option Base := s.tier.bases.find b

/-- A range touches a registered base, and is read-only (R421). -/
def State.inBase (s : State) (a n : Nat) : Bool :=
  s.tier.bases.any fun e => decide (e.2.addr < a + n ∧ a < e.2.addr + 256 * e.2.blocks)

/-- Base bytes of block b: 256 bytes, or zeros when no base applies or b lies beyond it (R423). -/
def State.baseBlock (s : State) (id b : Nat) : List Byte :=
  match s.base id with
  | some x => if id ≠ 0 ∧ b < x.blocks then s.laneRead (x.addr + 256 * b) 256 else List.replicate 256 0
  | none => List.replicate 256 0

def xorBytes (xs ys : List Byte) : List Byte := (xs.zip ys).map fun p => p.1 ^^^ p.2

/-! ### Slots -/

def slotAddr (e : Extent) (i : Nat) : Nat := e.target + 128 * i
def ovfRecord (e : Extent) (i : Nat) : Nat := e.aux + (128 + 256 * e.ovfk) * (i / 16)
def ovfSlot (e : Extent) (i k : Nat) : Nat := ovfRecord e i + 128 + 256 * k

/-- Bits of the XMAP map: bytes 4 to 35 (Table 14.3). -/
def mapBits (bs : List Byte) : List Nat :=
  (List.range 256).filter fun j => ((bs.getD (j / 8) 0).toNat >>> (j % 8)) % 2 == 1

/-- Scatter the packed delta bytes of an XMAP over 256. -/
def unpackDelta (on : List Nat) (bytes : List Byte) : List Byte :=
  (on.zip bytes).foldl (fun d p => d.set p.1 p.2) (List.replicate 256 0)

/-- The 32-byte map of a delta. -/
def deltaMap (d : List Byte) : List Byte :=
  leBytes 32 (packElems 1 (d.map fun b => if b = 0 then 0 else 1))

/-- Element count and code width of QDELTA for a base format (R426); none for another format. -/
def qdeltaShape (fmt : Nat) : Option (Nat × Nat) :=
  if fmt = fmtFp32 then some (64, 8)
  else if fmt = fmtBf16 ∨ fmt = fmtFp16 then some (128, 4)
  else if fmt = fmtE4M3 ∨ fmt = fmtE5M2 then some (256, 2)
  else none

def elemsOf (fmt n : Nat) (bs : List Byte) : List Num :=
  let v := leNat bs
  (List.range n).map fun i => numOf fmt (elemAt (fmtWidth fmt) v i)

/-- Scale byte and codes of QDELTA (R426). -/
def qdeltaEncode (fmt n w : Nat) (blk base : List Byte) : Nat × List Nat :=
  let qmax : Int := 2 ^ (w - 1) - 1
  let ds : List (Option Num) := ((elemsOf fmt n blk).zip (elemsOf fmt n base)).map fun p =>
    match p.1, p.2 with
    | .fin _ _ _, .fin _ _ _ => some (p.1.add p.2.neg)
    | _, _ => none
  let mags := ds.filterMap fun d => d.map fun x => match x with
    | .fin _ m e => Num.fin false m e
    | y => y
  let top := mags.foldl (fun a b => if a.cmp b == .lt then b else a) Num.zero
  let e : Int := match top with
    | .fin _ 0 _ => -127
    | _ =>
      match firstBelow 255 (fun i => top.cmp ((Num.ofInt qmax).scale ((i : Int) - 127)) != .gt) with
      | some i => (i : Int) - 127
      | none => 127
  let code (d : Option Num) : Nat := match d with
    | none => 2 ^ (w - 1)
    | some x => ofSigned w (max (-qmax) (min qmax (x.scale (-e) |> fun y => match y with
        | .fin neg m ex => roundToInt neg m ex
        | _ => 0)))
  ((e + 127).toNat, ds.map code)

/-- The block value of a QDELTA slot (R427). -/
def qdeltaDecode (fmt n w scale : Nat) (codes : Nat) (base : List Byte) : List Byte :=
  let wf := fmtWidth fmt
  let xs := ((List.range n).zip (elemsOf fmt n base)).map fun p =>
    let q := elemAt w codes p.1
    if q = 2 ^ (w - 1) then (floatFmt fmt).nan.getD 0
    else encodeFloat fmt true .nearest (p.2.add ((Num.ofInt (toSigned w q)).scale ((scale : Int) - 127)))
  leBytes 256 (packElems wf xs)

/-- The value of block i of a FORM 4 extent and whether its slot spills; none when the slot cannot be decoded (R428). -/
def State.readBlock (s : State) (e : Extent) (i : Nat) : Option (List Byte) × Bool :=
  let sl := s.laneRead (slotAddr e i) 128
  let base := s.baseBlock e.baseid i
  let bad := s.uncorrectable (slotAddr e i) 128 ||
    (match s.base e.baseid with
     | some b => e.baseid != 0 && decide (i < b.blocks) && s.uncorrectable (b.addr + 256 * i) 256
     | none => false)
  match (sl.getD 0 0).toNat with
  | 0 => (if bad then none else some base, false)
  | 1 =>
    let on := mapBits (sub sl 4 32)
    if bad || decide (92 < on.length) then (none, false)
    else (some (xorBytes base (unpackDelta on (sub sl 36 92))), false)
  | 2 =>
    let a := ovfSlot e i (sl.getD 1 0).toNat
    (if bad || s.uncorrectable a 256 then none else some (s.laneRead a 256), true)
  | 3 =>
    match s.base e.baseid with
    | some b =>
      match qdeltaShape b.fmt with
      | some (n, w) =>
        (if bad then none else some (qdeltaDecode b.fmt n w (sl.getD 1 0).toNat (leNat (sub sl 4 124)) base), false)
      | none => (none, false)
    | none => (none, false)
  | _ => (none, false)

/-- The allocation mask of a group as an atomic performed on cy t finds it: memory, the slots that writes under way have taken, and
those freed by then (R261). -/
def State.maskAt (s : State) (rec_ t : Nat) : Nat :=
  s.timed.foldl (fun m (e : Nat × Timed) => match e.2 with
    | .maskBit a k taken =>
      if a ≠ rec_ then m
      else if taken then m ||| 2 ^ k
      else if e.1 ≤ t then m &&& (2 ^ 16 - 1 - 2 ^ k) else m
    | _ => m) (leNat (s.laneRead rec_ 2))

/-- An allocation-mask atomic (R261). -/
def State.maskBit (s : State) (rec_ k : Nat) (taken : Bool) : State :=
  let m := leNat (s.laneRead rec_ 2)
  s.bankWrite (writesAt rec_ (leBytes 2 (if taken then m ||| 2 ^ k else m &&& (2 ^ 16 - 1 - 2 ^ k))))

/-- What a write of a block stores: (near writes, form: 0 SAME, 1 XMAP, 2 SPILL, 3 QDELTA, overflow slots taken or freed); none
when its overflow group is full on cy t, on which the slot is taken (R261, R262, R425). -/
def State.encodeBlock (s : State) (e : Extent) (i : Nat) (blk : List Byte) (t : Nat) :
    Option (List (Nat × Byte) × Nat × List (Nat × Bool)) :=
  let base := s.baseBlock e.baseid i
  let d := xorBytes blk base
  let nz := d.filter (fun b => b != 0)
  let sl := slotAddr e i
  let old := s.laneRead sl 128
  let oldK : Option Nat := if (old.getD 0 0) = 2 then some (old.getD 1 0).toNat else none
  let free : List (Nat × Bool) := oldK.toList.map fun k => (k, false)
  let spill (k : Nat) : List (Nat × Byte) := writesAt (ovfSlot e i k) blk ++ writesAt sl (padTo 128 [2, BitVec.ofNat 8 k])
  if nz.isEmpty then some (writesAt sl (padTo 128 []), 0, free)
  else if nz.length ≤ 92 then some (writesAt sl (padTo 128 ([1, 0, 0, 0] ++ deltaMap d ++ nz)), 1, free)
  else if e.store = 1 then
    match oldK with
    | some k => some (spill k, 2, [])
    | none => (firstBelow e.ovfk (fun k => !(s.maskAt (ovfRecord e i) t).testBit k)).map fun k => (spill k, 2, [(k, true)])
  else
    let fmt := ((s.base e.baseid).map (fun b => b.fmt)).getD 0
    let shape := (qdeltaShape fmt).getD (64, 8)
    let q := qdeltaEncode fmt shape.1 shape.2 blk base
    some (writesAt sl (padTo 128 ([3, BitVec.ofNat 8 q.1, 0, 0] ++ leBytes 124 (packElems shape.2 q.2))), 3, free)

/-- Overflow slot count of an unused record line, as EXT_SET writes it (R429): every slot SAME, every mask zero. -/
def State.slotFill (s : State) (e : Extent) : State :=
  let inSlots (a : Nat) : Bool := decide (e.target ≤ a ∧ a < e.target + e.len * 2 ^ 20)
  let rec_ := 128 + 256 * e.ovfk
  let groups := e.len * 2 ^ 21 / 4096
  let inMask (a : Nat) : Bool :=
    e.store == 1 && decide (e.aux ≤ a ∧ a < e.aux + rec_ * groups) && decide ((a - e.aux) % rec_ < 128)
  let hit (a : Nat) : Bool := inSlots a || inMask a
  let m : MemSt := s.mem
  { s with mem := { m with bytes := m.bytes.filter fun b => !hit b.1,
                           wbuf := m.wbuf.map fun w => { w with writes := w.writes.filter fun e => !hit e.1 },
                           scache := m.scache.filter fun e => !hit (128 * e.1),
                           uncorr := m.uncorr.filter fun e => !hit (4 * e.1),
                           soft := m.soft.filter fun e => !hit (4 * e.1) } }

end Sys2Proof.Machine
end

