-- ==== Sys2Proof/Machine/Notify.lean ====
section
/-! DEFINITION. What the control dies write for the host: completions (R505 to R509), log entries (R513, R514), event records
(R575, R576), and the fabric-protocol frames they send (Table 16.2). -/

namespace Sys2Proof.Machine

/-- A write by the control dies to the near tier: it reaches its bank at once, the stack cache follows, and no earlier lane
write covers it later. -/
def State.ctlStore (s : State) (a : Nat) (bs : List Byte) : State :=
  let ws := writesAt a bs
  let keep (w : WBuf) : WBuf := { w with writes := w.writes.filter fun e => !decide (a ≤ e.1 ∧ e.1 < a + bs.length) }
  let s := { s with mem := { s.mem with wbuf := s.mem.wbuf.map keep } }
  (s.bankWrite ws).cacheUpdate ws

/-- A read by the control dies. -/
def State.ctlRead (s : State) (a n : Nat) : List Byte := s.laneRead a n

/-- A run of near-tier bytes lies on a lost stack (R572). -/
def State.onLostStack (s : State) (a n : Nat) : Bool :=
  (List.range (n / 4096 + 2)).any fun i =>
    let b := min (a + 4096 * i) (a + n - 1)
    s.stackOut (stackOf b)

/-! ### The log ring -/

def State.logBase (s : State) : Nat := s.rf .ctlLogBaseHi 24 0 * 2 ^ 32 + s.rf .ctlLogBaseLo 31 7 * 128

/-- A trace point of a core is written to the log ring when its group and level are enabled, or dropped when the ring is full
or the entry would land on a lost stack (R513, R514, R572). -/
def State.trace (s : State) (core level number : Nat) (args : List Nat) : State :=
  if bitAt (s.rf .ctlLogCfg 31 16) (number / 4096) = false ∨ s.rf .ctlLogCfg 1 0 < level then s
  else
    let seq := s.fw.logSeq
    let s := { s with fw := { s.fw with logSeq := wrap32 (seq + 1) } }
    let head := s.rv .ctlLogHead
    let n := 2 ^ s.rf .ctlLogSize 4 0
    let a := s.logBase + 64 * (head % n)
    if wrap32 (head + 2 ^ 32 - s.rv .ctlLogTail) = n ∨ s.onLostStack a 64 then s.bump .ctlLogDrop
    else
      let e := leBytes 8 s.time.stroke ++ leBytes 2 s.time.cy ++ leBytes 1 core ++ leBytes 1 level ++ leBytes 2 number ++
        leBytes 2 0 ++ leBytes 4 seq ++ leBytes 4 0 ++ args.flatMap (leBytes 8)
      (s.ctlStore a (padTo 64 e)).bump .ctlLogHead

/-! ### Event records -/

def State.evtBase (s : State) : Nat := s.rf .ctlEvtBaseHi 24 0 * 2 ^ 32 + s.rf .ctlEvtBaseLo 31 7 * 128

/-- The bytes of an event record (Table 19.4). -/
def EvRec.bytes (e : EvRec) : List Byte :=
  padTo 64 (leBytes 8 e.stroke ++ leBytes 2 e.cy ++ leBytes 2 e.code ++ leBytes 1 e.sev ++ leBytes 1 e.kind ++
    leBytes 2 e.unit ++ leBytes 4 e.seqno ++ leBytes 1 e.status ++ leBytes 3 0 ++ e.args.flatMap (leBytes 8))

/-- The oldest latched event record is written, or dropped when the ring is full or it would land on a lost stack (R575,
R572). -/
def State.eventWrite (s : State) : State :=
  match s.fw.events with
  | [] => s
  | e :: es =>
    let s := { s with fw := { s.fw with events := es } }
    let head := s.rv .ctlEvtHead
    let n := 2 ^ s.rf .ctlEvtSize 4 0
    let a := s.evtBase + 64 * (head % n)
    if wrap32 (head + 2 ^ 32 - s.rv .ctlEvtTail) = n ∨ s.onLostStack a 64 then s.bump .ctlEvtDrop
    else (s.ctlStore a e.bytes).bump .ctlEvtHead

/-- Records latched four strokes ago are written now at the latest (R575). -/
def State.eventsDue (s : State) : State :=
  forUpto (countIf (fun e => decide (e.stroke + 4 ≤ s.time.stroke)) s.fw.events) (fun _ s => s.eventWrite) s

/-! ### Completions -/

def State.ring (s : State) (q : Nat) : Option Ring := s.fw.rings.find q

def State.setRing (s : State) (q : Nat) (r : Ring) : State :=
  { s with fw := { s.fw with rings := s.fw.rings.insert q r } }

/-- The command of an entry, as firmware keeps it while it runs. -/
def Cmd.running (c : Cmd) (opcode : Nat) : Running :=
  { q := c.q, cmdid := c.cmdid, opcode := opcode, fence := c.fence }

/-- Post a completion entry on a ring (R505, R507); a ring that does not exist takes none. -/
def State.post (s : State) (q : Nat) (r : Running) (st : Status) (r0 r1 : Nat) : State :=
  match s.ring q with
  | none => s
  | some g =>
    let i := g.ctail
    let phase := (i / 2 ^ g.n % 2 + 1) % 2
    let e := leBytes 4 r.cmdid.toNat ++ leBytes 2 r.opcode ++ leBytes 1 st.code ++ leBytes 1 phase ++ leBytes 8 r0 ++
      leBytes 8 r1 ++ leBytes 8 s.time.stroke
    (s.ctlStore (g.pring + 32 * (i % 2 ^ g.n)) e).setRing q { g with ctail := wrap32 (i + 1) }

/-- A command completes: its completion entry is posted on its own ring, and it no longer runs (R509). -/
def State.complete (s : State) (r : Running) (st : Status) (r0 : Nat := 0) (r1 : Nat := 0) : State :=
  let s := { s with fw := { s.fw with running := dropFirst (fun x => x == r) s.fw.running } }
  (s.post r.q.toNat r st r0 r1).trace 1 2 0x1002 [r.q.toNat, r.cmdid.toNat, r.opcode, st.code]

/-- A command starts. -/
def State.start (s : State) (r : Running) : State :=
  ({ s with fw := { s.fw with running := s.fw.running ++ [r] } }).trace 1 3 0x1001 [r.q.toNat, r.cmdid.toNat, r.opcode]

/-! ### Fabric-protocol frames -/

/-- Types of Table 16.2. -/
def fabHeartbeat : Nat := 1
def fabPropose : Nat := 2
def fabAck : Nat := 3
def fabCommit : Nat := 4
def fabSyncReq : Nat := 5
def fabState : Nat := 6
def fabSyncData : Nat := 7
def fabLoss : Nat := 8
def fabRevokeDone : Nat := 9

def State.serial (s : State) : Dword := s.sec.serial

/-- What names the flow of an IP frame for the hash of R474: class, addresses and UDP ports. -/
def flowBytes (cls : Nat) (src dst : BitVec 128) (ports : List Byte) : List Byte :=
  [1] ++ beBytes 1 cls ++ beBytes 16 src.toNat ++ beBytes 16 dst.toNat ++ ports

/-- The output port of a frame by its flow: as Config.forwardPort has it for the map epoch and the uplinks live at the last capo
point; under a map an uplink that was not live then is not chosen (R474, assumption 15). -/
def State.forwardTo (s : State) (flow : List Byte) : Option Port :=
  match Config.forwardPort s.mapEpoch s.fab.uplinks flow with
  | none => none
  | some p => if s.fab.map.isSome && s.role p.toNat == 2 && !s.fab.uplinks.contains p.toNat then none else some p

/-- The port on which a fabric-protocol frame to an address of another device leaves. -/
def State.routeTo (s : State) (src dst : BitVec 128) : Option Port :=
  let port := beBytes 2 (s.af .fabCfg 15 0)
  s.forwardTo (flowBytes 6 src dst (port ++ port))

/-- The fabric address of a device of the map. -/
def State.deviceIp (s : State) (serial : Dword) : Option (BitVec 128) :=
  (s.fab.map.bind fun m => m.devs.find? fun d => d.serial == serial).map fun d => d.ip

/-- One fabric-protocol frame to a device (Table 16.2): class 6, hierarchy key 0x800 (R360), SEQ counted; nothing is sent
without a fabric key, an address of the device in the map or a port that leads to it. -/
def State.fabFrame (s : State) (dst : Dword) (type fidx nfrm : Nat) (epoch : BitVec 16) (capo chunk : Nat)
    (payload : List Byte) : State :=
  match s.fab.key, s.deviceIp dst with
  | some _, some ip =>
    let v4 := ip.toNat / 2 ^ 32 == 0xFFFF
    match s.routeTo (s.sourceIp v4) ip with
    | none => s
    | some p =>
      let m : FabMsg := { fidx := BitVec.ofNat 8 fidx, nfrm := BitVec.ofNat 8 nfrm, serial := s.serial, epoch := epoch,
                          capo := BitVec.ofNat 64 capo, seq := BitVec.ofNat 32 s.fab.seq, chunk := BitVec.ofNat 32 chunk,
                          payload := payload, tagOk := true }
      let size := 8 + 14 + (if v4 then 20 else 40) + 8 + 32 + payload.length + 16 + 4
      let f : Frame := { port := p, cls := 6, size := size, body := .fabric type m, dest := ip, src := s.sourceIp v4,
                         udp := BitVec.ofNat 16 (s.af .fabCfg 15 0), v4 := v4, vlan := none, tenant := none, fwd := none,
                         key := some 0x800, inPort := 0x3FF, ce := false, yellow := false, enq := 0 }
      ({ s with fab := { s.fab with seq := wrap32 (s.fab.seq + 1) } }).enqueueFrame (s.stamp f)
  | _, _ => s

/-- A fabric-protocol message, in frames of 4,096 payload bytes. -/
def State.sendFabric (s : State) (dst : Dword) (type : Nat) (epoch : BitVec 16) (capo chunk : Nat) (payload : List Byte) :
    State :=
  let n := max 1 (ceilDiv payload.length 4096)
  forUpto n (fun i s => s.fabFrame dst type i n epoch capo chunk (sub payload (4096 * i) 4096)) s

/-- The council of the map in force. -/
def State.council (s : State) : List Dword := (s.fab.map.map fun m => m.council).getD []

/-- A council member counts another as live (R476); it counts itself as live. -/
def State.liveMember (s : State) (serial : Dword) : Bool :=
  serial == s.serial ||
  (match s.fab.heard.find serial.toNat with
   | some n => decide (s.time.stroke < n + s.af .fabCfg 31 24)
   | none => false)

/-- The member that this device takes to be manager: the lowest live serial of the council (R477). -/
def State.manager (s : State) : Option Dword :=
  (s.council.filter s.liveMember).foldl (fun m x => match m with
    | none => some x
    | some y => if x.toNat < y.toNat then some x else some y) none

/-- Cores 5 to 8 are all HELD (Table 17.1): the device takes no part in the fabric protocol. -/
def State.fabHeld (s : State) : Bool := [5, 6, 7, 8].all fun c => s.rf .ctlWdtstat 31 31 0 c == 1

/-- The replica is incomplete (R480, R572): a full copy is asked of the lowest other live member, by a SYNC_REQ with EPOCH 0
(assumption 98). -/
def State.replicaLost (s : State) : State :=
  let s := s.wf .fabMapstat 29 29 0
  let from_ := (s.council.filter fun x => x != s.serial && s.liveMember x).foldl (fun (m : Option Dword) x => match m with
    | none => some x
    | some y => if x.toNat < y.toNat then some x else some y) none
  match from_ with
  | some x => if s.fabHeld then s else s.sendFabric x fabSyncReq 0 0 0 []
  | none => s

/-- This device acts as manager (R477). -/
def State.isManager (s : State) : Bool :=
  s.council.contains s.serial && s.manager == some s.serial &&
  decide (s.council.length / 2 + 1 ≤ countIf s.liveMember s.council)

end Sys2Proof.Machine
end

