-- ==== Sys2Proof/Machine/Reduce.lean ====
section
/-! DEFINITION. The reduce unit RDU, slots RDA and RDB (R108 to R119, Table 4.2; rounding of 06_number_formats.md). -/

namespace Sys2Proof.Machine

/-- Slot number of a half of the unit (Table 3.1). -/
def rduSlot (f : RduF) : Nat := if f.halfB then 8 else 7

/-- Draws an operation takes when RND is 0b01: one per element of its output part or register (R197). -/
def rduDraws (op : RduOp) (f : RduF) : Nat :=
  if f.rnd = 1 then
    match op with
    | .rcvt => partLen f.fmt.toNat f.ofmt.toNat
    | .rmxq => 128
    | _ => fmtCount f.ofmt.toNat
  else 0

/-- The rounding of output element i. -/
def rduRnd (f : RduF) (ds : List Nat) (i : Nat) : Rounding :=
  if f.rnd = 1 then .stochastic (ds.getD i 0) else .nearest

/-- The FP32 weight w = S[SA][31:0]. -/
def State.rduWeight (s : State) (k : Scd) (f : RduF) : Num := decodeFloat fmtFp32 ((s.sreg k f.sa).toNat % 2 ^ 32)

/-- The result of an exact value in an RDU output format (R110). -/
def rduResult (ofmt : Nat) (sat : Bool) (rd : Rounding) (x : Num) : Nat :=
  if isIntFmt ofmt then intResult ofmt sat x.toInt else encodeFloat ofmt sat rd x

/-- The greater (or lesser) of two elements as RMAX and RMIN write it (R111): VA's element wins a tie, a tie of two NaNs is
the canonical NaN; a block-scaled element is written as its value. -/
def pickElem (ofmt : Nat) (sat mx : Bool) (lesser : Bool) (a b : Num) (ra rb : Nat) : Nat :=
  let takeB := if lesser then a.rankMin b == .gt else a.rank b == .lt
  let x := if takeB then b else a
  let raw := if takeB then rb else ra
  if mx || x.isNan then rduResult ofmt sat .nearest x else raw

/-- A partial write of the elements of width w from position `first`: landing mask and value. -/
def partialWrite (w first : Nat) (act : List Bool) (xs : List Nat) : Vec × Vec :=
  let m := packElems w (act.map fun b => if b then 2 ^ w - 1 else 0)
  let v := packElems w xs
  (BitVec.ofNat 4096 (m <<< (w * first)), BitVec.ofNat 4096 (v <<< (w * first)))

/-- Bytes 480 to 511 of an FP6 result are written zero (R106). -/
def fp6Tail (f : Nat) (mask : Vec) : Vec := if f = fmtE3M2 then mask ||| ones 3840 256 else mask

/-- Best candidate of a list of (value, number) under R111: greatest value, then smaller number. -/
def bestOf : List (Num × Nat) → Option (Num × Nat)
  | [] => none
  | x :: xs =>
    match bestOf xs with
    | none => some x
    | some y =>
      match x.1.rank y.1 with
      | .gt => some x
      | .lt => some y
      | .eq => if x.2 ≤ y.2 then some x else some y

/-- The k best candidates in order. -/
def topK : Nat → List (Num × Nat) → List (Num × Nat)
  | 0, _ => []
  | n + 1, xs =>
    match bestOf xs with
    | none => []
    | some y => y :: topK n (xs.filter fun x => x.2 != y.2)

/-- n terms of 1 − u/i · (1 − u/(i+1) · …), in units of 2^−320. -/
def expHorner (u : Nat) : Nat → Nat → Nat
  | 0, _ => 2 ^ 320
  | n + 1, i => 2 ^ 320 - u * expHorner u n (i + 1) / 2 ^ 320 / i

/-- Square a number in units of 2^−320 n times. -/
def expSquare : Nat → Nat → Nat
  | 0, y => y
  | n + 1, y => expSquare n (y * y / 2 ^ 320)

/-- e to the power −m · 2^e, in units of 2^−320, with an error below 2^64 of them. -/
def expFixed (m : Nat) (e : Int) : Nat :=
  let k := e + 310
  let u := if 0 ≤ k then m * 2 ^ k.toNat else m / 2 ^ (-k).toNat
  if 200 * 2 ^ 310 ≤ u then 0 else expSquare 10 (expHorner u 40 1)

/-- A finite number of FP32 lies within 2 ulp of a value in units of 2^−320 (R118). -/
def expWithin (r : Num) (y : Nat) : Bool :=
  match r with
  | .fin false m e =>
    let v := m * 2 ^ (e + 320).toNat
    let two := 2 * 2 ^ max (msb y - 23) 171 + 2 ^ 64
    decide (v ≤ y + two ∧ y ≤ v + two)
  | _ => false

/-- The exponential of an exact difference that is not positive: a free value within 2 ulp of FP32 (R118, assumption 14). -/
def expNum (x : Num) : Num :=
  match x with
  | .nan => .nan
  | .inf neg => if neg then .zero else .inf false
  | .fin _ m e =>
    let y := expFixed m e
    let r := decodeFloat fmtFp32 (Config.expFp32 (BitVec.ofNat 32 (fp32 x))).toNat
    if expWithin r y then r else decodeFloat fmtFp32 (fp32 (.fin false y (-320)))

/-- The (weight, expert) pairs of RGTOPK (R116 to R118): each weight is rounded to FP32 and overflows under SAT (R110). -/
def gateTopK (sat : Bool) (mode k : Nat) (cands : List (Num × Nat)) : List (Nat × Nat) :=
  let sel : List (Num × Nat) := topK k cands
  let val (x : Num × Nat) : Num := x.1
  let top := match sel with
    | [] => Num.zero
    | x :: _ => x.1
  let e (x : Num) : Num := expNum (x.add top.neg)
  let ws := match mode with
    | 0 => sel.map val
    | 1 => let t := sumNum (sel.map val); sel.map (fun x => (val x).div t)
    | 2 => let t := sumNum (sel.map fun x => e (val x)); sel.map (fun x => (e (val x)).div t)
    | _ => let t := sumNum (cands.map fun x => e (val x)); sel.map (fun x => (e (val x)).div t)
  (ws.map (rduResult fmtFp32 sat .nearest)).zip (sel.map fun (x : Num × Nat) => x.2) ++ List.replicate (k - sel.length) (0, 0xFFFFFFFF)

/-- RMXQ of one 32-element block (R192): the scale byte and the encodings, from the elements and their activity. -/
def quantBlock (ofmt : Nat) (rd : Nat → Rounding) (first : Nat) (xs : List Num) (act : List Bool) : Nat × List Nat :=
  let on := (xs.zip act).filterMap fun e => if e.2 then some e.1 else none
  let bad := on.any fun x => match x with
    | .fin _ _ _ => false
    | _ => true
  if bad then (0xFF, xs.map fun _ => 0)
  else
    let emax : Int := match ofmt with
      | 0x2 => 15 | 0x3 => 8 | 0x4 => 15 | 0x5 => 4 | _ => 2
    let logs := on.filterMap fun x => match x with
      | .fin _ m e => if m = 0 then none else some ((msb m : Int) + e)
      | _ => none
    let e : Int := match logs with
      | [] => -127
      | l :: ls => max (-127) (min 127 (ls.foldl max l - emax))
    let enc := (List.range xs.length).zip xs |>.map fun p =>
      encodeFloat ofmt true (rd (first + p.1)) (p.2.scale (-e))
    ((e + 127).toNat, enc)

/-- What an RDU operation lands, and whether it is a chord fault, given the draws it took. RCVT with MX 1 takes the whole of
S[SA][63:32] as its part number: a non-zero bit of [63:35], for which the spec names no consequence, is a part beyond the last one
(DEDUCED, assumption 31). -/
def State.rduLandings (s : State) (op : RduOp) (k : Scd) (f : RduF) (ds : List Nat) : List Landing × Bool :=
  let i := f.fmt.toNat
  let o := f.ofmt.toNat
  let w := fmtWidth i
  let n := fmtCount i
  let vc := s.vreg k f.vc
  let rawA := s.vreg k f.va
  let rawB := s.vreg k f.vb
  let a := elemNums i rawA f.mx vc 0 f.sparse vc
  let b := elemNums i rawB f.mx vc 256 false 0
  let act (j : Nat) : Bool := s.active k f.pred (w * j / 8)
  let wt := s.rduWeight k f
  let whole (xs : List Nat) : List Landing × Bool :=
    ([.vec k f.vd (s.activeBits k f.pred w n) (BitVec.ofNat 4096 (packElems w xs))], false)
  let vd := s.vreg k f.vd
  match op with
  | .radd => whole ((List.range n).map fun j =>
      rduResult o f.sat (rduRnd f ds j) ((a.getD j .zero).add (b.getD j .zero)))
  | .rmax => whole ((List.range n).map fun j =>
      pickElem o f.sat f.mx false (a.getD j .zero) (b.getD j .zero) (elemAt w rawA.toNat j) (elemAt w rawB.toNat j))
  | .rmin => whole ((List.range n).map fun j =>
      pickElem o f.sat f.mx true (a.getD j .zero) (b.getD j .zero) (elemAt w rawA.toNat j) (elemAt w rawB.toNat j))
  | .rfma => whole ((List.range n).map fun j =>
      rduResult o f.sat (rduRnd f ds j) ((b.getD j .zero).add (wt.mul (a.getD j .zero))))
  | .racc =>
    let m := partLen o 0
    let p := m * f.vb.toNat
    let r := (List.range m).map fun j =>
      rduResult o f.sat .nearest ((numOf o (elemAt (fmtWidth o) vd.toNat j)).add (a.getD (p + j) .zero))
    let x := partialWrite (fmtWidth o) 0 ((List.range m).map fun j => act (p + j)) r
    ([.vec k f.vd x.1 x.2], false)
  | .rwacc =>
    let p := 128 * f.vb.toNat
    let r := (List.range 128).map fun j =>
      rduResult o f.sat .nearest ((numOf o (elemAt 32 vd.toNat j)).add (wt.mul (a.getD (p + j) .zero)))
    let x := partialWrite 32 0 ((List.range 128).map fun j => act (p + j)) r
    ([.vec k f.vd x.1 x.2], false)
  | .rarg =>
    let cands := (List.range n).filterMap fun j => if act j then some (a.getD j .zero, j) else none
    let pair := match bestOf cands with
      | none => if isIntFmt i then (0x80000000, 0xFFFFFFFF) else (0xFF800000, 0xFFFFFFFF)
      | some y => (rduResult o f.sat .nearest y.1, ((s.sreg k f.sa).toNat + y.2) % 2 ^ 32)
    ([.vec k f.vd (ones (64 * f.vb.toNat) 64) (BitVec.ofNat 4096 ((pair.1 + pair.2 * 2 ^ 32) <<< (64 * f.vb.toNat)))], false)
  | .ramax =>
    let ps := (List.range 64).map fun j =>
      let pa := pairAt rawA j
      let pb := pairAt rawB j
      let y := match (numOf i pa.1).rank (numOf i pb.1) with
        | .gt => pa
        | .lt => pb
        | .eq => if pb.2 < pa.2 then pb else pa
      if (numOf i y.1).isNan then (rduResult o false .nearest .nan, y.2) else y
    let m := packElems 64 ((List.range 64).map fun j => if s.active k f.pred (8 * j) then 2 ^ 64 - 1 else 0)
    ([.vec k f.vd (BitVec.ofNat 4096 m) (packPairs ps)], false)
  | .rgtopk =>
    let c := (s.sreg k f.sa).toNat
    let e := bits c 15 8 + 1
    if bits c 63 16 != 0 || bits c 7 6 != 0 || decide (n < e) then
      ([.vec k f.vd (BitVec.allOnes 4096) 0], true)
    else
      let cands := (List.range e).filterMap fun j => if act j then some (a.getD j .zero, j) else none
      ([.vec k f.vd (BitVec.allOnes 4096) (packPairs (gateTopK f.sat (bits c 5 4) (bits c 3 0 + 1) cands))], false)
  | .rcvt =>
    let m := partLen i o
    let p := m * f.vb.toNat
    let q := if f.mx then bits (s.sreg k f.sa).toNat 63 32 else f.vc.toNat
    if fmtCount o < m * (q + 1) then ([], true)
    else
      let r := (List.range m).map fun j =>
        convert i o f.sat (rduRnd f ds j) (wt.mul (a.getD (p + j) .zero))
      let x := partialWrite (fmtWidth o) (m * q) ((List.range m).map fun j => act (p + j)) r
      ([.vec k f.vd (fp6Tail o x.1) x.2], false)
  | .rmxq =>
    let p := f.vb.toNat
    let blocks := (List.range 4).map fun b =>
      let first := 128 * p + 32 * b
      let xs := (List.range 32).map fun j => a.getD (first + j) .zero
      let on := (List.range 32).map fun j => act (first + j)
      (quantBlock o (rduRnd f ds) (32 * b) xs on, on)
    let x := partialWrite (fmtWidth o) (128 * p) (blocks.flatMap fun b => b.2) (blocks.flatMap fun b => b.1.2)
    let y := partialWrite 8 (4 * p) (blocks.map fun b => b.2.any id) (blocks.map fun b => b.1.1)
    ([.vec k f.vd (fp6Tail o x.1) x.2, .vec k f.vc y.1 y.2], false)
  | .rsplat =>
    let wo := fmtWidth o
    let v := (s.sreg k f.sa).toNat % 2 ^ wo
    ([.vec k f.vd (s.activeBits k f.pred wo (fmtCount o))
        (BitVec.ofNat 4096 (packElems wo (List.replicate (fmtCount o) v)))], false)
  | .rnzm =>
    let lanes := (List.range 64).map fun blk =>
      packElems 1 ((List.range 64).map fun j =>
        let e := 64 * blk + j
        if decide (e < n) && act e then
          match numOf i (elemAt w rawA.toNat e) with
          | .fin _ 0 _ => 0
          | _ => 1
        else 0)
    ([.vec k f.vd (BitVec.allOnes 4096) (BitVec.ofNat 4096 (packElems 64 lanes))], false)

/-- Which of the two writes of an RMXQ with VC = VD wins is not stated: the order is a free value (assumption 12). -/
def State.rmxqOrder (s : State) (op : RduOp) (f : RduF) (xs : List Landing) : List Landing × State :=
  if op = .rmxq ∧ f.vc = f.vd then
    let (v, s) := s.drawFree
    (if v.getLsbD 0 then xs.reverse else xs, s)
  else (xs, s)

/-- Issue an RDU operation on an SCD: draws are taken whatever the gate is (R197). -/
def State.issueRdu (s : State) (op : RduOp) (k : Scd) (f : RduF) : State :=
  if s.scdOut k then s
  else
    let d := draws (rduDraws op f) (SMap.get 1 s.scd.gen k.toNat)
    let s := { s with scd := { s.scd with gen := SMap.set 1 s.scd.gen k.toNat d.1 } }
    if !s.gate k f.pred then s
    else
      let r := s.rduLandings op k f d.2
      let (xs, s) := s.rmxqOrder op f r.1
      let s := xs.foldl (fun s x => s.land op.lat x) s
      if r.2 then s.chordFault k (rduSlot f) else s

/-- RADD (Table 4.2). -/
def execRadd (k : Scd) (f : RduF) (s : State) := slotOutcome "RADD" (rduOk .radd f) (s.issueRdu .radd k f)
/-- RMAX (Table 4.2, R111). -/
def execRmax (k : Scd) (f : RduF) (s : State) := slotOutcome "RMAX" (rduOk .rmax f) (s.issueRdu .rmax k f)
/-- RMIN (Table 4.2, R111). -/
def execRmin (k : Scd) (f : RduF) (s : State) := slotOutcome "RMIN" (rduOk .rmin f) (s.issueRdu .rmin k f)
/-- RACC (Table 4.2, R206). -/
def execRacc (k : Scd) (f : RduF) (s : State) := slotOutcome "RACC" (rduOk .racc f) (s.issueRdu .racc k f)
/-- RWACC (Table 4.2, R110). -/
def execRwacc (k : Scd) (f : RduF) (s : State) := slotOutcome "RWACC" (rduOk .rwacc f) (s.issueRdu .rwacc k f)
/-- RFMA (Table 4.2, R110). -/
def execRfma (k : Scd) (f : RduF) (s : State) := slotOutcome "RFMA" (rduOk .rfma f) (s.issueRdu .rfma k f)
/-- RARG (Table 4.2, R113). -/
def execRarg (k : Scd) (f : RduF) (s : State) := slotOutcome "RARG" (rduOk .rarg f) (s.issueRdu .rarg k f)
/-- RAMAX (Table 4.2). -/
def execRamax (k : Scd) (f : RduF) (s : State) := slotOutcome "RAMAX" (rduOk .ramax f) (s.issueRdu .ramax k f)
/-- RGTOPK (R116 to R119). -/
def execRgtopk (k : Scd) (f : RduF) (s : State) := slotOutcome "RGTOPK" (rduOk .rgtopk f) (s.issueRdu .rgtopk k f)
/-- RCVT (Table 4.2, R202 to R205). -/
def execRcvt (k : Scd) (f : RduF) (s : State) := slotOutcome "RCVT" (rduOk .rcvt f) (s.issueRdu .rcvt k f)
/-- RMXQ (R192). -/
def execRmxq (k : Scd) (f : RduF) (s : State) := slotOutcome "RMXQ" (rduOk .rmxq f) (s.issueRdu .rmxq k f)
/-- RSPLAT (Table 4.2). -/
def execRsplat (k : Scd) (f : RduF) (s : State) := slotOutcome "RSPLAT" (rduOk .rsplat f) (s.issueRdu .rsplat k f)
/-- RNZM (Table 4.2). -/
def execRnzm (k : Scd) (f : RduF) (s : State) := slotOutcome "RNZM" (rduOk .rnzm f) (s.issueRdu .rnzm k f)

end Sys2Proof.Machine
end

