-- ==== Sys2Proof/Machine/Contexts.lean ====
section
/-! DEFINITION. Reduction contexts: their registers, life cycle (R124, Table 4.6), contribution lines (R120 to R125, R211) and
completion records (R127 to R129). -/

namespace Sys2Proof.Machine

def ctxKey (k : Scd) (i : Nat) : Nat := 256 * k.toNat + i

def State.ctx (s : State) (k : Scd) (i : Nat) : CtxSt := SMap.get CtxSt.fresh s.rcx (ctxKey k i)
def State.setCtx (s : State) (k : Scd) (i : Nat) (c : CtxSt) : State :=
  { s with rcx := SMap.set CtxSt.fresh s.rcx (ctxKey k i) c }

/-! ### Fields of Table 4.7 -/

def State.rcxState (s : State) (k : Scd) (i : Nat) : Nat := s.rf .scdRcxCfg 31 30 k.toNat i
def State.rcxOp (s : State) (k : Scd) (i : Nat) : Nat := s.rf .scdRcxCfg 29 28 k.toNat i
def State.rcxFmt (s : State) (k : Scd) (i : Nat) : Nat := s.rf .scdRcxCfg 27 24 k.toNat i
def State.rcxSat (s : State) (k : Scd) (i : Nat) : Bool := s.rf .scdRcxCfg 23 23 k.toNat i == 1
def State.rcxSparse (s : State) (k : Scd) (i : Nat) : Bool := s.rf .scdRcxCfg 19 19 k.toNat i == 1
def State.rcxAuto (s : State) (k : Scd) (i : Nat) : Bool := s.rf .scdRcxCfg 18 18 k.toNat i == 1
def State.rcxContrib (s : State) (k : Scd) (i : Nat) : Nat := s.rf .scdRcxCfg 9 0 k.toNat i
def State.rcxBase (s : State) (k : Scd) (i : Nat) : Nat := 128 * s.rf .scdRcxBuf 17 0 k.toNat i
def State.rcxLines (s : State) (k : Scd) (i : Nat) : Nat := s.rf .scdRcxLen 17 0 k.toNat i
def State.rcxGen (s : State) (k : Scd) (i : Nat) : Nat := s.rf .scdRcxOwn 31 16 k.toNat i
def State.rcxTenant (s : State) (k : Scd) (i : Nat) : Tenant := BitVec.ofNat 10 (s.rf .scdRcxOwn 9 0 k.toNat i)

/-- States of a context. -/
def rcxOpen : Nat := 1
def rcxComplete : Nat := 2
def rcxFailed : Nat := 3

/-- Elements per dense line (Table 4.5); ARGMAX lines hold 16 pairs. -/
def lineElems (op fmt : Nat) : Nat := if op = 3 then 16 else 1024 / max 1 (fmtWidth fmt)

/-- Bytes of one accumulator: a pair, an INT64, or an FP32 or INT32 (Table 4.3). -/
def accBytes (op fmt : Nat) : Nat := if op = 3 ∨ fmt = fmtInt64 then 8 else 4

/-- ACCB (Table 4.5). -/
def accb (op fmt : Nat) : Nat := lineElems op fmt * accBytes op fmt

/-- Timeout of a context, strokes (R124). -/
def State.rcxTimeout (s : State) (k : Scd) (i : Nat) : Nat :=
  let t := s.rf .scdRcxLen 31 20 k.toNat i
  if t = 0 then (if s.rf .scdRcxCfg 20 20 k.toNat i = 1 then 1024 else 64) else t

/-- Scratchpad offset of the buffer of generation g (R127). -/
def State.rcxBuffer (s : State) (k : Scd) (i g : Nat) : Nat :=
  s.rcxBase k i +
    (if s.rcxAuto k i then g % 2 else 0) * (s.rcxLines k i * accb (s.rcxOp k i) (s.rcxFmt k i))

/-- Scratchpad offset of the completion record (R127). -/
def State.rcxRecord (s : State) (k : Scd) (i : Nat) : Nat :=
  s.rcxBase k i + (if s.rcxAuto k i then 2 else 1) * (s.rcxLines k i * accb (s.rcxOp k i) (s.rcxFmt k i))

/-- Buffers and record lie in the SCD's scratchpad, and LINES is not the reserved 0 (R132, Table 4.7). -/
def State.rcxPlaced (s : State) (k : Scd) (i : Nat) : Bool :=
  s.rcxLines k i != 0 && decide (s.rcxRecord k i + 128 ≤ 0x1800000)

/-! ### Life cycle -/

/-- The completion record (R129). -/
def State.rcxRecordBytes (s : State) (k : Scd) (i : Nat) (st : Status) : List Byte :=
  padTo 128 (leBytes 2 (s.rcxGen k i) ++ leBytes 1 st.code ++ leBytes 1 0 ++
    leBytes 2 (s.rf .scdRcxProg 31 21 k.toNat i) ++ leBytes 2 0 ++ leBytes 4 (s.rf .scdRcxProg 17 0 k.toNat i) ++
    leBytes 8 s.time.stroke)

/-- A context ends, COMPLETE or FAILED: record written, status shown, counter signalled (Table 4.6). -/
def State.rcxEnd (s : State) (k : Scd) (i : Nat) (dst : Nat) (st : Status) : State :=
  let s := s.store (windowOf k + s.rcxRecord k i) (s.rcxRecordBytes k i st)
  let s := s.wf .scdRcxCfg 31 30 dst k.toNat i
  let s := s.wf .scdRcxCmd 7 0 st.code k.toNat i
  let s := s.setCtx k i { s.ctx k i with opened := none, completing := none }
  if s.rf .scdRcxSig 9 9 k.toNat i = 1 then
    s.ctrAddAt s.now k (BitVec.ofNat 9 (s.rf .scdRcxSig 8 0 k.toNat i)) 1
  else s

/-- An OPEN context fails (Table 4.6). -/
def State.rcxFail (s : State) (k : Scd) (i : Nat) (st : Status) : State :=
  if s.rcxState k i = rcxOpen then s.rcxEnd k i rcxFailed st else s

/-- An OPEN context completes (Table 4.6); with AUTO it reopens at the boundary. -/
def State.rcxDone (s : State) (k : Scd) (i : Nat) : State :=
  if s.rcxState k i = rcxOpen then
    let s := s.rcxEnd k i rcxComplete .ok
    if s.rcxAuto k i then s.latchNext (.ctxReopen k (BitVec.ofNat 8 i)) else s
  else s

/-- A context opens: counts, totals and status cleared (Table 4.6). -/
def State.rcxEnter (s : State) (k : Scd) (i : Nat) : State :=
  let s := s.wf .scdRcxCfg 31 30 rcxOpen k.toNat i
  let s := s.wv .scdRcxProg 0 k.toNat i
  let s := s.wf .scdRcxCmd 7 0 0 k.toNat i
  s.setCtx k i { done := [], declared := 0, opened := some s.time.stroke, completing := none }

/-- An armed context opens at its boundary, unless it is already OPEN. -/
def State.ctxOpen (s : State) (k : Scd) (i : Nat) : State :=
  if s.rcxState k i = rcxOpen then s else s.rcxEnter k i

/-- A completed AUTO context reopens with the next generation (Table 4.6). -/
def State.ctxReopen (s : State) (k : Scd) (i : Nat) : State :=
  if s.rcxState k i = rcxComplete ∧ s.rcxAuto k i = true then
    (s.wf .scdRcxOwn 31 16 ((s.rcxGen k i + 1) % 2 ^ 16) k.toNat i).rcxEnter k i
  else s

/-- A write of a context's command register (R124, R131, R132). -/
def State.rcxCommand (s : State) (k : Scd) (i : Nat) (arm abort : Bool) : State :=
  if s.rcxState k i = rcxOpen then
    if abort && (s.ctx k i).completing.isNone then s.rcxFail k i .timeout else s
  else if arm && s.rcxPlaced k i then s.latchNext (.ctxOpen k (BitVec.ofNat 8 i))
  else s

/-- OPEN contexts, as (SCD, number). -/
def State.openCtxs (s : State) : List (Scd × Nat) :=
  s.rcx.filterMap fun e => if e.2.opened.isSome then some (BitVec.ofNat 5 (e.1 / 256), e.1 % 256) else none

/-- A context has reached its timeout (Table 4.6); the line that completes it has not been dequeued. -/
def State.ctxExpired (s : State) (k : Scd) (i : Nat) : Bool :=
  match (s.ctx k i).opened with
  | some a => (s.ctx k i).completing.isNone && decide (a + s.rcxTimeout k i ≤ s.time.stroke)
  | none => false

/-- A contributor of a context is lost, recorded or not yet (R13, R567). -/
def State.ctxLost (s : State) (k : Scd) (i : Nat) : Bool :=
  let mask := s.rv .scdRcxLocal k.toNat i
  (List.range 32).any fun j => mask.testBit j &&
    (s.pwr.lostScd.getLsbD j || s.pwr.detected.any fun d => d.1 == .scd (BitVec.ofNat 5 j))

/-- A context fails at its timeout; with a contributor on a lost SCD the status is UNIT_LOST (R13). -/
def State.ctxTimeout (s : State) (k : Scd) (i : Nat) : State :=
  if s.ctxExpired k i then s.rcxFail k i (if s.ctxLost k i then .unitLost else .timeout) else s

/-- Every context whose timeout has come fails. -/
def State.ctxTimeouts (s : State) : State := forEach s.openCtxs (fun x s => s.ctxTimeout x.1 x.2) s

/-- Every OPEN context of a tenant fails (Table 4.6). -/
def State.ctxFailTenant (s : State) (t : Tenant) : State :=
  forEach s.openCtxs (fun x s => if s.rcxTenant x.1 x.2 = t then s.rcxFail x.1 x.2 .tenantGone else s) s

/-- Every OPEN context that waits for a lost SCD fails (Table 4.6, R570). -/
def State.ctxFailScd (s : State) (k : Scd) : State :=
  forEach s.openCtxs (fun x s =>
    if x.1 != k && bitAt (s.rv .scdRcxLocal x.1.toNat x.2) k.toNat then s.rcxFail x.1 x.2 .unitLost else s) s

/-! ### Contribution lines -/

/-- One contribution line as its extension gives it (Table 11.6). -/
structure RedLine where
  ctx : Nat
  gen : Nat
  contrib : Nat
  fmt : Nat
  line : Nat
  count : Nat
  deriving DecidableEq, Repr

def redLine (r : LineReq) : RedLine :=
  { ctx := bits r.addr.toNat 7 0, gen := beAt r.ext 0 2, contrib := beAt r.ext 2 2, fmt := beAt r.ext 5 1,
    line := beAt r.ext 8 4, count := beAt r.ext 12 4 }

/-- The accumulators a line updates, as (global address, bytes); a DONE line is checked at the record (R126). -/
def State.redRange (s : State) (k : Scd) (kind : RedKind) (x : RedLine) : Nat × Nat :=
  let op := s.rcxOp k x.ctx
  let fmt := s.rcxFmt k x.ctx
  let buf := windowOf k + s.rcxBuffer k x.ctx x.gen
  match kind with
  | .dense => (buf + x.line * accb op fmt, accb op fmt)
  | .sparse => (buf + 64 * x.line * accBytes op fmt, 64 * accBytes op fmt)
  | .done => (windowOf k + s.rcxRecord k x.ctx, 128)

/-- Why a line is discarded (R125; R211 for a reserved format code, whatever the context's state), with the status it is acknowledged with; none when it is accepted. -/
def State.redDiscard (s : State) (k : Scd) (kind : RedKind) (x : RedLine) : Option Status :=
  let c := s.ctx k x.ctx
  if fmtWidth x.fmt = 0 then some .formatUnsupported
  else if s.rcxState k x.ctx ≠ rcxOpen ∨ c.completing.isSome ∨ x.gen ≠ s.rcxGen k x.ctx then some .timeout
  else if s.rcxContrib k x.ctx < x.contrib then some .formatUnsupported
  else if x.fmt ≠ s.rcxFmt k x.ctx then some .formatUnsupported
  else
    let e := lineElems (s.rcxOp k x.ctx) (s.rcxFmt k x.ctx)
    match kind with
    | .dense => if s.rcxLines k x.ctx ≤ x.line then some .formatUnsupported else none
    | .sparse =>
      if s.rcxSparse k x.ctx = false ∨ s.rcxLines k x.ctx * e < 64 * x.line + 64 then some .formatUnsupported else none
    | .done => if c.done.contains x.contrib then some .ok else none

/-- One accumulator combined with one element (OP of Table 4.7; R111 for MAX and MIN; RND is 0b00, R196). -/
def combineElem (op fmt : Nat) (sat : Bool) (acc x : Nat) : Nat :=
  let o := accFmt fmt
  let a := numOf o acc
  let b := numOf fmt x
  match op with
  | 0 => rduResult o sat .nearest (a.add b)
  | 1 => pickElem o sat false false a b acc (rduResult o sat .nearest b)
  | _ => pickElem o sat false true a b acc (rduResult o sat .nearest b)

/-- Two ARGMAX pairs combined: the greater value, then the smaller index (R111). -/
def combinePair (fmt : Nat) (acc x : Nat × Nat) : Nat × Nat :=
  let y := match (numOf fmt acc.1).rank (numOf fmt x.1) with
    | .gt => acc
    | .lt => x
    | .eq => if x.2 < acc.2 then x else acc
  if (numOf fmt y.1).isNan then (rduResult fmt false .nearest .nan, y.2) else y

/-- The accumulator bytes after a data line, from those before it. -/
def redCombine (op fmt : Nat) (sat : Bool) (kind : RedKind) (old data : List Byte) : List Byte :=
  let v := leNat old
  let n := 8 * accBytes op fmt
  match kind with
  | .dense =>
    let d := leNat data
    if op = 3 then
      let ps := (List.range 16).map fun j =>
        combinePair fmt (elemAt 32 v (2 * j), elemAt 32 v (2 * j + 1)) (elemAt 32 d (2 * j), elemAt 32 d (2 * j + 1))
      leBytes 128 (packElems 64 (ps.map fun p => p.1 % 2 ^ 32 + p.2 % 2 ^ 32 * 2 ^ 32))
    else
      leBytes old.length (packElems n ((List.range (lineElems op fmt)).map fun j =>
        combineElem op fmt sat (elemAt n v j) (elemAt (fmtWidth fmt) d j)))
  | .sparse =>
    let on := (List.range 64).filter fun j => (leAt data 0 8).testBit j
    let d := leNat (data.drop 8)
    leBytes old.length (packElems n ((List.range 64).map fun j =>
      if on.contains j then combineElem op fmt sat (elemAt n v j) (elemAt (fmtWidth fmt) d (on.idxOf j)) else elemAt n v j))
  | .done => old

/-- The context meets its completion test (Table 4.6). -/
def State.rcxFull (s : State) (k : Scd) (i : Nat) : Bool :=
  s.rf .scdRcxProg 31 21 k.toNat i == s.rcxContrib k i + 1 &&
  s.rf .scdRcxProg 17 0 k.toNat i == (s.ctx k i).declared

/-- The line dequeued now by lane operation `op`: status of its acknowledgement, bytes it writes, and the context after it
(R121, R125). An uncorrectable accumulator word ends the line with MEDIA_ERROR (Table 19.1). -/
def State.redApply (s : State) (k : Scd) (kind : RedKind) (r : LineReq) (op : Nat) : Status × List (Nat × Byte) × State :=
  let x := redLine r
  match s.redDiscard k kind x with
  | some st => (st, [], s.bump .scdRcxdrop 1 k.toNat)
  | none =>
    let rg := s.redRange k kind x
    let c := s.ctx k x.ctx
    match kind with
    | .done =>
      let s := s.setCtx k x.ctx { c with done := c.done ++ [x.contrib], declared := c.declared + x.count }
      let s := s.wf .scdRcxProg 31 21 (s.rf .scdRcxProg 31 21 k.toNat x.ctx + 1) k.toNat x.ctx
      (.ok, [], if s.rcxFull k x.ctx then s.setCtx k x.ctx { s.ctx k x.ctx with completing := some op } else s)
    | _ =>
      if s.uncorrectable rg.1 rg.2 then (.mediaError, [], s)
      else
        let new := redCombine (s.rcxOp k x.ctx) (s.rcxFmt k x.ctx) (s.rcxSat k x.ctx) kind (s.laneRead rg.1 rg.2) r.data
        let s := (s.correct rg.1 rg.2).wf .scdRcxProg 17 0 (s.rf .scdRcxProg 17 0 k.toNat x.ctx + 1) k.toNat x.ctx
        (.ok, writesAt rg.1 new, if s.rcxFull k x.ctx then s.setCtx k x.ctx { s.ctx k x.ctx with completing := some op } else s)

/-- The acknowledgement of lane operation `op` is built: a context that it completes becomes COMPLETE (Table 4.6). -/
def State.redAcked (s : State) (k : Scd) (op : Nat) : State :=
  forEach s.openCtxs (fun x s => if x.1 = k ∧ (s.ctx x.1 x.2).completing = some op then s.rcxDone x.1 x.2 else s) s

/-! ### Rows -/

/-- RCX_ARM (R124, R132). -/
def execRcxArm (k : Scd) (i : BitVec 8) (s : State) : Host.Outcome State Fault Refusal :=
  .next (if s.scdOut k then s else s.rcxCommand k i.toNat true false)

/-- RCX_ABORT (R124). -/
def execRcxAbort (k : Scd) (i : BitVec 8) (s : State) : Host.Outcome State Fault Refusal :=
  .next (if s.scdOut k then s else s.rcxCommand k i.toNat false true)

/-- Whether a change is latched. -/
def State.isDue (s : State) (d : Due) : Bool := s.due.any (fun e => e.2 == d)

/-- Take the first latched occurrence of a change out of the list. -/
def State.takeDue (s : State) (d : Due) : State := { s with due := dropFirst (fun e => e.2 == d) s.due }

end Sys2Proof.Machine
end

