-- ==== Sys2Proof/Machine/Admit.lean ====
section
/-! DEFINITION. Grants in use (R457 to R462, R492, R493) and the admission of line requests (R12, R328, R355, R455, R456,
R458, R463, R485 and the checks that each opcode adds). -/

namespace Sys2Proof.Machine

/-! ### Grant entries in use -/

def Grant.fresh : Grant :=
  { base := 0, len := 0, tenant := 0, reqid := 0, reqmask := 0, rights := 0, st := .free, rkey := 0, inflight := 0,
    revokeAt := 0, revokers := [] }

def State.grant (s : State) (i : Nat) : Grant := (s.sec.grants.find i).getD Grant.fresh

/-- The root-of-trust core is held, so nothing leaves RETIRING, REVOKING or SCRUBBING (Table 17.1). -/
def State.rotHeld (s : State) : Bool := s.rf .ctlWdtstat 31 31 0 0 == 1

/-- A REVOKING entry whose INFLIGHT is zero leaves REVOKING (Table 15.10): its revoke commands complete, and REVOKE_DONE
goes to the manager (R493), which keeps its own report. -/
def State.grantSettle (s : State) (i : Nat) : State :=
  let g := s.grant i
  if g.st ≠ .revoking ∨ g.inflight ≠ 0 ∨ s.rotHeld = true then s
  else
    let n := s.time.stroke
    let s := s.setGrant i (if g.owner then { g with st := .scrubbing, revokeAt := n, revokers := [] } else Grant.fresh)
    let s := forEach g.revokers (fun r s => s.complete r .ok n) s
    if g.revokers.isEmpty then s
    else
      let told := beBytes 8 g.base ++ beBytes 4 g.len ++ beBytes 2 g.tenant.toNat ++ beBytes 8 n
      match s.manager with
      | some m => if m = s.serial then { s with fab := { s.fab with reports := s.fab.reports ++ [(n, m, told)] } }
        else s.sendFabric m fabRevokeDone s.mapEpoch 0 0 told
      | none => s

/-- An operation passed its check on an entry (R462). -/
def State.grantEnter (s : State) (g : Option Nat) : State :=
  match g with
  | some i => s.setGrant i { s.grant i with inflight := (s.grant i).inflight + 1 }
  | none => s

/-- An operation counted on an entry has completed (R462). -/
def State.grantLeave (s : State) (g : Option Nat) : State :=
  match g with
  | some i => (s.setGrant i { s.grant i with inflight := (s.grant i).inflight - 1 }).grantSettle i
  | none => s

/-! ### The grant check -/

/-- Whether an entry matches a request (R458). -/
def State.grantMatches (s : State) (t : Tenant) (q : BitVec 16) (a n : Nat) (e : Nat × Grant) : Bool :=
  (e.2.st == .active || e.2.st == .revoking) && e.2.tenant == t && ((q ^^^ e.2.reqid) &&& e.2.reqmask) == 0 &&
  e.2.spans a n && !s.sec.badGrant.contains e.1

/-- Outcome of R458: the status, and the entry passed. -/
def State.grantCheck (s : State) (t : Tenant) (q : BitVec 16) (rkey : Word) (bit a n : Nat) : Status × Option Nat :=
  let es := s.sec.grants.filter fun e => s.grantMatches t q a n e && e.2.right bit
  if es.isEmpty then (.noGrant, none)
  else if es.all (fun e => e.2.st == .revoking) then (.accessRevoked, none)
  else
    match es.find? (fun e => e.2.st == .active && e.2.rkey == rkey) with
    | some e => (.ok, some e.1)
    | none => (.keyMismatch, none)

/-- The lowest entry on which an engine or internal access passes (R459). -/
def State.engEntry (s : State) (t : Tenant) (bit a : Nat) : Option Nat :=
  (s.sec.grants.find? fun e =>
    e.2.st == .active && e.2.tenant == t && e.2.right 3 && e.2.right bit && e.2.spans a 1 &&
    !s.sec.badGrant.contains e.1).map fun e => e.1

/-- The right a request needs (Table 15.9): 0 R, 1 W, 2 A. -/
def ReqKind.right : ReqKind → Nat
  | .load | .get | .rdS => 0
  | .atomic _ | .publish => 2
  | _ => 1

/-- Requests of class 0 (Table 10.3). -/
def ReqKind.coherent : ReqKind → Bool
  | .rdS | .rdX | .upg | .wb | .wbKeep => true
  | _ => false

/-- Replies of class 1. -/
def ReqKind.reply : ReqKind → Bool
  | .pushData | .ack | .ackWbpend | .stashAck | .stashNak => true
  | _ => false

def ReqKind.isRed : ReqKind → Bool
  | .red _ => true
  | _ => false

/-- Requests that write memory when they are admitted (R421). -/
def ReqKind.writes : ReqKind → Bool
  | .store | .pstore | .put | .retr | .atomic _ | .publish | .wb | .wbKeep => true
  | _ => false

def ReqKind.read : ReqKind → Bool
  | .load | .get => true
  | _ => false

/-! ### Agents (R292 to R294) -/

/-- A DIR_AGENT entry of an SCD names a valid, non-failed agent: its port. -/
def State.agentPort (s : State) (k : Scd) (a : BitVec 5) : Option Nat :=
  let v := s.av .dirAgent k.toNat a.toNat
  if bitAt v 31 && !bitAt v 30 && s.rf .dirAgent 30 30 k.toNat a.toNat == 0 then some (bits v 9 0) else none

/-- The valid, non-failed agents of an SCD, in ascending order. -/
def State.agents (s : State) (k : Scd) : List (BitVec 5) :=
  ((List.range 32).map (BitVec.ofNat 5)).filter fun a => (s.agentPort k a).isSome

/-- The agent on a port. -/
def State.agentOn (s : State) (k : Scd) (p : Nat) : Option (BitVec 5) :=
  (s.agents k).find? fun a => s.agentPort k a == some p

/-! ### Admission -/

/-- The range a request is checked on (R126 for contribution lines, on the SCD of their context). -/
def State.reqRange (s : State) (_k : Scd) (x : Req) : Nat × Nat :=
  match x.kind with
  | .red kind => s.redRange (BitVec.ofNat 5 (bits x.r.addr.toNat 12 8)) kind (redLine x.r)
  | .publish => (x.r.addr.toNat, 16)
  | _ => (x.r.addr.toNat, x.r.len.toNat)

/-- The place of a request's bytes; a contribution line's is its context's scratchpad. -/
def State.reqPlace (s : State) (k : Scd) (x : Req) : Place :=
  match x.kind with
  | .red _ => .scratch (bits x.r.addr.toNat 12 8)
  | _ => s.place k x.r.addr.toNat

/-- A port of the management pair. -/
def mgmtPort (p : Port) : Bool := p.toNat == portM0 || p.toNat == portM1

/-- The binding part of the grant check (R455, R473). -/
def State.bound (s : State) (r : LineReq) : Bool :=
  let v := s.av .secBind 0 r.reqid.toNat
  bitAt v 31 && bits v 19 10 == s.bindPort r.port.toNat && bits v 29 20 == r.tenant.toNat

/-- The role check of R355 refuses the request. -/
def State.roleRefuses (s : State) (x : Req) : Bool :=
  if x.r.internal then false
  else
    match s.role (s.bindPort x.r.port.toNat) with
    | 1 => true
    | 2 => match x.kind with
      | .load | .store | .pstore => true
      | k => k.coherent || k.reply
    | _ => false

/-- The named arrival counter may not be advanced by the request (R282, R570). -/
def State.counterRefuses (s : State) (r : LineReq) : Bool :=
  if bitAt r.ctr.toNat 15 then
    let j := bits r.ctr.toNat 13 9
    let c := bits r.ctr.toNat 8 0
    s.scdOut (BitVec.ofNat 5 j) ||
    s.rf .scdActrcfg 11 11 j c == 0 || s.rf .scdActrcfg 9 0 j c != r.tenant.toNat ||
    (s.rf .scdActrcfg 10 10 j c == 1 && r.spread)
  else false

/-- A range of pages named by a pair of address registers and a page count overlaps [a, a + n). -/
def pageWindow (lo hi len a n : Nat) : Bool :=
  let base := hi * 2 ^ 32 + bits lo 31 12 * 4096
  decide (base < a + n ∧ a < base + 4096 * len)

/-- The range touches an enabled handoff window (R494). -/
def State.inHandoff (s : State) (a n : Nat) : Bool :=
  (List.range 8).any fun j =>
    s.af .fabHowinCfg 31 31 0 j == 1 &&
    pageWindow (s.av .fabHowinLo 0 j) (s.af .fabHowinHi 8 0 0 j) (s.af .fabHowinLen 23 0 0 j) a n

/-- What a handoff window accepts (R494). -/
def handoffOk (x : Req) : Bool :=
  x.r.len == 8 && x.r.addr.toNat % 8 == 0 &&
  (match x.kind with
   | .load | .get | .atomic .cas => true
   | _ => false)

/-- A MEPOCH is accepted (R485). -/
def State.epochOk (s : State) (e : BitVec 16) : Bool :=
  e == s.mapEpoch ||
  (match s.fab.graceUntil with
   | some n => e == s.mapEpoch - 1 && decide (s.time.stroke < n)
   | none => false) ||
  (match s.fab.pend with
   | some c => e == c.epoch && e == s.mapEpoch + 1
   | none => false)

/-- The checks that RETR adds (R340). -/
def State.retrStatus (s : State) (r : LineReq) : List Status :=
  let seg := s.segment (BitVec.ofNat 16 (beAt r.ext 0 2))
  let bad := match seg with
    | none => [Status.noGrant]
    | some g =>
      (if g.st = .disabled then [Status.functionDisabled] else []) ++
      (if g.image.tenant ≠ r.tenant ∨ g.st = .verifying then [Status.noGrant] else [])
  bad ++ (if beAt r.ext 2 1 % 4 != 0 && s.noDistance then [.unitAbsent] else [])

/-- The checks on the base that a piece of an XMAP or SAME record names (R434). -/
def State.baseStatus (s : State) (r : LineReq) : List Status :=
  match r.base with
  | none => []
  | some (id, b) =>
    if id = 0 then []
    else
      match s.base id.toNat with
      | none => [.formatUnsupported]
      | some x => (if x.tenant ≠ r.tenant then [.noGrant] else []) ++ (if x.blocks ≤ b.toNat then [.formatUnsupported] else [])

/-- The part of the grant check that no grant entry decides: placement, role, binding, counters, weight class, bases, handoff
windows, coherence and contexts. -/
def State.noGrantCause (s : State) (k : Scd) (x : Req) (pl : Place) : Bool :=
  let rg := s.reqRange k x
  let a := rg.1
  let n := rg.2
  let eff := match pl with
    | .slot x => slotAddr (s.extent x) ((a - (s.extent x).vbase) / 256)
    | _ => pl.nearAddr.getD a
  let n := match pl with
    | .slot _ => 128
    | _ => n
  (match pl with
   | .nowhere => true
   | .control => !mgmtPort x.r.port
   | _ => false) ||
  s.roleRefuses x || (!x.r.internal && !s.bound x.r) || s.counterRefuses x.r ||
  (x.kind.coherent && ((s.agentOn k x.r.port.toNat).isNone || (match pl with | .near _ => false | _ => true))) ||
  (match s.weightClass eff with
   | some _ =>
     s.weightClosed eff || x.kind.coherent ||
     (x.kind.read && (bits (s.av .secBind 0 x.r.reqid.toNat) 30 30 == 0 || !s.wenc x.r.tenant))
   | none => false) ||
  (x.kind.writes && s.inBase eff n) ||
  (s.inHandoff eff n && !handoffOk x) ||
  (x.kind.isRed && bits x.r.addr.toNat 12 8 == k.toNat && s.rcxTenant k (redLine x.r).ctx != x.r.tenant)

/-- Every admission status that applies to a request, and the grant entry it would pass (R12). -/
def State.admitStatuses (s : State) (k : Scd) (x : Req) (pl : Place) : List Status × Option Nat :=
  let r := x.r
  let rg := s.reqRange k x
  let g : Status × Option Nat :=
    if r.internal then
      match s.engEntry r.tenant 1 rg.1 with
      | some i => (if s.engGranted r.tenant 1 rg.1 rg.2 then (.ok, some i) else (.noGrant, none))
      | none => (.noGrant, none)
    else if pl = .control then (.ok, none)
    else s.grantCheck r.tenant r.reqid r.rkey x.kind.right rg.1 rg.2
  let ready := match pl with
    | .control => s.rf .ctlBringup 30 30 == 1
    | .cold _ => s.ready && (s.rf .ctlBringup 29 29 == 1 || s.noDelta)
    | _ => s.ready
  let form4 := match pl with
    | .slot _ => true
    | _ => false
  let atomic := match x.kind with
    | .atomic _ | .publish => true
    | _ => false
  let record := match x.kind, pl with
    | .publish, .near a => a % 16 == 0
    | .publish, _ => false
    | _, _ => true
  ((if ready then [] else [Status.notReady]) ++
   (if (s.tenant r.tenant).st = .active ∧ (s.tenant r.tenant).epoch = r.tepoch then [] else [.tenantGone]) ++
   (if s.noGrantCause k x pl then [.noGrant] else []) ++
   (if g.1 = .ok then [] else [g.1]) ++
   (if s.af .lmtTenpol 0 0 0 r.tenant.toNat = 1 ∧ r.enc = false ∧ r.internal = false then [.keyMismatch] else []) ++
   (if s.epochOk r.mepoch || r.internal then [] else [.staleMap]) ++
   (if x.kind = .retr then s.retrStatus r else []) ++
   (if (r.cmp && s.noDelta) || (match pl with | .cold _ => s.noDelta | _ => false) then [.unitAbsent] else []) ++
   (if form4 && atomic then [.formatUnsupported] else []) ++
   (if record then [] else [.formatUnsupported]) ++ s.baseStatus r, g.2)

/-- Admission of a request on its home SCD: its place, the grant entry passed, and OK or the status that refuses it. -/
def State.admission (s : State) (k : Scd) (x : Req) : Place × Option Nat × Status :=
  let pl := s.reqPlace k x
  let c := s.admitStatuses k x pl
  (pl, c.2, Status.first Status.admissionOrder c.1)

/-- A refusal is counted where a register counts its kind (R485, Table 11.8). -/
def State.countRefusal (s : State) (x : Req) (st : Status) : State :=
  if st = .staleMap then s.bump .fabStalecnt
  else if st = .noGrant ∧ s.roleRefuses x = true then s.bump .lmtRoleref
  else s

end Sys2Proof.Machine
end

