-- ==== Sys2Proof/Machine/Coherence.lean ====
section
/-! DEFINITION. The coherence directory of each SCD (10_coherent_domain.md): entries, snoops, transactions of busy lines,
eviction, engine writes, stashes, agent failure, orphaned lines (R564). -/

namespace Sys2Proof.Machine

/-! ### Entries -/

def State.entry (s : State) (line : Nat) : Option DirEntry := s.coh.entries.find line

def DirEntry.none : DirEntry := { way := 0, st := .i, bcast := false, owner := Option.none, sharers := [] }

/-- The entry of a line; a line without one is in I. -/
def State.dir (s : State) (line : Nat) : DirEntry := (s.entry line).getD DirEntry.none

/-- The set of a line (R297). -/
def dirSet (line : Nat) : Nat := 2 * bits (128 * line) 26 13 + bits (128 * line) 7 7

/-- The entries of one set of an SCD, by line. -/
def State.setEntries (s : State) (k : Scd) (set : Nat) : List (Nat × DirEntry) :=
  s.coh.entries.filter fun e => dirSet e.1 == set && s.home (128 * e.1) == k

/-- STATE encoding of Table 10.2. -/
def LineSt.code : LineSt → Nat
  | .i => 0 | .s => 1 | .e => 2 | .o => 3 | .m => 4

def State.txnOn (s : State) (line : Nat) : Option Txn := s.coh.txns.find? fun t => t.line == line

def State.txn (s : State) (id : Nat) : Option Txn := s.coh.txns.find? fun t => t.id == id

/-- A transaction on the line is in progress. -/
def State.busy (s : State) (line : Nat) : Bool := (s.txnOn line).isSome

/-- A WB or WB_KEEP of this port finds its agent as the owner of the line in M (R302). -/
def State.ownsM (s : State) (k : Scd) (line : Nat) (port : Port) : Bool :=
  let e := s.dir line
  e.st == .m && e.owner.isSome && e.owner == s.agentOn k port.toNat

/-- A request that will set BUSY has been dequeued and its entry lookup has not ended (R303): later requests to the line wait
for it too. -/
def State.lookingUp (s : State) (line : Nat) : Bool :=
  s.timed.any fun e => match e.2 with
    | .lookup k x => x.line == line && (x.kind != .writeBack || s.ownsM k line x.req.r.port)
    | _ => false

/-- The 64 bits of a line's entry (Table 10.2); zero when it has none. -/
def State.entryWord (s : State) (line : Nat) : Nat :=
  match s.entry line with
  | none => 0
  | some e =>
    let ptrs := e.owner.toList ++ (if e.bcast then [] else e.sharers)
    fld e.st.code 61 + fld (b2n (s.busy line)) 60 + fld (b2n e.bcast) 59 + line % 2 ^ 34 +
      ((List.range 4).zip ptrs |>.map fun p => fld 1 (55 + p.1) + fld p.2.toNat (35 + 5 * p.1)).sum

/-- An entry whose holders left it: without an owner or sharers it is in I (R295, R298). -/
def DirEntry.settle (e : DirEntry) : Option DirEntry :=
  match e.st with
  | .i => Option.none
  | .e | .m => if e.owner.isNone then Option.none else some { e with bcast := false, sharers := [] }
  | .o =>
    if e.owner.isSome then some e
    else if e.sharers.isEmpty && !e.bcast then Option.none else some { e with st := .s }
  | .s => if e.sharers.isEmpty && !e.bcast then Option.none else some { e with owner := Option.none }

/-- Store what an entry has become, in the way it has; I frees the way. -/
def State.setEntry (s : State) (line : Nat) (e : Option DirEntry) : State :=
  { s with coh := { s.coh with entries := match e with
    | some e => s.coh.entries.insert line { e with way := ((s.entry line).map fun old => old.way).getD e.way }
    | none => s.coh.entries.erase line } }

/-- Add a sharer: in S four pointers, in O three beside the owner; without a free pointer BCAST is set (R298). -/
def DirEntry.addSharer (e : DirEntry) (a : BitVec 5) : DirEntry :=
  if e.bcast || e.sharers.contains a || e.owner == some a then e
  else if (if e.st = .o then 3 else 4) ≤ e.sharers.length then { e with bcast := true, sharers := [] }
  else { e with sharers := e.sharers ++ [a] }

/-- Take an agent out of an entry. -/
def DirEntry.drop (e : DirEntry) (a : BitVec 5) : DirEntry :=
  { e with owner := if e.owner = some a then Option.none else e.owner, sharers := e.sharers.filter (fun b => b != a) }

/-- The agents a snoop to every holder goes to (R299): the recorded ones, or with BCAST every valid agent of the SCD. -/
def State.holders (s : State) (k : Scd) (e : DirEntry) : List (BitVec 5) :=
  if e.bcast then s.agents k else e.owner.toList ++ e.sharers.filter (fun a => e.owner != some a)

/-- A line whose entry was lost and that has not taken one since (R562, R571, R540). -/
def State.orphan (s : State) (line : Nat) : Bool :=
  s.coh.orphans.contains line || (s.coh.lostHomes.contains (rawHome (128 * line)) && !s.coh.taken.contains line)

/-- The line takes an entry, or its orphan handling has ended: it is no longer orphaned. -/
def State.adopt (s : State) (line : Nat) : State :=
  { s with coh := { s.coh with
      orphans := s.coh.orphans.filter (fun l => l != line),
      taken := if s.coh.lostHomes.contains (rawHome (128 * line)) && !s.coh.taken.contains line then line :: s.coh.taken
        else s.coh.taken } }

/-! ### Transactions -/

def State.setTxn (s : State) (t : Txn) : State :=
  { s with coh := { s.coh with txns := s.coh.txns.map fun x => if x.id = t.id then t else x } }

def State.dropTxn (s : State) (id : Nat) : State :=
  { s with coh := { s.coh with txns := s.coh.txns.filter fun x => x.id != id } }

/-- The first cy on which a snoop for the line to the agent may be handed over (R306, R307). -/
def State.sustained (s : State) (line : Nat) (a : BitVec 5) : Nat :=
  ((s.coh.sustain.filter fun x => x.1 == line && x.2.1 == a).map fun x => x.2.2).foldl Nat.max 0

/-- A coherence frame the home sends (R341): to an agent's port, at the address the agent last sent from. -/
def State.cohFrame (s : State) (k : Scd) (a : BitVec 5) (opc cls line : Nat) (t : Tenant) (e : BitVec 16) (opid : Word)
    (data : List Byte) : Option Frame :=
  match s.agentPort k a with
  | none => none
  | some p =>
    let ret := (s.coh.from_.find p).getD { ip := 0, udp := 0, dstIp := 0, v4 := false, vlan := none }
    let m : Lmt := { opc := opc, rsp := false, status := .ok, cls := cls, tenant := t, tepoch := e, mepoch := s.mapEpoch,
                     reqid := s.selfReqid, rkey := 0, opid := opid, fidx := 0, nfrm := 1, addr := 128 * line, ctr := 0,
                     hint := 0, arg := 0, ext := [], data := data, enc := s.wenc t, cmp := false, ece := false }
    some (lmtFrame (BitVec.ofNat 10 p) m ret.ip (s.sourceIp ret.v4) (lmtPort s) ret.v4 none none)

/-- Snoops of a transaction to some agents, built on cy `b`: each takes an OPID and is handed over on `b` or when its
sustain window ends (R303, R306, R341). An agent that is not valid counts as answered (R318). -/
def State.sendSnoops (s : State) (id : Nat) (opc b : Nat) (agents : List (BitVec 5)) (bcast : Bool) : State :=
  let s := if bcast then
      match s.txn id with
      | some t => s.bump .dirBcast 1 t.k.toNat
      | none => s
    else s
  forEach agents (fun a s =>
    match s.txn id with
    | none => s
    | some t =>
      if (s.agentPort t.k a).isNone then s.setTxn { t with gone := t.gone ++ [a] }
      else
        let hand := max b (s.sustained t.line a)
        let (opid, s) := s.nextOpid t.cause.1
        let s := s.setTxn { t with
          snoops := t.snoops ++ [{ agent := a, opid := opid, opc := opc, built := b, hand := hand, until_ := none }] }
        s.after hand (.snoop t.k id a)) s

/-- A snoop is handed to the crossbar: its frame goes to the agent's port, and a snoop that the sustain window delayed is
counted (R305, R306). -/
def State.snoopHand (s : State) (k : Scd) (id : Nat) (a : BitVec 5) : State :=
  match s.coh.txns.find? (fun t => t.id == id && t.k == k) with
  | none => s
  | some t =>
    match t.snoops.find? (fun x => x.agent == a) with
    | none => s
    | some x =>
      let s := if x.built < x.hand then s.bump .dirSustain 1 k.toNat else s
      match s.cohFrame k a x.opc 0 t.line t.cause.1 t.cause.2 x.opid [] with
      | some f => s.sendFrame k f
      | none => s

/-- SNP_DROP to agents, which nobody answers (R315): handed over now or when the sustain window ends (R307). -/
def State.sendDrops (s : State) (k : Scd) (line : Nat) (cause : Tenant × BitVec 16) (agents : List (BitVec 5)) : State :=
  forEach agents (fun a s =>
    let hand := max s.now (s.sustained line a)
    let (opid, s) := s.nextOpid cause.1
    match s.cohFrame k a 0x17 0 line cause.1 cause.2 opid [] with
    | some f => s.after hand (.drop k f (decide (s.now < hand)))
    | none => s) s

/-- An SNP_DROP is handed to the crossbar. -/
def State.dropHand (s : State) (k : Scd) (f : Frame) (late : Bool) : State :=
  (if late then s.bump .dirSustain 1 k.toNat else s).sendFrame k f

/-- A transaction on a line whose path starts on cy `start`, for a request of tenant and epoch `cause`. -/
def Txn.begin (k : Scd) (line : Nat) (kind : TxnKind) (cause : Tenant × BitVec 16) (start : Nat) : Txn :=
  { id := 0, k := k, line := line, kind := kind, req := none, grantIx := none, agent := none, cause := cause,
    carry := { entry := false, t0 := start, place := 0, ends := false }, start := start, snoops := [], wbpend := [],
    wbGot := [], readAt := none, readEnd := none, data := none, need := false, pushes := [], pushed := false,
    overtaken := false, ready := start + 16, gone := [], met := [], before := DirEntry.none }

/-- Tenant and epoch of a request. -/
def Req.owner (x : Req) : Tenant × BitVec 16 := (x.r.tenant, x.r.tepoch)

/-- The transaction of a looked-up request. -/
def Lookup.txn (x : Lookup) (k : Scd) (kind : TxnKind) : Txn :=
  { Txn.begin k x.line kind x.req.owner x.p with req := some x.req, grantIx := x.grant, carry := x.carry }

/-- Open a transaction under the next number. -/
def State.openTxn (s : State) (t : Txn) : State :=
  { s with lane := { s.lane with nextId := s.lane.nextId + 1 },
           coh := { s.coh with txns := s.coh.txns ++ [{ t with id := s.lane.nextId, before := s.dir t.line }] } }

/-- Start a home read on cy `b` (Table 10.5, R304). -/
def State.homeRead (s : State) (id b : Nat) : State :=
  match s.txn id with
  | none => s
  | some t =>
    let hit := (s.mem.scache.find t.line).isSome
    let late := inRefresh (128 * t.line) b 38
    let begins := if hit then b else b + 38 + (if late then 480 else 0)
    let ends := if hit then b + 36 else b + (if late then 690 else 210)
    ((s.setTxn { t with readAt := some begins, readEnd := some ends }).after begins (.homeEnd t.k id)).after ends
      (.homeEnd t.k id)

/-- End of a push-to-home dequeued on cy `p` (Table 10.5, R304). -/
def pushEnd (line p : Nat) : Nat := p + (if inRefresh (128 * line) p 40 then 692 else 212)

/-- Bytes and status of a home read as its bank access begins. -/
def State.homeCopy (s : State) (line : Nat) : List Byte × List Status :=
  let a := 128 * line
  if s.stackOut (stackOf a) then ([], [.unitLost])
  else
    match s.mem.scache.find line with
    | some v => (leBytes 128 v.toNat, [])
    | none => if s.uncorrectable a 128 then ([], [.mediaError]) else (s.memRead a 128, [])

/-! ### Answers -/

/-- GRANT or WB_DONE to the agent of a request (R341, R329): status, granted state, data. -/
def State.sendAnswer (s : State) (k : Scd) (x : Req) (g : Option Nat) (st : Status) (state : Nat) (data : List Byte) : State :=
  let r := x.r
  let wb := x.kind = .wb ∨ x.kind = .wbKeep
  let st := if (s.tenant r.tenant).epoch = r.tepoch then st else .tenantGone
  let m : Lmt := { s.responseMsg (if wb then 0x1F else 0x19) 1 r st (if st = .ok then data else []) with
                   rsp := false, arg := if st = .ok then BitVec.ofNat 32 state else 0,
                   addr := r.addr.toNat - r.addr.toNat % 128 }
  (s.grantLeave g).sendFrame k (lmtFrame r.port m r.ret.ip r.ret.dstIp r.ret.udp r.ret.v4 r.ret.vlan none)

/-- Response opcode of a class-2, class-4 or class-5 request (Table 11.4). -/
def ReqKind.opc : ReqKind → Nat
  | .load => 1 | .store => 2 | .pstore => 3 | .atomic _ => 4 | .put => 5 | .get => 6 | .publish => 7 | .red _ => 8
  | .retr => 9 | .rdS => 0x10 | .rdX => 0x11 | .upg => 0x12 | .wb => 0x13 | .wbKeep => 0x14 | .pushData => 0x1A
  | .ack => 0x1B | .ackWbpend => 0x1C | .stashAck => 0x1D | .stashNak => 0x1E

/-- Answer a request that has no lane operation: the coherence answer, or a response with a status and no data. -/
def State.answer (s : State) (k : Scd) (x : Req) (g : Option Nat) (st : Status) : State :=
  if x.kind.coherent then s.sendAnswer k x g st 0 []
  else if x.kind.reply then s
  else (s.grantLeave g).sendResponse k x.kind.opc x.r st []

/-- Execution status of a transaction (R13); a lost home stack counts too (Table 19.2). -/
def State.txnStatus (s : State) (t : Txn) : Status :=
  Status.first Status.executionOrder ((if s.stackOut (stackOf (128 * t.line)) then [.unitLost] else []) ++ t.met)

/-- The waiting request of a transaction ends before the transaction does, with TIMEOUT or what R13 sets above it (R318). -/
def State.endWaiting (s : State) (t : Txn) : State :=
  let st := s.txnStatus { t with met := t.met ++ [.timeout] }
  match t.kind, t.req with
  | .load op, _ =>
    { s with lane := { s.lane with ops := s.lane.ops.map fun (o : LaneOp) =>
        if o.id = op then { o with status := st, data := [], waits := false, due := s.now } else o } }
      |>.after s.now (.respond t.k op)
  | _, some x => s.answer t.k x t.grantIx st
  | _, none => s

/-! ### The end of a transaction -/

/-- The entry a transaction leaves (Table 10.4, R301, R302, R312, R313, R317, R590), from the entry before it. -/
def Txn.after (t : Txn) (served : Bool) : Option DirEntry :=
  let e := t.gone.foldl DirEntry.drop t.before
  let r := if served then t.agent else Option.none
  let own (st : LineSt) : Option DirEntry :=
    DirEntry.settle { e with st := st, owner := r, sharers := [], bcast := false }
  match t.kind with
  | .readS =>
    match t.before.st with
    | .i => own .e
    | .s | .o => DirEntry.settle (match r with | some a => e.addSharer a | none => e)
    | .e =>
      let base : DirEntry :=
        if t.pushed then { e with st := .o } else { e with st := .s, sharers := e.owner.toList, owner := Option.none }
      if e.owner.isNone then own .e else DirEntry.settle (match r with | some a => base.addSharer a | none => base)
    | .m =>
      if t.pushed && e.owner.isSome then
        let base : DirEntry := { e with st := .o }
        DirEntry.settle (match r with | some a => base.addSharer a | none => base)
      else own .e
  | .readX | .upgrade => own .m
  | .writeBack keep => if keep then DirEntry.settle { e with st := .e } else Option.none
  | .load _ =>
    if t.pushed then DirEntry.settle { e with st := .o }
    else if t.before.st = .e then DirEntry.settle { e with st := .s, sharers := e.owner.toList, owner := Option.none }
    else Option.none
  | .stash => DirEntry.settle e
  | .write | .evict | .orphan => Option.none

/-- State that a GRANT names: what the requester now holds. -/
def grantState (e : Option DirEntry) (a : Option (BitVec 5)) : LineSt :=
  match e with
  | some e => if e.owner = a ∧ a.isSome then e.st else .s
  | none => .s

/-- A transaction has nothing left to wait for. -/
def Txn.settled (t : Txn) : Bool :=
  t.snoops.isEmpty && t.wbpend.isEmpty && t.pushes.isEmpty && (t.readEnd.isNone || (t.pushed && !t.overtaken))

/-- A way can be taken for a line of an SCD now (R310, R311). -/
def State.wayFree (s : State) (k : Scd) (line : Nat) : Bool :=
  let es := s.setEntries k (dirSet line)
  (s.entry line).isSome || decide (es.length < 16) ||
    (es.any (fun e => !s.busy e.1) && decide (countIf (fun t => t.k == k && t.kind == .evict) s.coh.txns < 64))

/-- Requests held for lines that are no longer busy may re-enter the lane, those that need an entry when a way can be taken
(R308, R311). -/
def State.releaseHeld (s : State) (k : Scd) : State :=
  let free (x : Held) : Bool := x.k == k && !x.released && !s.busy x.line &&
    (!(x.req.kind == .rdS || x.req.kind == .rdX || x.req.kind == .upg) || s.wayFree k x.line)
  { s with lane := { s.lane with held := s.lane.held.map fun x => if free x then { x with released := true, since := s.now } else x } }

/-- The lane operation of a load that waited for an agent goes on (R312): a push, or a home read of the transaction, gives its
bytes; a push also updates the line to be filled, and a home read fills none (R304). -/
def Txn.serve (t : Txn) (st : Status) (now : Nat) (o : LaneOp) : LaneOp :=
  let a := o.req.r.addr.toNat % 128
  let o := { o with waits := false, due := max o.due now }
  match t.data with
  | some d =>
    { o with
      status := st, data := if st = .ok then sub d a o.req.r.len.toNat else [],
      fill := if t.pushed then o.fill.map (fun f => (f.1, d)) else none }
  | none => { o with status := if st = .ok then o.status else st }

/-- A transaction ends (R305): the entry changes, BUSY clears, the request is answered, held requests may re-enter. Writes
and orphan handling start the request's own path (R313, R564). -/
def State.endTxn (s : State) (t : Txn) : State :=
  let s : State := s.dropTxn t.id
  let st : Status := match t.kind with
    | .readS | .readX | .upgrade | .load _ => s.txnStatus t
    | _ => Status.first Status.executionOrder t.met
  let served := st = .ok ∧ t.req.isSome
  let e := t.after served
  let s : State := match t.kind with
    | .evict => s
    | .orphan => (s.setEntry t.line none).adopt t.line
    | _ => s.setEntry t.line e
  let data := t.data.getD []
  let s : State := match t.kind, t.req with
    | .readS, some x | .readX, some x | .upgrade, some x =>
      let g := grantState e t.agent
      let s := s.sendAnswer t.k x t.grantIx st g.code (if t.need then data else [])
      match t.agent with
      | some a =>
        let keep := s.coh.sustain.filter fun y => decide (s.now < y.2.2)
        if st = .ok ∧ (g = .e ∨ g = .m) then
          { s with coh := { s.coh with sustain := (t.line, a, s.now + 96) :: keep } }
        else s
      | none => s
    | .load op, _ =>
      let go (o : LaneOp) : LaneOp := if o.id = op then t.serve st s.now o else o
      { s with lane := { s.lane with ops := s.lane.ops.map go } }
    | .write, some x | .orphan, some x => s.after s.now (.restart t.k x t.grantIx t.carry)
    | _, _ => s
  let s := match t.kind with
    | .load op =>
      match s.lane.ops.find? (fun (o : LaneOp) => o.id == op) with
      | some o => s.after o.due (.respond t.k op)
      | none => s
    | _ => s
  s.releaseHeld t.k

/-- What has come about in a transaction by now: replies have been processed, the home read samples its bytes or ends,
pushes end and are written; then the transaction ends, or a home read starts when an owner in M answered ACK (R590), or it
waits on. -/
def State.txnStep (s : State) (id : Nat) : State :=
  match s.txn id with
  | none => s
  | some t =>
    let now := s.now
    let t : Txn := { t with snoops := t.snoops.filter fun (y : Snoop) => match y.until_ with
      | some u => decide (now < u)
      | none => true }
    let t := match t.readAt with
      | some b =>
        if b ≤ now then
          let c := s.homeCopy t.line
          { t with readAt := none, data := if t.pushed then t.data else if c.2.isEmpty then some c.1 else none,
                   met := if t.pushed then t.met else t.met.filter (fun x => x == Status.timeout) ++ c.2 }
        else t
      | none => t
    let t := match t.readEnd with
      | some e => if e ≤ now then { t with readEnd := none, ready := max t.ready e } else t
      | none => t
    let done := t.pushes.filter fun (p : Push) => decide (p.ends ≤ now)
    let t : Txn := { t with pushes := t.pushes.filter fun (p : Push) => !decide (p.ends ≤ now) }
    let (t, s) := done.foldl (fun (ts : Txn × State) (p : Push) =>
      let (t, s) := ts
      let ws := writesAt (128 * t.line) (padTo 128 p.bytes)
      let s := if t.overtaken then s else ((s.bankWrite ws).cacheUpdate ws).bump .dirPush 1 t.k.toNat
      let s := match p.wb with
        | some x => s.sendAnswer t.k x (if t.kind = TxnKind.writeBack true ∨ t.kind = TxnKind.writeBack false then t.grantIx else none) .ok 0 []
        | none => s
      let t := if t.overtaken then t
        else { t with pushed := true, data := some (padTo 128 p.bytes), met := t.met.filter (fun x => x == Status.timeout) }
      ({ t with ready := max t.ready p.ends }, s)) (t, s)
    let s := s.setTxn t
    if !t.settled then s
    else if t.need && t.data.isNone && t.met.isEmpty && t.req.isSome then s.homeRead id now
    else if t.ready ≤ now then s.endTxn t
    else s.after t.ready (.homeEnd t.k id)

/-- Check a transaction on cy `c`. -/
def State.txnAt (s : State) (c : Nat) (k : Scd) (id : Nat) : State := s.after c (.homeEnd k id)

/-! ### Ways and victims -/

/-- Order of preference among victims (R310). -/
def LineSt.rank : LineSt → Nat
  | .s => 0 | .e => 1 | .o => 2 | _ => 3

/-- The victim of a full set: not BUSY, least state, lowest way (R310). -/
def State.victim (s : State) (k : Scd) (set : Nat) : Option (Nat × DirEntry) :=
  ((s.setEntries k set).filter fun e => !s.busy e.1).foldl (fun best e => match best with
    | none => some e
    | some b => if e.2.st.rank * 16 + e.2.way < b.2.st.rank * 16 + b.2.way then some e else some b) none

/-- Victims in the victim buffer of an SCD. -/
def State.victims (s : State) (k : Scd) : Nat := countIf (fun t => t.k == k && t.kind == .evict) s.coh.txns

/-- Evict an entry (R310): it leaves its way, and SNP_INV goes to each of its holders; the line stays BUSY until the last
reply. -/
def State.evict (s : State) (k : Scd) (line : Nat) (cause : Tenant × BitVec 16) (b : Nat) : State :=
  let e := s.dir line
  let id := s.lane.nextId
  let s := (((s.openTxn (Txn.begin k line .evict cause s.now)).setEntry line none).bump .dirEvict 1 k.toNat)
  (s.sendSnoops id 0x16 b (s.holders k e) e.bcast).txnAt b k id

/-- Take a way for a line (R310, R311): the state with the line's entry, or none when no way can be taken now. -/
def State.takeWay (s : State) (k : Scd) (line : Nat) (e : DirEntry) (cause : Tenant × BitVec 16) (b : Nat) : Option State :=
  match s.entry line with
  | some old => some (s.setEntry line (some { e with way := old.way }))
  | none =>
    let es := s.setEntries k (dirSet line)
    match firstBelow 16 (fun w => !es.any (fun x => x.2.way == w)) with
    | some w => some ((s.setEntry line (some { e with way := w })).adopt line)
    | none =>
      match s.victim k (dirSet line) with
      | none => none
      | some v =>
        if 64 ≤ s.victims k then none
        else some (((s.evict k v.1 cause b).setEntry line (some { e with way := v.2.way })).adopt line)

/-! ### Requests and replies of agents -/

/-- Put a held request in its place in dequeue order. -/
def insertHeld (h : Held) : List Held → List Held
  | [] => [h]
  | x :: xs => if h.place < x.place then h :: x :: xs else x :: insertHeld h xs

/-- Hold a request for its line, in its place (R308): it and those held for the line wait until it is released. A full hold
buffer discards it (R309). -/
def State.hold (s : State) (k : Scd) (x : Req) (place line : Nat) : State :=
  if 512 ≤ countIf (fun h => h.k == k) s.lane.held then s.bump .dirHolddrop 1 k.toNat
  else
    let held := s.lane.held.map fun h => if h.k = k ∧ h.line = line then { h with released := false } else h
    let held := insertHeld { k := k, req := x, place := place, line := line, released := false } held
    { s with lane := { s.lane with held := held } }

/-- The entry lookup of a request dequeued on cy `p` begins: it ends on cy 8 (R303). -/
def State.lookup (s : State) (k : Scd) (x : Lookup) : State := s.after (x.p + 8) (.lookup k x)

/-- A looked-up request must be held after all: what it passed is given back (R308, R311). -/
def State.holdLookup (s : State) (k : Scd) (x : Lookup) : State :=
  (s.grantLeave x.grant).hold k x.req x.carry.place x.line

/-- Orphan handling (R564): SNP_INV to every valid agent other than the requester; the request then takes its path. -/
def State.orphanTxn (s : State) (k : Scd) (x : Lookup) : State :=
  let r := if x.req.kind.coherent then s.agentOn k x.req.r.port.toNat else none
  let id := s.lane.nextId
  let s := s.openTxn { x.txn k .orphan with agent := r }
  (s.sendSnoops id 0x16 (x.p + 16) ((s.agents k).filter fun a => r != some a) true).txnAt (x.p + 16) k id

/-- The path of an admitted RD_S, RD_X or UPG (Table 10.4): snoops, home read, and the entry's transaction. -/
def State.cohRequest (s : State) (k : Scd) (x : Lookup) : State :=
  let line := x.line
  let kind := x.req.kind
  let r := s.agentOn k x.req.r.port.toNat
  let e := s.dir line
  let others := (s.holders k e).filter fun a => r != some a
  let holdsIt := match r with
    | some a => e.bcast || e.sharers.contains a || e.owner == some a
    | none => false
  let dataless := kind = .upg ∧ holdsIt = true ∧ (e.st = .s ∨ e.st = .o)
  let tk : TxnKind := if dataless then .upgrade else if kind = .rdS then .readS else .readX
  let target : DirEntry :=
    match r with
    | some a => { way := 0, st := if kind = .rdS then .e else .m, bcast := false, owner := some a, sharers := [] }
    | none => DirEntry.none
  let id := s.lane.nextId
  let s₁ := s.openTxn { x.txn k tk with agent := r, need := !dataless }
  match (if e.st = .i then s₁.takeWay k line target x.req.owner (x.p + 16) else some s₁) with
  | none => s.holdLookup k x
  | some s' =>
    let s' := match e.st, kind with
      | .e, .rdS | .m, .rdS => s'.sendSnoops id 0x15 (x.p + 16) e.owner.toList false
      | .e, _ | .m, _ => s'.sendSnoops id 0x16 (x.p + 16) e.owner.toList false
      | .s, .rdS | .o, .rdS | .i, _ => s'
      | _, _ => s'.sendSnoops id 0x16 (x.p + 16) others e.bcast
    let s' := if dataless ∨ e.st = .m then s' else s'.homeRead id (x.p + 8)
    s'.txnAt (x.p + 16) k id

/-- WB_DONE to a WB or WB_KEEP that is discarded (R302). -/
def State.wbDiscard (s : State) (k : Scd) (x : Lookup) : State :=
  let o : LaneOp :=
    { id := s.lane.nextId, k := k, req := x.req, p := x.p, due := x.p + 16, path := .refusal, grant := x.grant, status := .ok,
      data := [], carry := x.carry, fill := none, eff := x.req.r.addr.toNat, ext := none, refresh := false, followers := [],
      waits := false, readAt := 0 }
  ({ s with lane := { s.lane with ops := s.lane.ops ++ [o], nextId := s.lane.nextId + 1 } }).after o.due (.respond k o.id)

/-- A WB or WB_KEEP (Table 10.4, R302, R305): from the owner in M a push of its own; part of the transaction in progress when
that waits for the agent; otherwise discarded with WB_DONE. -/
def State.cohWriteBack (s : State) (k : Scd) (x : Lookup) : State :=
  let line := x.line
  let ends := pushEnd line x.p
  match s.txnOn line, s.agentOn k x.req.r.port.toNat with
  | some t, some a =>
    if t.wbpend.contains a || t.snoops.any (fun y => y.agent == a && y.opc != 0x18) then
      let s := if t.overtaken then s.homeRead t.id x.p else s
      let t := (s.txn t.id).getD t
      let c := if t.overtaken then x.p + 16 else ends
      let s := s.setTxn { t with
        wbpend := t.wbpend.filter (fun b => b != a), wbGot := t.wbGot ++ [a],
        pushes := t.pushes ++ [{ ends := c, bytes := x.req.r.data, wb := some x.req, agent := a }] }
      (s.grantLeave x.grant).txnAt c k t.id
    else s.wbDiscard k x
  | none, some a =>
    if s.ownsM k line x.req.r.port then
      let id := s.lane.nextId
      let t : Txn := { Txn.begin k line (.writeBack (x.req.kind == .wbKeep)) x.req.owner x.p with
        grantIx := x.grant, agent := some a, ready := ends,
        pushes := [{ ends := ends, bytes := x.req.r.data, wb := some x.req, agent := a }] }
      (s.openTxn t).txnAt ends k id
    else s.wbDiscard k x
  | _, none => s.wbDiscard k x

/-- A class-1 reply dequeued on cy `p` (Table 10.5, R303, R305, R316, R317): matched by the tenant and OPID of the frame it
answers; a reply to nothing outstanding is dropped. -/
def State.cohReply (s : State) (k : Scd) (x : Req) (p : Nat) : State :=
  let answers (t : Txn) (y : Snoop) : Bool := t.cause.1 == x.r.tenant && y.opid == x.r.opid && y.until_.isNone
  match s.coh.txns.find? (fun t => t.k == k && t.snoops.any (answers t)) with
  | none => s
  | some t =>
    match t.snoops.find? (answers t) with
    | none => s
    | some y =>
      let push : Bool := x.kind == .pushData && !t.overtaken
      let c := if push then pushEnd t.line p else p + 8
      let t := { t with
        snoops := t.snoops.map (fun z => if answers t z then { z with until_ := some c } else z), ready := max t.ready c,
        pushes := if push then t.pushes ++ [{ ends := c, bytes := x.r.data, wb := none, agent := y.agent }] else t.pushes,
        wbpend := if x.kind == .ackWbpend && !t.wbGot.contains y.agent then t.wbpend ++ [y.agent] else t.wbpend,
        gone := if x.kind == .stashNak then t.gone ++ [y.agent] else t.gone }
      let s := (s.setTxn t).txnAt c k t.id
      if x.kind = .pushData ∧ push = false then s.homeRead t.id p else s

/-! ### Requests from outside the domain -/

/-- A class-2 write or atomic that finds its line held (R313): SNP_INV to every holder; the write starts when the last reply
has been processed. A line that an engine write has freed since the dequeue is held by nobody: the write starts at once. -/
def State.cohWrite (s : State) (k : Scd) (x : Lookup) : State :=
  let e := s.dir x.line
  if e.st = .i then s.after s.now (.restart k x.req x.grant x.carry)
  else
    let id := s.lane.nextId
    ((s.openTxn (x.txn k .write)).sendSnoops id 0x16 (x.p + 16) (s.holders k e) e.bcast).txnAt (x.p + 16) k id

/-- A class-2 load of a line in E or M (R312): SNP_PUSH to the owner; lane operation `op` waits. A line that an engine write has
freed since the dequeue is read at home. -/
def State.cohLoad (s : State) (k : Scd) (x : Lookup) (op : Nat) : State :=
  match s.lane.ops.find? (fun (o : LaneOp) => o.id == op) with
  | none => s
  | some o =>
    let e := s.dir x.line
    let need : Bool := o.path == .coherent
    let id := s.lane.nextId
    let s := s.openTxn { x.txn k (.load op) with grantIx := none, need := need }
    let s := if e.st = .e ∨ e.st = .m then s.sendSnoops id 0x15 (x.p + 16) e.owner.toList false
      else if need then s.homeRead id (x.p + 8) else s
    s.txnAt (x.p + 16) k id

/-- A load whose line has become busy since its dequeue is held with its followers, in dequeue order (R308). -/
def State.holdLoad (s : State) (k : Scd) (x : Lookup) (op : Nat) : State :=
  match s.lane.ops.find? (fun (o : LaneOp) => o.id == op) with
  | none => s
  | some o =>
    let s := { s with lane := { s.lane with ops := s.lane.ops.filter fun (y : LaneOp) => y.id != op } }
    let s := (s.grantLeave o.grant).hold k o.req x.carry.place x.line
    forEach o.followers (fun f s => (s.grantLeave f.2.1).hold k f.1 x.carry.place x.line) s

/-- The entry lookup of a request ends (R303): the entry is updated, snoops and home reads are set going. A request whose line
has become busy is held (R308). -/
def State.lookupEnds (s : State) (k : Scd) (x : Lookup) : State :=
  let busy := s.busy x.line
  match x.kind with
  | .writeBack => s.cohWriteBack k x
  | .load op => if busy then s.holdLoad k x op else s.cohLoad k x op
  | .request => if busy then s.holdLookup k x else s.cohRequest k x
  | .write => if busy then s.holdLookup k x else s.cohWrite k x
  | .orphan =>
    if busy then s.holdLookup k x
    else if s.orphan x.line then s.orphanTxn k x
    else s.after s.now (.restart k x.req x.grant x.carry)

/-- A MOV write commits a line (R315, R316, R564): holders are sent SNP_DROP, the entry goes to I, and a transaction that
awaits a push will not write it; a line that is BUSY keeps its way until the transaction ends. -/
def State.engineLine (s : State) (line : Nat) (cause : Tenant × BitVec 16) : State :=
  let k := s.home (128 * line)
  let e := s.dir line
  let s := match s.txnOn line with
    | some x => s.setTxn { x with overtaken := true, before := { x.before with st := .i, owner := none, sharers := [], bcast := false } }
    | none => s
  if s.orphan line then
    (((s.sendDrops k line cause (s.agents k)).adopt line).bump .dirEnginv 1 k.toNat).bump .dirBcast 1 k.toNat
  else if e.st = .i then s
  else
    let left := if s.busy line then some { e with st := .i, owner := none, sharers := [], bcast := false } else none
    (((s.sendDrops k line cause (s.holders k e)).setEntry line left).bump .dirEnginv 1 k.toNat).releaseHeld k

/-! ### Stash (R317) -/

/-- The agent of the enabled stash window of an SCD that holds a line. -/
def State.stashWindow (s : State) (k : Scd) (a : Nat) : Option (BitVec 5) :=
  (List.range 16).findSome? fun j =>
    if s.rf .dirSwCfg 31 31 k.toNat j = 1 ∧
        pageWindow (s.rv .dirSwLo k.toNat j) (s.rf .dirSwHi 8 0 k.toNat j) (s.rf .dirSwLen 23 0 k.toNat j) a 1 = true then
      some (BitVec.ofNat 5 (s.rf .dirSwCfg 4 0 k.toNat j))
    else none

/-- A write has committed on a line to be stashed (R317): a home read starts, the entry is E of the target, BUSY. A target
that is not a valid agent, or a line for which no way can be taken, receives nothing. -/
def State.stashStart (s : State) (k : Scd) (line : Nat) (a : BitVec 5) (cause : Tenant × BitVec 16) : State :=
  if (s.agentPort k a).isNone || s.busy line || (s.dir line).st != .i then s
  else
    let e : DirEntry := { way := 0, st := .e, bcast := false, owner := some a, sharers := [] }
    match s.takeWay k line e cause s.now with
    | none => s
    | some s =>
      let id := s.lane.nextId
      (s.openTxn { Txn.begin k line .stash cause s.now with agent := some a, need := true }).homeRead id s.now

/-- A committed write reaches the windows of R317, or carries the hint of a store: its line is stashed. -/
def State.stashWrite (s : State) (k : Scd) (a : Nat) (hint : Option (BitVec 5)) (cause : Tenant × BitVec 16) : State :=
  match (match hint with
    | some g => some g
    | none => s.stashWindow k a) with
  | some g => if a < nearTop then s.stashStart k (a / 128) g cause else s
  | none => s

/-- The home read of a stash has ended: the line is offered to the target (R317); a read that failed, or that an engine write
overtook, offers nothing. -/
def State.stashOffer (s : State) (id : Nat) : State :=
  match s.txn id with
  | none => s
  | some t =>
    match (if t.overtaken then none else t.data), t.agent with
    | some d, some a =>
      let (opid, s) := s.nextOpid t.cause.1
      match s.cohFrame t.k a 0x18 0 t.line t.cause.1 t.cause.2 opid d with
      | some f =>
        (s.setTxn { t with need := false, req := none,
                           snoops := [{ agent := a, opid := opid, opc := 0x18, built := s.now, hand := s.now,
                                        until_ := none }] }).sendFrame t.k f
      | none => (s.setTxn { t with gone := [a], need := false, req := none }).txnAt s.now t.k id
    | _, a => (s.setTxn { t with gone := a.toList, need := false, req := none, met := [] }).txnAt s.now t.k id

/-- A step of a transaction: the home read of a stash leads to its offer, any other event to `txnStep`. -/
def State.homeEvent (s : State) (k : Scd) (id : Nat) : State :=
  match s.coh.txns.find? (fun t => t.id == id && t.k == k) with
  | none => s
  | some t =>
    match t.kind, t.need, t.readEnd with
    | .stash, true, some e =>
      let t := match t.readAt with
        | some b => if b ≤ s.now then
            let c := s.homeCopy t.line
            { t with readAt := none, data := if c.2.isEmpty then some c.1 else none }
          else t
        | none => t
      let s := s.setTxn t
      if e ≤ s.now then (s.setTxn { t with readEnd := none }).stashOffer id else s
    | _, _, _ => s.txnStep id

/-! ### Failure and removal of agents (R318, R319) -/

/-- Every entry of an SCD treats an agent as holding I; an answered WB is no longer awaited. -/
def State.forgetAgent (s : State) (k : Scd) (a : BitVec 5) : State :=
  let lines := s.coh.entries.filter fun e => s.home (128 * e.1) == k && !s.busy e.1
  let s := (forEach lines (fun e s => s.setEntry e.1 (e.2.drop a).settle) s).releaseHeld k
  forEach (s.coh.txns.filter fun t => t.k == k) (fun t s =>
    let stash := t.kind == .stash && t.agent == some a
    (s.setTxn { t with gone := t.gone ++ [a], wbpend := t.wbpend.filter (fun b => b != a),
                       snoops := if stash then [] else t.snoops }).txnAt s.now k t.id) s

/-- Set FAILED for an agent on every SCD. -/
def State.markFailed (s : State) (a : BitVec 5) : State :=
  forUpto 32 (fun k s =>
    let x : RegRef := ⟨.dirAgent, k, a.toNat, 0⟩
    let s := s.wf .dirAgent 30 30 1 k a.toNat
    match s.acts.find x.addr with
    | some w => { s with acts := s.acts.insert x.addr (w ||| 0x40000000) }
    | none => s) s

/-- A snoop whose reply has not been processed by now (R318); a stash is none. -/
def Snoop.open_ (y : Snoop) (now : Nat) : Bool :=
  y.opc != 0x18 && (match y.until_ with
    | some u => decide (now < u)
    | none => true)

/-- A snoop is unanswered at the domain timeout (R318): a push that was its reply is lost with the agent's data. -/
def State.domainTimeout (s : State) (k : Scd) (id : Nat) (a : BitVec 5) : State :=
  match s.coh.txns.find? (fun t => t.id == id && t.k == k) with
  | none => s
  | some t =>
    if !t.snoops.any (fun y => y.agent == a && y.open_ s.now) then s
    else
      let port := bits (s.rv .dirAgent k.toNat a.toNat) 9 0
      let fresh := s.rf .dirAgent 30 30 k.toNat a.toNat == 0
      let s := s.endWaiting t
      let s := s.setTxn { t with
        req := none, met := t.met ++ [.timeout], gone := t.gone ++ [a], need := false,
        kind := (match t.kind with | .load _ => .evict | x => x),
        snoops := t.snoops.filter (fun y => !(y.agent == a && y.opc != 0x18)),
        pushes := t.pushes.filter (fun p => !(p.agent == a && p.wb.isNone)) }
      let s := match t.kind with
        | .load _ => s.setEntry t.line (t.before.drop a).settle
        | _ => s
      let s := s.markFailed a
      let s := if fresh then s.event 0x000A 1 kindAgent a.toNat [port] else s
      (forUpto 32 (fun j s => s.forgetAgent (BitVec.ofNat 5 j) a) s).txnAt s.now k id

/-- Snoops whose domain timeout has come by the present stroke, in order (R318, R348). -/
def State.snoopsExpired (s : State) : List (Scd × Nat × BitVec 5) :=
  let dom := s.rf .lmtTmo 15 0
  s.coh.txns.flatMap fun t => t.snoops.filterMap fun y =>
    if y.open_ s.now ∧ y.hand / 1536 + dom ≤ s.time.stroke then some (t.k, t.id, y.agent) else none

def State.domainTimeouts (s : State) : State := forEach s.snoopsExpired (fun x s => s.domainTimeout x.1 x.2.1 x.2.2) s

/-! ### Registers (R320) -/

/-- A write of DIR_PROBE_HI looks up the entry of a line. -/
def State.probe (s : State) (k : Scd) (hi : Nat) : State :=
  let s := s.wf .dirProbeHi 8 0 hi k.toNat
  let line := (s.rf .dirProbeHi 8 0 k.toNat * 2 ^ 32 + s.rf .dirProbeLo 31 7 k.toNat * 128) / 128
  let w := if s.home (128 * line) = k then s.entryWord line else 0
  (s.wv .dirProbeElo (w % 2 ^ 32) k.toNat).wv .dirProbeEhi (w / 2 ^ 32) k.toNat

/-- A DIR_AGENT write takes effect (R293, R319): clearing VALID or FAILED makes every entry treat the agent as holding I. -/
def State.agentApply (s : State) (k : Scd) (i : BitVec 5) (v : Word) : State :=
  let x : RegRef := ⟨.dirAgent, k.toNat, i.toNat, 0⟩
  let old := s.av .dirAgent k.toNat i.toNat
  let new := v.toNat
  let s := s.actOn x.addr v
  if (bitAt old 31 && !bitAt new 31) || (bitAt old 30 && !bitAt new 30) then s.forgetAgent k i else s

/-! ### Rows -/

/-- DIR_PROBE (R320): a write of DIR_PROBE_HI, whose reserved bits R9 discards. -/
def execDirProbe (k : Scd) (w : Word) (s : State) : Host.Outcome State Fault Refusal :=
  .next (if w.toNat < 512 ∧ s.scdOut k = false then s.probe k w.toNat else s)

end Sys2Proof.Machine
end

