-- ==== Sys2Proof/Machine/Lane.lean ====
section
/-! DEFINITION. The request lanes: dequeue, admission, combining (R133 to R138), the paths of Table 2.7 and Table 14.4,
responses (R332), tray forwards and Cold requests up to their hand-off (R352, R264). -/

namespace Sys2Proof.Machine

/-! ### Line pieces -/

/-- Elements set in the mask of a sparse contribution line. -/
def sparseOnes (d : List Byte) : Nat := countIf (fun i => (leAt d 0 8).testBit i) (List.range 64)

/-- The payload of a sparse contribution line has the length that its mask and format give; a reserved format gives none (R211). -/
def sparseLen (fmt : Nat) (d : List Byte) : Bool :=
  decide (8 ≤ d.length ∧ d.length ≤ 128) && (fmtWidth fmt == 0 || d.length == 8 + ceilDiv (sparseOnes d * fmtWidth fmt) 8)

/-- Sub-operation codes of Table 11.5. -/
def AtomicOp.code : AtomicOp → Nat
  | .fadd => 1 | .fand => 2 | .for_ => 3 | .fxor => 4 | .fmins => 5 | .fmaxs => 6 | .fminu => 7 | .fmaxu => 8 | .swap => 9
  | .cas => 10 | .faddf => 11

/-- Width of an atomic operand, bytes (R336). -/
def opWidth (r : LineReq) : Nat := bits r.arg.toNat 7 0

/-- KIND of a contribution line (Table 11.6). -/
def RedKind.code : RedKind → Nat
  | .dense => 0 | .sparse => 1 | .done => 2

/-- A piece that the parser can split off a frame (R325, R331, R336, R337, R339 to R341). -/
def pieceOk (kind : ReqKind) (r : LineReq) : Bool :=
  let a := r.addr.toNat
  let n := r.len.toNat
  let line := decide (1 ≤ n) && decide (a % 128 + n ≤ 128)
  let plain := r.data.isEmpty && r.base.isNone
  let body := decide (r.data.length = n)
  decide (r.port.toNat < 642) &&
  (match kind with
   | .load | .get => line && decide (a % 4 = 0 ∧ n % 4 = 0) && plain
   | .store | .pstore | .put => line && decide (a % 4 = 0 ∧ n % 4 = 0) && body
   | .retr => line && decide (a % 4 = 0 ∧ n % 4 = 0) && body && decide (r.ext.length = 8)
   | .atomic op =>
     decide (opWidth r = 8 ∨ opWidth r = 4) && decide (r.arg.toNat = 65536 * op.code + opWidth r) && decide (n = opWidth r) &&
     decide (a % opWidth r = 0) && decide (r.ext.length = 16) && plain && (op != .faddf || decide (opWidth r = 4))
   | .publish => plain && decide (r.ext.length = 16) && decide (beAt r.ext 6 2 = 0)
   | .red k =>
     decide (a < 8192) && decide (r.arg = 0) && decide (r.ext.length = 16) && decide (beAt r.ext 4 1 = k.code) && r.base.isNone &&
     (match k with
      | .dense => decide (r.data.length = 128)
      | .sparse => sparseLen (beAt r.ext 5 1) r.data
      | .done => r.data.isEmpty)
   | .wb | .wbKeep | .pushData => decide (a % 128 = 0) && decide (r.data.length = 128) && r.base.isNone
   | .rdS | .rdX | .upg | .ack | .ackWbpend | .stashAck | .stashNak => decide (a % 128 = 0) && plain)

/-- The home SCD of a piece (R235, R337), with the substitute of R571. -/
def State.pieceHome (s : State) (x : Req) : Scd :=
  match x.kind with
  | .red _ =>
    let j := BitVec.ofNat 5 (bits x.r.addr.toNat 12 8)
    if s.pwr.substituted.contains j then j ^^^ 1 else j
  | _ => s.home x.r.addr.toNat

/-- The near-tier address that serves a place, the control region's own included. -/
def Place.laneAddr (pl : Place) (a : Nat) : Option Nat :=
  match pl with
  | .near b => some b
  | .shadow b _ => some b
  | .control => some a
  | _ => none

/-- The bytes a piece writes: its payload, or its delta applied to its base (R435). -/
def State.pieceData (s : State) (r : LineReq) : List Byte :=
  match r.base with
  | none => r.data
  | some (id, b) => xorBytes (sub (s.baseBlock id.toNat b.toNat) (r.addr.toNat % 256) r.len.toNat) r.data

/-- Cy by which the stages of a piece of an XMAP or SAME record are late (R435). -/
def lineShift (r : LineReq) : Nat := if r.base.isSome then 690 else 0

/-- Whether a range served by the lane holds an uncorrectable word that neither a cached line nor a buffered write covers. -/
def State.laneBad (s : State) (a n : Nat) : Bool :=
  (s.mem.scache.find (a / 128)).isNone &&
  s.mem.uncorr.any fun e => decide (4 * e.1 < a + n ∧ a < 4 * e.1 + 4) &&
    !(List.range 4).all (fun i => (pendingByte (4 * e.1 + i) s.mem.wbuf).isSome)

/-! ### Lane operations -/

/-- A lane operation of a request dequeued now. -/
def State.laneOp (s : State) (k : Scd) (x : Req) (path : Path) (due : Nat) (g : Option Nat) (eff : Nat) (c : Carry) : LaneOp :=
  { id := s.lane.nextId, k := k, req := x, p := s.now, due := due, path := path, grant := g, status := .ok, data := [],
    carry := c, fill := none, eff := eff, ext := none, refresh := false, followers := [], waits := false, readAt := 0 }

/-- Start a lane operation: its response is built on its due cy unless it waits for something. -/
def State.putOp (s : State) (o : LaneOp) : State :=
  ({ s with lane := { s.lane with ops := s.lane.ops ++ [o], nextId := s.lane.nextId + 1 } }).after o.due (.respond o.k o.id)

def State.setOp (s : State) (o : LaneOp) : State :=
  { s with lane := { s.lane with ops := s.lane.ops.map fun (x : LaneOp) => if x.id = o.id then o else x } }

def State.findOp (s : State) (id : Nat) : Option LaneOp := s.lane.ops.find? fun (o : LaneOp) => o.id == id

/-- Bytes from address `a` on with some writes applied. -/
def patchBytes (a : Nat) (bs : List Byte) (ws : List (Nat × Byte)) : List Byte :=
  ((List.range bs.length).zip bs).map fun p =>
    match ws.reverse.find? (fun e => e.1 == a + p.1) with
    | some e => e.2
    | none => p.2

/-- A lane write is taken: readers of its SCD see it at once (R276), the stack cache follows (R246), and lines about to be
filled hold it. -/
def State.laneWrite (s : State) (w : WBuf) : State :=
  let fillOf (o : LaneOp) : LaneOp :=
    match o.fill with
    | some (l, bs) => { o with fill := some (l, patchBytes (128 * l) bs w.writes) }
    | none => o
  let s := { s with mem := { s.mem with wbuf := s.mem.wbuf ++ [w] }, lane := { s.lane with ops := s.lane.ops.map fillOf } }
  (s.cacheUpdate w.writes).after w.due (.bank w.id)

/-- Start a lane operation that reads `n` bytes at its address on its readAt cy: single-bit errors there are corrected (R561). -/
def State.readOp (s : State) (o : LaneOp) (n : Nat) : State :=
  let s := s.putOp o
  if o.readAt = 0 ∨ o.status ≠ .ok then s
  else match o.fill with
    | some (l, _) => s.meets o.readAt (128 * l) 128
    | none => s.meets o.readAt o.eff n

/-! ### Atomics (R336, Table 11.5) -/

/-- The memory value after a sub-operation of width w bytes. -/
def atomicApply (op : AtomicOp) (w v a b : Nat) : Nat :=
  let n := 8 * w
  let sv := toSigned n v
  let sa := toSigned n a
  match op with
  | .fadd => (v + a) % 2 ^ n
  | .fand => v &&& a
  | .for_ => v ||| a
  | .fxor => v ^^^ a
  | .fmins => if sa < sv then a else v
  | .fmaxs => if sv < sa then a else v
  | .fminu => min v a
  | .fmaxu => max v a
  | .swap => a
  | .cas => if v = a then b else v
  | .faddf => rduResult fmtFp32 false .nearest ((decodeFloat fmtFp32 v).add (decodeFloat fmtFp32 a))

def opA (r : LineReq) : Nat := beAt r.ext 0 8 % 2 ^ (8 * opWidth r)
def opB (r : LineReq) : Nat := beAt r.ext 8 8 % 2 ^ (8 * opWidth r)

/-- Sub-operations that Table 4.8 combines. -/
def AtomicOp.combines : AtomicOp → Bool
  | .cas | .faddf => false
  | _ => true

/-- Requests of a lane operation in dequeue order, leader first. -/
def LaneOp.reqs (o : LaneOp) : List LineReq := o.req.r :: o.followers.map fun f => f.1.r

/-- The memory value after a combined atomic, and what the i-th of its requests is returned, from the prior value (R136). -/
def atomicAfter (op : AtomicOp) (v : Nat) (rs : List LineReq) : Nat :=
  rs.foldl (fun v r => atomicApply op (opWidth r) v (opA r) (opB r)) v

/-- The operand that combined requests send (Table 4.8). -/
def combinedOperand (op : AtomicOp) : List LineReq → Nat
  | [] => 0
  | r :: rs => rs.foldl (fun a q => atomicApply op (opWidth q) a (opA q) 0) (opA r)

/-- The version record after a PUBLISH: the bytes it writes, if any, the version in force and its outcome (R488). -/
def publishApply (old ext : List Byte) : List Byte × Nat × Status :=
  let v := leAt old 0 6
  let n := beAt ext 0 6
  if v < n then (leBytes 6 n ++ [0, 0] ++ leBytes 8 (beAt ext 8 8), n, .ok) else ([], v, .versionConflict)

/-! ### Handoff words (R495, R496) -/

/-- The value of a handoff word for a request dequeued in stroke n, and whether it is a reverted one. -/
def handoffValue (n w : Nat) : Nat × Bool :=
  if bits w 63 62 = 2 ∧ (n % 2 ^ 24 + 2 ^ 24 - bits w 23 0) % 2 ^ 24 < 2 ^ 23 then
    (fld 1 62 + fld ((bits w 61 56 + 1) % 64) 56 + fld (bits w 55 40) 40, true)
  else (w, false)

/-- Bytes that a load of a near range returns: from the stack cache, or as memory will hold them in dequeue order. -/
def State.nearValue (s : State) (hit : Bool) (a n : Nat) : List Byte :=
  let bs := if hit then s.laneRead a n else s.memRead a n
  if s.inHandoff a n then leBytes n (handoffValue s.time.stroke (leNat bs)).1 else bs

/-- The memory writes of an atomic lane operation from its prior value, on a near or scratchpad address. -/
def LaneOp.atomicWrites (o : LaneOp) : List (Nat × Byte) :=
  match o.req.kind with
  | .atomic op => writesAt o.eff (leBytes (opWidth o.req.r) (atomicAfter op (leNat o.data) o.reqs))
  | _ => []

/-- An atomic's write is computed again: it gained a follower. -/
def State.atomicSync (s : State) (o : LaneOp) : State :=
  let ws := o.atomicWrites
  if ws.isEmpty || o.status != .ok then s
  else ({ s with mem := { s.mem with wbuf := s.mem.wbuf.map fun (w : WBuf) => if w.id = o.id then { w with writes := ws } else w } }).cacheUpdate ws

/-- A lane operation that has not begun its read before now (R277). -/
def State.fresh (s : State) (o : LaneOp) : Bool := decide (0 < o.readAt ∧ s.now ≤ o.readAt) && o.status == .ok

/-- What a buffered write makes of bytes of memory that have changed below it: it hides those it writes, and an atomic that has
not begun its read writes what follows from them, but no byte that a later write has covered (R587). -/
def State.rewrite (s : State) (w : WBuf) (ch : List (Nat × Byte)) : WBuf × List (Nat × Byte) :=
  let ws := match s.lane.ops.find? (fun (o : LaneOp) => o.id == w.id && s.fresh o) with
    | some o =>
      let new := ({ o with data := patchBytes o.eff o.data ch } : LaneOp).atomicWrites
      w.writes.map fun e => (e.1, ((new.find? (fun f => f.1 == e.1)).map fun f => f.2).getD e.2)
    | none => w.writes
  ({ w with writes := ws }, ch.filter (fun e => !ws.any (fun f => f.1 == e.1)) ++ ws.filter (fun e => !w.writes.contains e))

/-- The buffered writes in dequeue order after a change of memory below them, each with the bytes that have then changed for
what is dequeued after it. -/
def State.rewrites (s : State) (ch : List (Nat × Byte)) : List WBuf → List (WBuf × List (Nat × Byte))
  | [] => []
  | w :: ws => s.rewrite w ch :: s.rewrites (s.rewrite w ch).2 ws

/-- Writes from outside the lanes reach memory now: lane operations that have not begun their read see them, unless an
earlier-dequeued write of the lane covers the byte (R276, R277). The stack cache follows atomics only (R246). -/
def State.patchReads (s : State) (ws : List (Nat × Byte)) : State :=
  let rs := s.rewrites ws s.mem.wbuf
  let last := (rs.getLast?.map fun r => r.2).getD ws
  let seen (o : LaneOp) : List (Nat × Byte) :=
    ((rs.filter fun r => decide (r.1.id < o.id)).getLast?.map fun r => r.2).getD ws
  let upd (o : LaneOp) : LaneOp :=
    if s.fresh o then
      { o with data := patchBytes o.eff o.data (seen o), fill := o.fill.map fun f => (f.1, patchBytes (128 * f.1) f.2 last) }
    else o
  ({ s with
    lane := { s.lane with ops := s.lane.ops.map upd },
    mem := { s.mem with wbuf := rs.map fun r => r.1 } } : State).cacheUpdate
      (last.filter fun e => rs.any fun r => r.1.writes.any fun f => f.1 == e.1)

/-! ### Combining (R133 to R138) -/

def Req.load (x : Req) : Bool := x.kind.read && x.r.cls == 2

/-- Entries of the combining table in use: those of refused requests are released on cy 8 (R134, R220). -/
def State.combUsed (s : State) (k : Scd) : Nat :=
  countIf (fun (o : LaneOp) => o.k == k && o.carry.entry && (o.path != .refusal || decide (s.now < o.p + 8))) s.lane.ops +
  countIf (fun (t : Txn) => t.k == k && t.carry.entry && (match t.kind with | .load _ => false | _ => true)) s.coh.txns +
  countIf (fun (e : Nat × Timed) => match e.2 with
    | .lookup j x => j == k && x.carry.entry && (match x.kind with | .load _ => false | _ => true)
    | .restart j _ _ c => j == k && c.entry
    | _ => false) s.timed

/-- A request that combines: a class-2 load or a combinable atomic, enabled, whose line no agent holds in M or O, served by
the near tier or a tray (R133 to R135, Table 4.9). -/
def State.combinable (s : State) (k : Scd) (x : Req) (pl : Place) : Bool :=
  let held := match pl.laneAddr x.r.addr.toNat with
    | some a => (s.dir (a / 128)).st == .m || (s.dir (a / 128)).st == .o
    | none => match pl with
      | .far _ => false
      | _ => true
  !held &&
  (match x.kind with
   | .load | .get => x.r.cls == 2 && s.af .scdCombctl 0 0 k.toNat == 1
   | .atomic op => op.combines && s.af .scdCombctl 1 1 k.toNat == 1
   | _ => false)

/-- The window of Table 4.9 for a follower dequeued on cy `d`; it is matched on its cy 8, before the entries are released at cy
1408 (R134, R219). -/
def LaneOp.combWindow (o : LaneOp) (d : Nat) : Bool :=
  decide (d % 1536 + 8 < 1408) &&
  (match o.req.kind with
   | .atomic _ => decide (d ≤ o.carry.t0 + (if o.path = .tray then 8 else 160))
   | _ => o.path == .tray || decide (d + 16 ≤ o.due))

/-- The leader that a request dequeued on cy `d` follows (R133). -/
def State.leader (s : State) (k : Scd) (x : Req) (d : Nat) : Option LaneOp :=
  s.lane.ops.find? fun (o : LaneOp) =>
    o.k == k && o.carry.entry && o.path != .refusal && o.path != .follower && o.req.r.tenant == x.r.tenant &&
    o.req.r.addr == x.r.addr && o.req.r.len == x.r.len && (o.req.kind == x.kind || (o.req.kind.read && x.kind.read)) &&
    o.combWindow d

def Carry.released (c : Carry) : Carry := { c with entry := false }

/-- Leaders that a request of a line releases when it does not follow them (R135). -/
def State.releaseEntries (s : State) (k : Scd) (x : Req) (line : Nat) : State :=
  let changes := x.kind.writes || x.kind.coherent
  let drop (o : LaneOp) : Bool :=
    o.k == k && o.carry.entry && o.path != .refusal && o.eff / 128 == line &&
    (match o.req.kind with
     | .atomic _ => true
     | _ => changes)
  if x.kind.isRed then s
  else { s with lane := { s.lane with ops := s.lane.ops.map fun (o : LaneOp) => if drop o then { o with carry := o.carry.released } else o } }

/-- Every entry is released at cy 1408 (R134). -/
def State.clearEntries (s : State) : State :=
  { s with
    lane := { s.lane with ops := s.lane.ops.map fun (o : LaneOp) => { o with carry := o.carry.released } },
    coh := { s.coh with txns := s.coh.txns.map fun (t : Txn) => { t with carry := t.carry.released } },
    timed := s.timed.map fun (e : Nat × Timed) => (e.1, match e.2 with
      | .lookup k x => Timed.lookup k { x with carry := x.carry.released }
      | .restart k x g c => Timed.restart k x g c.released
      | y => y) }

/-- Take a combining-table entry for a request that may lead (R134); outside the work window nothing combines (R45). -/
def State.takeEntry (s : State) (k : Scd) (may : Bool) : Bool × State :=
  if !may || decide (1408 ≤ s.time.cy) then (false, s)
  else if 64 ≤ s.combUsed k then (false, s.bump .scdCombfull 1 k.toNat)
  else (true, s)

/-- A request dequeued on cy `d` joins a leader (R136). -/
def State.follow (s : State) (o : LaneOp) (x : Req) (g : Option Nat) (d : Nat) : State :=
  let o := { o with followers := o.followers ++ [(x, g, d)] }
  (s.setOp o).atomicSync o

/-! ### Paths -/

/-- Loads that miss the stack cache fill it on their response cy, unless a handoff window or a substitute home forbids it
(R245, R494, R571). -/
def State.fillOf (s : State) (x : Req) (a : Nat) : Option (Nat × List Byte) :=
  let l := a / 128
  if x.load && !s.inHandoff (128 * l) 128 && !s.pwr.substituted.contains (rawHome a) && !s.laneBad (128 * l) 128 then
    some (l, s.laneRead (128 * l) 128)
  else none

/-- A load of a near-tier address by its normal path: hit, or near-tier access (Table 2.7). -/
def State.nearLoad (s : State) (k : Scd) (x : Req) (g : Option Nat) (a : Nat) (c : Carry) : LaneOp :=
  let p := s.now
  let n := x.r.len.toNat
  let hit := (s.mem.scache.find (a / 128)).isSome && !s.inHandoff a n
  let late := inRefresh a p 40
  let lost := s.stackOut (stackOf a)
  let bad := s.laneBad a n
  let o := s.laneOp k x (if hit then .hit else .near) (p + if hit then 38 else if late then 692 else 212) g a c
  { o with
    status := if lost then .unitLost else if bad then .mediaError else .ok,
    data := if lost || bad then [] else s.nearValue hit a n,
    fill := if hit || lost || bad then none else s.fillOf x a,
    refresh := late && !hit,
    readAt := if hit then 0 else p + if late then 520 else 40 }

/-- A load of a line in O: the home read of Table 10.5 (R312). -/
def State.homeLoad (s : State) (k : Scd) (x : Req) (g : Option Nat) (a : Nat) (c : Carry) : LaneOp :=
  let p := s.now
  let n := x.r.len.toNat
  let hit := (s.mem.scache.find (a / 128)).isSome
  let late := inRefresh a p 46
  let lost := s.stackOut (stackOf a)
  let bad := s.laneBad a n
  { s.laneOp k x .coherent (p + if hit then 44 else if late then 698 else 218) g a c with
    status := if lost then .unitLost else if bad then .mediaError else .ok,
    data := if lost || bad then [] else s.nearValue hit a n,
    refresh := late && !hit,
    readAt := if hit then 0 else p + if late then 526 else 46 }

/-- A piece whose unit is lost, or whose extent is LOST: it ends with UNIT_LOST on its path's cy (R66, R570, R572, R253). -/
def State.lostOp (s : State) (k : Scd) (x : Req) (path : Path) (count : Nat) (g : Option Nat) (c : Carry) : State :=
  s.putOp { s.laneOp k x path (s.now + count + lineShift x.r) g x.r.addr.toNat c with status := .unitLost }

/-- The last piece of its frame to be dequeued (Table 9.2, PACKETS): none of the frame waits in a queue, on the crossbar or in
the hold buffer, and it is the frame's last piece or was held itself. -/
def State.frameEnds (s : State) (k : Scd) (r : LineReq) (re : Bool) : Bool :=
  let same (q : LineReq) : Bool := q.opid == r.opid && q.fidx == r.fidx && q.tenant == r.tenant && q.port == r.port
  !(s.reqQueue k r.cls.toNat).any (fun q => same q.req.r) && !s.lane.held.any (fun h => h.k == k && same h.req.r) &&
  !s.timed.any (fun e => match e.2 with
    | .enqueue j q _ => j == k && same q.r
    | _ => false) && (r.last || re)

/-- The counter advance of a posted piece whose counter-advance cy is t (Table 9.2). -/
def State.counterOf (s : State) (k : Scd) (x : Req) (t : Nat) (ends : Bool) : Option (Nat × Scd × BitVec 9 × Nat) :=
  if x.kind = .store ∨ bitAt x.r.ctr.toNat 15 = false then none
  else
    let j := BitVec.ofNat 5 (bits x.r.ctr.toNat 13 9)
    let c := bits x.r.ctr.toNat 8 0
    let at_ := t + if j = k then 0 else 24
    if s.rf .scdActrcfg 10 10 j.toNat c = 1 then
      if ends then some (at_, j, BitVec.ofNat 9 c, 1) else none
    else some (at_, j, BitVec.ofNat 9 c, x.r.len.toNat)

/-- The agent named by HINT.STASH of a source without a cache: no agent of the domain (R317, R335). -/
def State.stashTo (s : State) (k : Scd) (r : LineReq) : Option (BitVec 5) :=
  if bitAt r.hint.toNat 15 && (s.agentOn k r.port.toNat).isNone then some (BitVec.ofNat 5 (bits r.hint.toNat 4 0)) else none

/-- A store or posted write to a near-tier address (Tables 2.7 and 9.1, R335, R435). -/
def State.nearStore (s : State) (k : Scd) (x : Req) (g : Option Nat) (a : Nat) (c : Carry) : State :=
  let p := s.now
  let d := lineShift x.r
  let late := inRefresh a (p + d) 40
  let lost := s.stackOut (stackOf a)
  let end_ := p + d + if late then 692 else 212
  let o := s.laneOp k x (if x.kind = .store then .near else .posted) (if x.kind = .store then end_ else p + 44 + d) g a c
  let id := o.id
  if lost then s.putOp { o with status := .unitLost }
  else
    let w : WBuf := { id := id, k := k, p := p, due := p + d + (if late then 654 else 174), tenant := x.r.tenant,
                      epoch := x.r.tepoch, stage := p + d + (if late then 520 else 40), stash := s.stashTo k x.r,
                      counter := s.counterOf k x end_ c.ends, writes := writesAt a (s.pieceData x.r) }
    (s.putOp { o with refresh := late }).laneWrite w

/-- A store or posted write to a scratchpad window (R244, Table 9.1); every piece to the window of a lost SCD completes at the
stack-cache hit count (R570). -/
def State.scratchStore (s : State) (k : Scd) (x : Req) (g : Option Nat) (j : Nat) (c : Carry) : State :=
  let p := s.now + lineShift x.r
  let count := if x.kind = .store then 38 else 44
  if s.scdOut (BitVec.ofNat 5 j) then s.lostOp k x .scratch 38 g c
  else
    let o := s.laneOp k x .scratch (p + count) g x.r.addr.toNat c
    let w : WBuf := { id := o.id, k := k, p := s.now, due := p + 31, tenant := x.r.tenant, epoch := x.r.tepoch, stage := 0,
                      stash := none, counter := s.counterOf k x (p + 36) c.ends,
                      writes := writesAt x.r.addr.toNat (s.pieceData x.r) }
    (s.putOp o).laneWrite w

/-- A request forwarded to a tray or handed to CTL-B 24 cy after its dequeue on `c.t0` (Table 2.7, R264). -/
def State.forwardPath (s : State) (k : Scd) (x : Req) (g : Option Nat) (path : Path) (i : Nat) (c : Carry) : State :=
  let at_ := c.t0 + 24 + lineShift x.r
  let o := { s.laneOp k x path at_ g x.r.addr.toNat c with waits := true, ext := some (i, s.extent i) }
  ({ s with lane := { s.lane with ops := s.lane.ops ++ [o], nextId := s.lane.nextId + 1 } }).after at_ (.forward k o.id)

/-- Whether a fixed-rate block, its overflow slot or its base lies on a lost stack. -/
def State.slotLost (s : State) (e : Extent) (i : Nat) : Bool :=
  s.stackOut (stackOf (slotAddr e i)) ||
  (match s.base e.baseid with
   | some b => e.baseid != 0 && decide (i < b.blocks) && s.stackOut (stackOf (b.addr + 256 * i))
   | none => false) ||
  (let sl := s.laneRead (slotAddr e i) 2
   (sl.getD 0 0) == 2 && s.onLostStack (ovfSlot e i (sl.getD 1 0).toNat) 256)

/-- A load of a fixed-rate extent (Table 14.4, R428). -/
def State.slotLoad (s : State) (k : Scd) (x : Req) (g : Option Nat) (xi : Nat) (c : Carry) : State :=
  let e := s.extent xi
  let off := x.r.addr.toNat - e.vbase
  let (blk, spill) := s.readBlock e (off / 256)
  let o := { s.laneOp k x .slot (s.now + if spill then 1388 else 706) g x.r.addr.toNat c with ext := some (xi, e) }
  if s.slotLost e (off / 256) then s.putOp { o with status := .unitLost }
  else
    match blk with
    | none => s.putOp { o with status := .mediaError }
    | some b => (s.putOp { o with data := sub b (off % 256) x.r.len.toNat }).correct (slotAddr e (off / 256)) 128

/-- A write of a fixed-rate extent (Table 14.4, R261 to R263, R425, R430, R431): bank writes and counter advances keep their
distance from the acknowledgement that Tables 2.8 and 9.1 give a posted write (assumption 19). The atomic that takes an overflow
slot is performed when it returns, and the one that frees one 706 cy after the acknowledgement (assumption 92). -/
def State.slotStore (s : State) (k : Scd) (x : Req) (g : Option Nat) (xi : Nat) (c : Carry) : State :=
  let e := s.extent xi
  let off := x.r.addr.toNat - e.vbase
  let i := off / 256
  let (blk, spill) := s.readBlock e i
  let p := s.now + lineShift x.r
  let op (count : Nat) (st : Status) : LaneOp := { s.laneOp k x .slot (p + count) g x.r.addr.toNat c with
    status := st, ext := some (xi, e) }
  if s.slotLost e i then s.putOp (op (if spill then 1424 else 742) .unitLost)
  else
    match blk with
    | none => s.putOp (op (if spill then 1424 else 742) .mediaError)
    | some b =>
      match s.encodeBlock e i (patch b (off % 256) (s.pieceData x.r)) (p + 1412) with
      | none =>
        (s.putOp (op 1448 .formatUnsupported)).event 0x0023 2 kindExtent xi [xi, i / 16]
      | some (ws, form, masks) =>
        let count := if spill then 1424 else if form = 2 then 1448 else 742
        let o := op count .ok
        let s := forEach masks (fun (m : Nat × Bool) (s : State) =>
          s.after (p + if m.2 then 1412 else count + 706) (.maskBit (ovfRecord e i) m.1 m.2)) s
        let s := s.bump (if form = 2 then .scdDcspill else if form = 3 then .scdDcquant else .scdDcxmap) 1 k.toNat
        let w : WBuf := { id := o.id, k := k, p := s.now, due := p + count + 130, tenant := x.r.tenant, epoch := x.r.tepoch,
                          stage := p + count - 4, stash := none, counter := s.counterOf k x (p + count + 168) c.ends, writes := ws }
        (s.putOp o).laneWrite w

/-- An atomic or PUBLISH at the near tier (Table 2.7, R336, R488, R489, R496). -/
def State.nearAtomic (s : State) (k : Scd) (x : Req) (g : Option Nat) (a : Nat) (c : Carry) : State :=
  let p := s.now
  let late := inRefresh a p 40
  let n := if x.kind = .publish then 16 else opWidth x.r
  let o := { s.laneOp k x .atomic (p + if late then 716 else 236) g a c with
             refresh := late, readAt := p + if late then 520 else 40 }
  if s.stackOut (stackOf a) then s.putOp { o with status := .unitLost }
  else if s.laneBad a n then s.putOp { o with status := .mediaError }
  else
    let old := s.memRead a n
    let hw := handoffValue s.time.stroke (leNat old)
    let rev := s.inHandoff a n && hw.2
    let w : WBuf := { id := o.id, k := k, p := p, due := p + (if late then 690 else 210), tenant := x.r.tenant,
                      epoch := x.r.tepoch, stage := p + (if late then 520 else 40), stash := none, counter := none,
                      writes := [] }
    match x.kind with
    | .publish =>
      let (new, v, st) := publishApply old x.r.ext
      let s := if st = .ok then s else s.bump .fabVconfcnt
      let s := s.readOp { o with status := st, data := beBytes 6 v ++ [0, 0] } 16
      if new.isEmpty then s else s.laneWrite { w with writes := writesAt a new }
    | _ =>
      let o := { o with data := if rev then leBytes n hw.1 else old }
      let s := if rev && decide (leNat o.data ≠ (opA x.r)) then s.bump .fabHorevcnt else s
      (s.readOp o n).laneWrite { w with writes := o.atomicWrites }

/-- An atomic at a scratchpad window (R244). -/
def State.scratchAtomic (s : State) (k : Scd) (x : Req) (g : Option Nat) (j : Nat) (c : Carry) : State :=
  let p := s.now
  let a := x.r.addr.toNat
  if s.scdOut (BitVec.ofNat 5 j) then s.lostOp k x .scratch 38 g c
  else if s.laneBad a (opWidth x.r) then s.putOp { s.laneOp k x .scratch (p + 38) g a c with status := .mediaError }
  else
    let o := { s.laneOp k x .scratch (p + 38) g a c with data := s.laneRead a (opWidth x.r), readAt := p + 8 }
    (s.readOp o (opWidth x.r)).laneWrite
      { id := o.id, k := k, p := p, due := p + 31, tenant := x.r.tenant, epoch := x.r.tepoch, stage := 0, stash := none,
        counter := none, writes := o.atomicWrites }

/-- A contribution line (R121, Table 9.1): accumulators written on p + 31, acknowledged on p + 44. -/
def State.redPath (s : State) (k : Scd) (kind : RedKind) (x : Req) (g : Option Nat) (c : Carry) : State :=
  let p := s.now
  let o := s.laneOp k x .posted (p + 44) g x.r.addr.toNat c
  if bits x.r.addr.toNat 12 8 ≠ k.toNat then s.putOp { o with status := .unitLost }
  else
    let (st, ws, s) := s.redApply k kind x.r o.id
    let s := s.putOp { o with status := st }
    if ws.isEmpty then s
    else s.laneWrite { id := o.id, k := k, p := p, due := p + 31, tenant := x.r.tenant, epoch := x.r.tepoch, stage := 0,
                       stash := none, counter := none, writes := ws }

/-- A load of a near-tier line, as its directory entry decides (R312). -/
def State.loadPath (s : State) (k : Scd) (x : Req) (g : Option Nat) (a : Nat) (c : Carry) : State :=
  let ask (o : LaneOp) : State :=
    (s.readOp o x.r.len.toNat).lookup k { kind := .load o.id, line := a / 128, req := x, grant := g, p := s.now, carry := c }
  match (s.dir (a / 128)).st with
  | .i | .s => s.readOp (s.nearLoad k x g a c) x.r.len.toNat
  | .o => s.readOp (s.homeLoad k x g a c) x.r.len.toNat
  | .e => ask { s.nearLoad k x g a c with waits := true }
  | .m => ask { s.laneOp k x .coherent (s.now + 16) g a c with waits := true }

/-- The path of an admitted request from now on. -/
def State.laneServe (s : State) (k : Scd) (x : Req) (pl : Place) (g : Option Nat) (c : Carry) : State :=
  let a := x.r.addr.toNat
  let line := ((pl.laneAddr a).getD a) / 128
  let near := (pl.laneAddr a).isSome
  let wb := x.kind = .wb ∨ x.kind = .wbKeep
  let look (kind : LookupKind) : State := s.lookup k { kind := kind, line := line, req := x, grant := g, p := s.now, carry := c }
  if near = true ∧ ¬ wb ∧ s.orphan line = true ∧ (s.agents k).isEmpty = false then look .orphan
  else
    match x.kind with
    | .rdS | .rdX | .upg => look .request
    | .wb | .wbKeep => look .writeBack
    | .red kind => s.redPath k kind x g c
    | .load | .get =>
      match pl with
      | .near b => s.loadPath k x g b c
      | .shadow b _ => s.loadPath k x g b c
      | .control => s.loadPath k x g a c
      | .scratch j =>
        if s.scdOut (BitVec.ofNat 5 j) then s.lostOp k x .scratch 38 g c
        else
          let bad := s.laneBad a x.r.len.toNat
          s.readOp { s.laneOp k x .scratch (s.now + 38) g a c with
            status := if bad then .mediaError else .ok, data := if bad then [] else s.laneRead a x.r.len.toNat,
            readAt := s.now + 8 } x.r.len.toNat
      | .far i => s.forwardPath k x g .tray i c
      | .cold i => s.forwardPath k x g .cold i c
      | .slot i => s.slotLoad k x g i c
      | .lost => s.lostOp k x .near 212 g c
      | .nowhere => s.lostOp k x .near 212 g c
    | .store | .pstore | .put | .retr =>
      match pl with
      | .near _ | .shadow _ _ | .control =>
        let b := (pl.laneAddr a).getD a
        if (s.dir line).st ≠ .i then look .write else s.nearStore k x g b c
      | .scratch j => s.scratchStore k x g j c
      | .far i => s.forwardPath k x g .tray i c
      | .cold i => s.forwardPath k x g .cold i c
      | .slot i => s.slotStore k x g i c
      | .lost | .nowhere => s.lostOp k x .near (if x.kind = .store then 212 else 44) g c
    | .atomic _ | .publish =>
      match pl with
      | .near _ | .shadow _ _ | .control =>
        let b := (pl.laneAddr a).getD a
        if (s.dir line).st ≠ .i then look .write else s.nearAtomic k x g b c
      | .scratch j => s.scratchAtomic k x g j c
      | .far i => s.forwardPath k x g .tray i c
      | .cold i => s.forwardPath k x g .cold i c
      | .slot _ | .lost | .nowhere => s.lostOp k x .atomic 236 g c
    | _ => s

/-- A request that waited for agents starts its own path now (R313, R564). -/
def State.laneRestart (s : State) (k : Scd) (x : Req) (g : Option Nat) (c : Carry) : State :=
  s.laneServe k x (s.reqPlace k x) g c

/-! ### Dequeue -/

/-- Remember where a port's agent sends from (assumption 18). -/
def State.noteReturn (s : State) (x : Req) : State :=
  if x.kind.coherent || x.kind.reply then { s with coh := { s.coh with from_ := s.coh.from_.insert x.r.port.toNat x.r.ret } }
  else s

/-- A class-0 request whose line the substitute is handing back (R540). -/
def State.recalled (s : State) (x : Req) (line : Nat) : Bool :=
  x.kind.coherent && s.pwr.handback == some (rawHome (128 * line))

/-- A request waits for its line (R308): busy, about to be, with an earlier request already held for it, or handed back
(R540). -/
def State.mustHold (s : State) (k : Scd) (x : Req) (line : Nat) (re : Bool) : Bool :=
  x.kind != .wb && x.kind != .wbKeep && !x.kind.isRed &&
  (s.busy line || s.lookingUp line || s.recalled x line || (!re && s.lane.held.any fun h => h.k == k && h.line == line))

/-- The request lane issues a speculative access (R216). -/
def State.speculates (s : State) (x : Req) (pl : Place) : Bool :=
  let kind := match x.kind with
    | .load | .get => x.r.cls == 2
    | .store | .atomic _ | .publish => true
    | _ => false
  match pl.laneAddr x.r.addr.toNat with
  | some a => kind && (s.dir (a / 128)).st != .m && (s.dir (a / 128)).st != .o
  | none => false

/-- The next place in dequeue order. -/
def State.nextPlace (s : State) : Nat × State :=
  (s.lane.nextId, { s with lane := { s.lane with nextId := s.lane.nextId + 1 } })

/-- A request is dequeued now (R276, R88): held, refused, combined or served. A request that was held keeps its place. -/
def State.dequeue (s : State) (k : Scd) (x : Req) (was : Option Nat) : State :=
  if s.scdOut k then s
  else
    let s := s.noteReturn x
    if x.kind.reply then s.cohReply k x s.now
    else
      let pl := s.reqPlace k x
      let a := (pl.laneAddr x.r.addr.toNat).getD x.r.addr.toNat
      let (place, s) := match was with
        | some n => (n, s)
        | none => s.nextPlace
      if (pl.laneAddr x.r.addr.toNat).isSome && s.mustHold k x (a / 128) was.isSome then s.hold k x place (a / 128)
      else
        let c : Carry := { entry := false, t0 := s.now, place := place, ends := s.frameEnds k x.r was.isSome }
        let (pl, g, st) := s.admission k x
        let spec := s.speculates x pl
        let s := if spec then s.bump .scdRalspec 1 k.toNat else s
        let may := s.combinable k x pl
        if st ≠ .ok then
          let s := if spec then s.bump .scdRalsq 1 k.toNat else s
          let s := (s.countRefusal x st).releaseEntries k x (a / 128)
          let (e, s) := s.takeEntry k may
          s.putOp { s.laneOp k x .refusal (s.now + 16) none a { c with entry := e } with status := st }
        else
          match (if may then s.leader k x s.now else none) with
          | some o => ((if spec then s.bump .scdRalcmb 1 k.toNat else s).grantEnter g).follow o x g s.now
          | none =>
            let s := s.releaseEntries k x (a / 128)
            let (e, s) := s.takeEntry k may
            (s.grantEnter g).laneServe k x pl g { c with entry := e }

/-- The oldest held request that may re-enter the lane of an SCD (R308). -/
def State.heldHead (s : State) (k : Scd) : Option Held :=
  s.lane.held.find? fun h => h.k == k && h.released && decide (h.since < s.now) && !s.busy h.line && !s.lookingUp h.line && !s.recalled h.req h.line

/-- A held request re-enters the lane; when it must be held again it keeps its place. -/
def State.reenter (s : State) (h : Held) : State :=
  ({ s with lane := { s.lane with held := dropFirst (fun y => y == h) s.lane.held } }).dequeue h.k h.req (some h.place)

/-- A queue slot serves the classes of a mask in ascending order (R88): for each class the oldest held request that may
re-enter (R308), else the head of its queue. -/
def State.queueSlot (s : State) (k : Scd) (mask : Nat) : State :=
  let h := s.heldHead k
  let pick := (List.range 8).find? fun c => mask.testBit c &&
    ((match h with
      | some h => h.req.r.cls.toNat == c
      | none => false) || !(s.reqQueue k c).isEmpty)
  match pick with
  | none => s
  | some c =>
    match h with
    | some h =>
      if h.req.r.cls.toNat = c then s.reenter h
      else match s.reqQueue k c with
        | q :: qs => (s.setReqQueue k c qs).dequeue k q.req none
        | [] => s
    | none => match s.reqQueue k c with
      | q :: qs => (s.setReqQueue k c qs).dequeue k q.req none
      | [] => s

/-! ### Responses -/

/-- Put a line into the stack cache (R245): 16 ways per set, the set and the way replaced as Config gives them
(assumption 13). -/
def State.cacheFill (s : State) (line : Nat) (bs : List Byte) : State :=
  let k := s.home (128 * line)
  let set := s.mem.scache.filter fun e =>
    s.home (128 * e.1) == k && e.1 != line && Config.scacheSet e.1 == Config.scacheSet line
  let s := if set.length < 16 then s
    else
      match set[(Config.scacheVictim line).toNat % set.length]? with
      | some v => s.cacheDrop v.1
      | none => s
  { s with mem := { s.mem with scache := s.mem.scache.insert line (BitVec.ofNat 1024 (leNat bs)) } }

/-- An uncorrectable word met by a request lane is counted and recorded (R562, Table 19.5). -/
def State.mediaEvent (s : State) (o : LaneOp) : State :=
  let args := [o.req.r.addr.toNat, o.req.r.reqid.toNat, o.req.r.port.toNat]
  match o.path with
  | .near | .hit | .atomic | .coherent | .slot =>
    let a := match o.ext with
      | some (_, e) => slotAddr e ((o.req.r.addr.toNat - e.vbase) / 256)
      | none => o.eff
    let m := stackOf a / 3
    (s.bumpLive .midEccue 1 m).event 0x0010 1 kindMid m args Status.mediaError.code
  | .scratch | .posted => (s.bumpLive .scdEccue 1 o.k.toNat).event 0x0010 1 kindScd o.k.toNat args Status.mediaError.code
  | _ => s

/-- What the i-th follower of a leader receives (R136, R137). -/
def LaneOp.followerData (o : LaneOp) (i : Nat) : List Byte :=
  match o.req.kind with
  | .atomic op => leBytes (opWidth o.req.r) (atomicAfter op (leNat o.data) (o.reqs.take (i + 1)))
  | _ => o.data

/-- The address of a piece decodes to a stack that is lost: it ends with UNIT_LOST at its path count from the cy of the loss
on (Table 19.2). -/
def State.opOnLost (s : State) (o : LaneOp) : Bool :=
  match o.path with
  | .hit | .near | .posted | .coherent | .atomic => !o.req.kind.isRed && s.stackOut (stackOf o.eff)
  | .slot =>
    match o.ext with
    | some (_, e) => s.slotLost e ((o.req.r.addr.toNat - e.vbase) / 256)
    | none => false
  | _ => false

/-- The execution status of a lane operation whose response is built now (R13); a refusal keeps its own. -/
def State.opStatus (s : State) (o : LaneOp) : Status :=
  if o.path = .refusal ∨ o.path = .follower then o.status
  else
    match Status.first Status.executionOrder ([o.status] ++ if s.opOnLost o then [.unitLost] else []) with
    | .ok => o.status
    | st => st

/-- The response of a lane operation is built now (R332, R66): the epoch is checked once more (Table 15.11), the stack cache
is filled (R245), followers' responses are scheduled one per cy (R137). -/
def State.respond (s : State) (k : Scd) (id : Nat) : State :=
  match s.findOp id with
  | none => s
  | some o =>
    if o.waits then s
    else
      let s := { s with lane := { s.lane with ops := s.lane.ops.filter fun (x : LaneOp) => x.id != id } }
      let gone := !((s.tenant o.req.r.tenant).epoch == o.req.r.tepoch)
      let exec := s.opStatus o
      let st : Status := if gone && o.path != .refusal then .tenantGone else exec
      let data := if st = .ok ∨ st = .versionConflict then o.data else []
      let s : State := match o.fill with
        | some (l, bs) => if st = .ok then s.cacheFill l bs else s
        | none => s
      let s := if o.status = .mediaError then s.mediaEvent o else s
      let s :=
        if o.req.kind.coherent then s.sendAnswer k o.req o.grant st 0 []
        else (s.grantLeave o.grant).sendResponse k o.req.kind.opc o.req.r st data
      let s := if o.path = .posted ∧ o.req.kind.isRed = true then s.redAcked k id else s
      (List.range o.followers.length).foldl (fun s i =>
        match o.followers[i]? with
        | some (x, g, _) =>
          let s := s.bump (if x.kind.read then .scdCombrd else .scdCombat) 1 k.toNat
          s.putOp { s.laneOp k x .follower (s.now + i + 1) g o.eff o.carry.released with
            status := exec, data := if exec = .ok then o.followerData i else [] }
        | none => s) s

/-! ### Trays (R352) and Cold extents (R264 to R266) -/

/-- Bytes of Cold storage as the FTL serves them: pending writes over journalled contents (R265, R276). -/
def State.coldRead (s : State) (off n : Nat) : List Byte :=
  (List.range n).map fun i =>
    let a := off + i
    match s.tier.ftl.reverse.find? (fun f => f.write && decide (f.off ≤ a ∧ a < f.off + f.len)) with
    | some f => f.data.getD (a - f.off) 0
    | none => SMap.get 0 s.tier.cold a

/-- Opcode of a forward: GET goes as LOAD and PUT as PSTORE, which the tray profile serves (assumption 20). -/
def ReqKind.trayOpc : ReqKind → Nat
  | .get => 1
  | .put => 3
  | k => k.opc

/-- The tenant whose memory key protects data of an extent on its tray (Table 14.1): the owner of the shadow or of the mapped address,
else the tenant of the access. -/
def State.trayOwner (s : State) (e : Extent) (t : Tenant) (a : Nat) : Tenant :=
  (s.granuleOwner (if e.form = 2 then e.aux else a)).getD t

/-- The message of a tray request (R352), its data under their tray address (R415). -/
def State.trayMsg (s : State) (o : LaneOp) (e : Extent) (opid : Word) : Lmt :=
  let r := o.req.r
  let ext := match o.req.kind with
    | .atomic op => if o.followers.isEmpty then r.ext else beBytes 8 (combinedOperand op o.reqs) ++ sub r.ext 8 8
    | _ => r.ext
  { opc := o.req.kind.trayOpc, rsp := false, status := .ok, cls := r.cls.toNat, tenant := r.tenant, tepoch := r.tepoch,
    mepoch := r.mepoch, reqid := r.reqid, rkey := r.rkey, opid := opid, fidx := 0, nfrm := 1,
    addr := e.target + (r.addr.toNat - e.vbase), ctr := 0, hint := 0,
    arg := if o.req.kind.read then BitVec.ofNat 32 r.len.toNat else r.arg, ext := ext,
    data := if o.req.kind.read then [] else match o.req.kind with
      | .atomic _ | .publish => []
      | _ => xtsRun true (s.slot (memSlot (s.trayOwner e r.tenant r.addr.toNat))).key (e.target + (r.addr.toNat - e.vbase))
        (s.pieceData r),
    enc := s.wenc r.tenant, cmp := false, ece := false }

/-- A lane operation ends early with a status. -/
def State.endOp (s : State) (o : LaneOp) (st : Status) (data : List Byte) : State :=
  (s.setOp { o with status := st, data := data, waits := false, due := s.now }).respond o.k o.id

/-- A tray request is built and sent, or a request reaches CTL-B (Table 2.7, R264, R352). A class-4 forward enters the hierarchy
(Table 12.1) under its tenant's number, a key that R360 does not give it (DESIGN CHOICE, log entry 90). -/
def State.forward (s : State) (k : Scd) (id : Nat) : State :=
  match s.findOp id with
  | none => s
  | some o =>
    match o.ext with
    | none => s
    | some (_, e) =>
      let r := o.req.r
      if !((s.tenant r.tenant).epoch == r.tepoch) then s.endOp o .tenantGone []
      else if o.path = .cold && s.rf .ctlWdtstat 31 31 0 9 == 1 && s.rf .ctlWdtstat 31 31 0 10 == 1 then s.endOp o .unitLost []
      else if o.path = .cold then
        let off := e.target + (r.addr.toNat - e.vbase)
        let n := if o.req.kind.read then r.len.toNat else max r.len.toNat r.data.length
        if o.req.kind.read then
          if s.onFlash off then s.ftlStart (s.ftlRead id id 0 off n) else s.endOp o .ok (s.coldRead off n)
        else
          let v := s.coldRead off n
          let new := match o.req.kind with
            | .atomic op => leBytes (opWidth r) (atomicAfter op (leNat v) [r])
            | _ => s.pieceData r
          let s := s.setOp { o with data := (match o.req.kind with | .atomic _ => v | _ => []) }
          s.ftlStart (s.ftlWrite id id off new)
      else
        let (opid, s) := s.nextOpid r.tenant
        let m := s.trayMsg o e opid
        let v4 := e.trayIp.toNat / 2 ^ 32 == 0xFFFF
        let port := BitVec.ofNat 10 e.port
        let key := if m.cls = 4 then some r.tenant.toNat else none
        let f := { lmtFrame port m e.trayIp (s.sourceIp v4) (lmtPort s) v4 none key with fwd := some id }
        let w : Fwd := { id := id, tenant := r.tenant, opid := opid, kind := .request id, stroke := s.time.stroke, port := port, pieces := 1,
                         owner := s.trayOwner e r.tenant r.addr.toNat }
        ({ s with lane := { s.lane with fwd := s.lane.fwd ++ [w] } }).sendFrame k f

/-- A store or atomic to a page of an extent that is being filled is read again (Table 8.8). -/
def State.reread (s : State) (x page : Nat) : State :=
  { s with tier := { s.tier with jobs := s.tier.jobs.map fun (j : TierJob) =>
      if j.x = x ∧ j.kind = 0 ∧ j.todo.contains page = false then { j with todo := j.todo ++ [page] }
      else if j.x = x ∧ j.kind = 1 ∧ j.refetch ≠ [] ∧ j.refetch.contains page = false then { j with refetch := j.refetch ++ [page] }
      else j } }

/-- A load dequeued on cy `d` that the answer of its leader's tray forestalled: on its cy 8 it finds no leader, or another one,
and takes its own path from its dequeue (Table 4.9, R219). -/
def State.lateFollower (s : State) (k : Scd) (x : Req) (g : Option Nat) (d : Nat) : State :=
  let pl := s.reqPlace k x
  let may := s.combinable k x pl
  match (if may then s.leader k x d else none) with
  | some o => s.follow o x g d
  | none =>
    let (e, s) := s.takeEntry k may
    s.laneServe k x pl g { entry := e, t0 := d, place := s.lane.nextId, ends := false }

/-- The tray's answer to a forwarded request has reached its home SCD: the response is built now with the tray's status and
data (R352); followers matched too late take their own paths (Table 4.9). -/
def State.trayAnswer (s : State) (id : Nat) (status : Nat) (data : List Byte) : State :=
  match s.findOp id with
  | none => s
  | some o =>
    let st : Status := (Status.ofCode status).getD .timeout
    let late (f : Req × Option Nat × Nat) : Bool := o.req.kind.read && decide (s.now ≤ f.2.2 + 8)
    let again := o.followers.filter late
    let o := { o with followers := o.followers.filter fun f => !late f }
    let s : State := match o.ext with
      | some (x, e) =>
        if st = .ok ∧ o.req.kind.writes = true ∧ e.form = 2 then s.reread x ((o.req.r.addr.toNat - e.vbase) / 4096) else s
      | none => s
    let s := if st = .ok ∧ o.req.kind.writes = true then
        match s.counterOf o.k o.req s.now o.carry.ends with
        | some (t, j, c, n) => s.ctrAddAt t j c n
        | none => s
      else s
    let s := s.endOp o st (if st = .ok then data else [])
    forEach again (fun f s => s.lateFollower o.k f.1 f.2.1 f.2.2) s

/-! ### Rows -/

/-- A piece of a well-formed frame is dequeued on its home SCD. -/
def pieceOutcome (m : String) (kind : ReqKind) (r : LineReq) (s : State) : Host.Outcome State Fault Refusal :=
  if pieceOk kind r then .next (s.dequeue (s.pieceHome ⟨kind, r⟩) ⟨kind, r⟩ none) else .refused (.reservedOperand m)

/-- LOAD (R331, Table 2.7). -/
def execLoad (r : LineReq) (s : State) := pieceOutcome "LOAD" .load r s
/-- STORE (R331). -/
def execStore (r : LineReq) (s : State) := pieceOutcome "STORE" .store r s
/-- PSTORE (R334). -/
def execPstore (r : LineReq) (s : State) := pieceOutcome "PSTORE" .pstore r s
/-- PUT (R334). -/
def execPut (r : LineReq) (s : State) := pieceOutcome "PUT" .put r s
/-- GET (R331). -/
def execGet (r : LineReq) (s : State) := pieceOutcome "GET" .get r s
/-- ATOMIC_FADD (Table 11.5). -/
def execAtomicFadd (r : LineReq) (s : State) := pieceOutcome "ATOMIC_FADD" (.atomic .fadd) r s
/-- ATOMIC_FAND (Table 11.5). -/
def execAtomicFand (r : LineReq) (s : State) := pieceOutcome "ATOMIC_FAND" (.atomic .fand) r s
/-- ATOMIC_FOR (Table 11.5). -/
def execAtomicFor (r : LineReq) (s : State) := pieceOutcome "ATOMIC_FOR" (.atomic .for_) r s
/-- ATOMIC_FXOR (Table 11.5). -/
def execAtomicFxor (r : LineReq) (s : State) := pieceOutcome "ATOMIC_FXOR" (.atomic .fxor) r s
/-- ATOMIC_FMINS (Table 11.5). -/
def execAtomicFmins (r : LineReq) (s : State) := pieceOutcome "ATOMIC_FMINS" (.atomic .fmins) r s
/-- ATOMIC_FMAXS (Table 11.5). -/
def execAtomicFmaxs (r : LineReq) (s : State) := pieceOutcome "ATOMIC_FMAXS" (.atomic .fmaxs) r s
/-- ATOMIC_FMINU (Table 11.5). -/
def execAtomicFminu (r : LineReq) (s : State) := pieceOutcome "ATOMIC_FMINU" (.atomic .fminu) r s
/-- ATOMIC_FMAXU (Table 11.5). -/
def execAtomicFmaxu (r : LineReq) (s : State) := pieceOutcome "ATOMIC_FMAXU" (.atomic .fmaxu) r s
/-- ATOMIC_SWAP (Table 11.5). -/
def execAtomicSwap (r : LineReq) (s : State) := pieceOutcome "ATOMIC_SWAP" (.atomic .swap) r s
/-- ATOMIC_CAS (Table 11.5). -/
def execAtomicCas (r : LineReq) (s : State) := pieceOutcome "ATOMIC_CAS" (.atomic .cas) r s
/-- ATOMIC_FADDF (Table 11.5). -/
def execAtomicFaddf (r : LineReq) (s : State) := pieceOutcome "ATOMIC_FADDF" (.atomic .faddf) r s
/-- PUBLISH (R339, R488). -/
def execPublish (r : LineReq) (s : State) := pieceOutcome "PUBLISH" .publish r s
/-- RED_DENSE_LINE (R121, R337). -/
def execRedDenseLine (r : LineReq) (s : State) := pieceOutcome "RED_DENSE_LINE" (.red .dense) r s
/-- RED_SPARSE_LINE (R121, R337). -/
def execRedSparseLine (r : LineReq) (s : State) := pieceOutcome "RED_SPARSE_LINE" (.red .sparse) r s
/-- RED_DONE_LINE (R123, R337). -/
def execRedDoneLine (r : LineReq) (s : State) := pieceOutcome "RED_DONE_LINE" (.red .done) r s
/-- RETR (R340). -/
def execRetr (r : LineReq) (s : State) := pieceOutcome "RETR" .retr r s
/-- RD_S (R301). -/
def execRdS (r : LineReq) (s : State) := pieceOutcome "RD_S" .rdS r s
/-- RD_X (R301). -/
def execRdX (r : LineReq) (s : State) := pieceOutcome "RD_X" .rdX r s
/-- UPG (R301). -/
def execUpg (r : LineReq) (s : State) := pieceOutcome "UPG" .upg r s
/-- WB (R302). -/
def execWb (r : LineReq) (s : State) := pieceOutcome "WB" .wb r s
/-- WB_KEEP (R302). -/
def execWbKeep (r : LineReq) (s : State) := pieceOutcome "WB_KEEP" .wbKeep r s
/-- PUSH_DATA (R303). -/
def execPushData (r : LineReq) (s : State) := pieceOutcome "PUSH_DATA" .pushData r s
/-- ACK (R303). -/
def execAck (r : LineReq) (s : State) := pieceOutcome "ACK" .ack r s
/-- ACK_WBPEND (R305). -/
def execAckWbpend (r : LineReq) (s : State) := pieceOutcome "ACK_WBPEND" .ackWbpend r s
/-- STASH_ACK (R317). -/
def execStashAck (r : LineReq) (s : State) := pieceOutcome "STASH_ACK" .stashAck r s
/-- STASH_NAK (R317). -/
def execStashNak (r : LineReq) (s : State) := pieceOutcome "STASH_NAK" .stashNak r s

/-- QUEUE_SLOT (R88): an SCD serves a queue slot with a class mask. -/
def execQueueSlot (k : Scd) (mask : BitVec 8) (s : State) : Host.Outcome State Fault Refusal :=
  .next (if s.scdOut k then s else s.queueSlot k mask.toNat)

/-- HELD_REQUEST_REENTER (R308): the oldest held request that may re-enter the lane does. -/
def execHeldRequestReenter (k : Scd) (s : State) : Host.Outcome State Fault Refusal :=
  .next (match s.heldHead k with
    | some h => s.reenter h
    | none => s)

end Sys2Proof.Machine
end

