-- ==== Sys2Proof/Machine/Engines.lean ====
section
/-! DEFINITION. The gather and move engines: operations and their delays (R139 to R145, R589), the range tracker (R271 to R275),
gathers (R151 to R159, R221 to R226), data tiles (R176 to R181, R279) and the frames of MOV (R338, R436). -/

namespace Sys2Proof.Machine

/-! ### Shape of an operation -/

/-- Rows of a gather, sectors of a move; MDONE has none. -/
def EngOp.count (o : EngOp) : Nat :=
  if o.gte then o.gf.nrow.toNat + 1 else if o.kind = .mdone then 0 else o.mf.len.toNat + 1

/-- Bytes of a row or sector. -/
def EngOp.rowBytes (o : EngOp) : Nat := if o.gte then 64 * o.gf.rowlen.toNat else 128

/-- Lines of a row (R221). -/
def EngOp.rowLines (o : EngOp) : Nat := ceilDiv o.rowBytes 128

/-- Lines of the operation. -/
def EngOp.lines (o : EngOp) : Nat := o.count * o.rowLines

/-- Offset in its row and length of a line. -/
def EngOp.lineSpan (o : EngOp) (m : Nat) : Nat × Nat :=
  let off := 128 * (m % o.rowLines)
  (off, min 128 (o.rowBytes - off))

/-- Address a line is read from. -/
def EngOp.lineAddr (o : EngOp) (m : Nat) : Option Nat :=
  ((o.rows.getD (m / o.rowLines) none)).map fun a => a + (o.lineSpan m).1

/-- Cy of the page-table read before the first line (R221). -/
def EngOp.shift (o : EngOp) : Nat := if o.kind = .gpage then 16 else 0

/-- EA_s of a data tile and EA_d of a destination (R152, R158, R176). -/
def EngOp.srcAt (o : EngOp) : Int := effAddr o.src o.sx 0
def EngOp.dstAt (o : EngOp) : Int := effAddr o.dst (if o.gte then o.sx else o.sy) 0

/-- Row number or token of row j (Table 5.6). -/
def EngOp.rowNo (o : EngOp) (j : Nat) : Int :=
  if o.kind = .glin then 128 * o.sx.toInt + j else (elemAt 32 o.xidx.toNat j : Nat)

/-- The selection bit of row j (R153). -/
def EngOp.selected (o : EngOp) (j : Nat) : Bool :=
  !(o.gte && o.gf.bmen) || o.bm.getLsbD (if o.kind = .glin then 128 * o.gf.idx.toNat + j else j)

/-- Bytes of the destination: packed rows and trailer (R154), one output row (R158), a tile. -/
def EngOp.dstLen (o : EngOp) : Nat :=
  match o.kind with
  | .gbag => o.rowBytes
  | .mcopy => 128 * o.count
  | .msend | .mred | .mdone => 64
  | _ => o.rowBytes * o.count + 512

def EngOp.ctrOn (o : EngOp) : Bool := if o.gte then o.gf.ctren else o.mf.ctren
def EngOp.ctr (o : EngOp) : BitVec 9 := if o.gte then o.gf.ctr else o.mf.ctr

/-- A send or contribution operation: its destination is a descriptor. -/
def EngOp.sends (o : EngOp) : Bool := o.kind == .msend || o.kind == .mred || o.kind == .mdone

/-! ### Delays (Tables 5.1 and 5.2) -/

/-- Region class of an address: 0 own scratchpad window, 1 another's, 2 near tier, 3 not fixed, 4 unmapped (Table 5.1). -/
def State.engClass (s : State) (k : Scd) (a : Nat) : Nat :=
  match s.region a with
  | .scratch j => if j = k.toNat then 0 else 1
  | .userNear | .control | .ftlMap => 2
  | .mapped => 3
  | .unmapped => 4

/-- The farthest region class that a fret extent touches (R139). -/
def State.extentClass (s : State) (k : Scd) (e : BitVec 128) : Nat :=
  let n := 128 * fretExtent e
  max (s.engClass k (fretBase e)) (if n = 0 then 0 else s.engClass k (fretBase e + n - 1))

def sourceDelay (c : Nat) : Option Nat := [16, 64, 692][c]?
def destDelay (c : Nat) : Option Nat := [8, 32, 44][c]?

/-- Class of the source: of the page pool for GPAGE (R156). -/
def State.srcClass (s : State) (o : EngOp) : Nat :=
  if o.kind = .gpage then bits o.src.toNat 69 68 else if o.kind = .mdone then 0 else s.extentClass o.k o.src

/-- OCC (Table 5.2). -/
def EngOp.occupancy (o : EngOp) : Nat :=
  match o.kind with
  | .mdone => 1
  | .gbag => ceilDiv o.lines 4
  | .mcopy | .msend | .mred => ceilDiv o.count 4
  | _ => ceilDiv o.lines 4 + 1

/-- Cy from its start to its completion, when its delays are fixed (Table 5.2, R141). -/
def State.engTime (s : State) (o : EngOp) : Option Nat :=
  match sourceDelay (s.srcClass o) with
  | none => none
  | some d =>
    match o.kind with
    | .mdone => some 25
    | .gbag => some (o.occ + d + 8)
    | .mcopy => (destDelay (s.extentClass o.k o.dst)).map fun w => o.occ + d + w
    | .msend | .mred => some (o.occ + d + 24)
    | .gpage => some (o.occ + 16 + d)
    | _ => some (o.occ + d)

/-! ### The table of operations -/

def State.eng_ (s : State) (id : Nat) : Option EngOp := s.eng.ops.find? fun (o : EngOp) => o.id == id

def State.setEng (s : State) (o : EngOp) : State :=
  { s with eng := { s.eng with ops := s.eng.ops.map fun (x : EngOp) => if x.id = o.id then o else x } }

def State.freshId (s : State) : Nat × State :=
  (s.lane.nextId, { s with lane := { s.lane with nextId := s.lane.nextId + 1 } })

/-- A delay that spec/ leaves open, 1 to 4,096 cy (assumption 22). -/
def State.freeDelay (s : State) : Nat × State :=
  let (v, s) := s.drawFree
  (1 + v.toNat % 4096, s)

/-- An operation is counted on the entry on which an access of it passed (R462). -/
def State.engCount (s : State) (id bit a : Nat) : State :=
  match s.eng_ id with
  | none => s
  | some o =>
    match s.engEntry o.tenant bit a with
    | some g => if o.grants.contains g then s else (s.setEng { o with grants := o.grants ++ [g] }).grantEnter (some g)
    | none => s

/-! ### The range tracker (R272, R273) -/

def overlaps (x y : Nat × Nat) : Bool := decide (x.1 < y.1 + y.2 ∧ y.1 < x.1 + x.2)

/-- Only ranges in the near tier or a scratchpad window are registered. -/
def State.tracked (s : State) (k : Scd) (x : Nat × Nat) : Bool := x.2 != 0 && decide (s.engClass k x.1 < 3)

/-- A range that starts at an address that may be invalid. -/
def rangeAt (a : Int) (n : Nat) : List (Nat × Nat) := if a < 0 then [] else [(a.toNat, n)]

/-- Ranges registered from the issue cy: reads and writes. -/
def State.engRanges (s : State) (o : EngOp) : List (Nat × Nat) × List (Nat × Nat) :=
  let keep (xs : List (Nat × Nat)) := xs.filter (s.tracked o.k)
  let ext := [(fretBase o.src, 128 * fretExtent o.src)]
  match o.kind with
  | .mdone => ([], [])
  | .msend | .mred => (keep (rangeAt o.srcAt (128 * o.count)), [])
  | .mcopy => (keep (rangeAt o.srcAt (128 * o.count)), keep (rangeAt o.dstAt (128 * o.count)))
  | _ => (keep ext, keep (rangeAt o.dstAt o.dstLen))

/-- An earlier operation holds a later one (R273). -/
def EngOp.holds (x y : EngOp) : Bool :=
  y.reads.any (fun a => x.writes.any (overlaps a)) ||
  y.writes.any (fun a => x.writes.any (overlaps a) || x.reads.any (overlaps a))

/-! ### Completion -/

/-- Stack-cache lines of a near-tier tile copied with INV are invalidated in a maintenance window (R178). -/
def State.engInval (s : State) (o : EngOp) : State :=
  let a := o.dstAt.toNat
  if o.kind ≠ .mcopy ∨ o.mf.inv = false ∨ s.engClass o.k a ≠ 2 then s
  else
    let w := if s.time.cy < 1408 then s.time.stroke else s.time.stroke + 1
    let new := (List.range 32).map fun j => (⟨BitVec.ofNat 5 j, a / 128, o.count, w, false⟩ : Inval)
    { s with mem := { s.mem with inval := s.mem.inval ++ new } }

/-- Status of an operation (R142). -/
def EngOp.status (o : EngOp) : Status :=
  Status.first Status.engineOrder (o.met ++ o.bad.filterMap fun e =>
    if o.selected (e.1 / max 1 o.rowLines) then some e.2 else none)

/-- The counter of a completed operation advances, and a failed one is recorded (R143). -/
def State.engReport (s : State) (o : EngOp) (st : Status) : State :=
  let s := if o.ctrOn then s.ctrAddAt s.now o.k (if st = .ok then o.ctr else o.ctr ^^^ 0x100) 1 else s
  if st = .ok then s
  else
    let s := s.wv .scdEngerr (fld st.code 24 + fld (if o.gte then 10 else 16) 19 + o.seg.toNat) o.k.toNat
    (s.wv .scdEngerrChord o.chord o.k.toNat).bump .scdEngfail 1 o.k.toNat

/-- An operation leaves the table; those it held are held no longer by it. -/
def State.engLeave (s : State) (o : EngOp) : State :=
  let ops := (s.eng.ops.filter fun (x : EngOp) => x.id != o.id).map fun (x : EngOp) =>
    { x with holders := x.holders.filter (· != o.id) }
  let s := { s with eng := { s.eng with ops := ops } }
  forEach o.grants (fun g s => s.grantLeave (some g)) s

/-! ### Frames of MOV (R338, R433, R436) -/

/-- The fields of a send descriptor (Table 5.13). -/
structure SendDesc where
  port : Nat
  cls : Nat
  flags : Nat
  rkey : Word
  raddr : Nat
  ip : BitVec 128
  v4 : Bool
  udp : Nat
  gen : Nat
  contrib : Nat
  fmt : Nat
  line0 : Nat
  sent : Nat
  deriving DecidableEq, Repr

def sendDesc (b : List Byte) : SendDesc :=
  let v4 := (leAt b 3 1) % 2 == 1
  { port := leAt b 0 2, cls := leAt b 2 1, flags := leAt b 3 1, rkey := BitVec.ofNat 32 (leAt b 4 4), raddr := leAt b 8 8,
    ip := BitVec.ofNat 128 (if v4 then 0xFFFF * 2 ^ 32 + beAt b 0x1C 4 else beAt b 0x10 16), v4 := v4, udp := leAt b 0x20 2,
    gen := leAt b 0x22 2, contrib := leAt b 0x24 2, fmt := leAt b 0x26 1, line0 := leAt b 0x28 4, sent := leAt b 0x2C 4 }

/-- A descriptor keeps Table 5.13 for an operation (R179). -/
def descOk (op : EngKind) (b : List Byte) : Bool :=
  let d := sendDesc b
  (decide (d.port < 640) || (d.port == 0xFFFF && op != .msend)) &&
  (if op = .msend then d.cls == 2 || d.cls == 4 else d.cls == 5) &&
  decide (d.flags < 4) && decide (d.fmt ≤ 0xB) && leAt b 0x27 1 == 0 && leAt b 0x30 16 == 0 &&
  (op == .msend || decide (d.raddr < 8192))

/-- A frame that MOV sends is handed to the governor (R342, R360). -/
def State.engFrame (s : State) (o : EngOp) (d : SendDesc) (opid : Word) (opc fidx nfrm addr : Nat) (ext data : List Byte)
    (cmp : Bool) : State :=
  let m : Lmt := { opc := opc, rsp := false, status := .ok, cls := d.cls, tenant := o.tenant, tepoch := o.epoch,
                   mepoch := s.mapEpoch, reqid := s.selfReqid, rkey := d.rkey, opid := opid, fidx := fidx, nfrm := nfrm,
                   addr := addr, ctr := 0, hint := 0, arg := 0, ext := ext, data := data, enc := s.wenc o.tenant, cmp := cmp,
                   ece := false }
  let udp := if d.udp = 0 then lmtPort s else BitVec.ofNat 16 d.udp
  s.sendGoverned (lmtFrame (BitVec.ofNat 10 d.port) m d.ip (s.sourceIp d.v4) udp d.v4 none
    (if d.cls < 4 then none else some o.tenant.toNat)) o.tenant opid

/-- One wire block record (R432, R433) for `n` bytes against 256 base bytes, when the block may be paired: its bytes, and
whether a full block went as RAW. -/
def blockRecord (bs : List Byte) (base : Option (Nat × Nat × List Byte)) : List Byte × Bool :=
  let raw := beBytes 1 0 ++ beBytes 1 (bs.length - 1) ++ beBytes 2 0 ++ beBytes 4 0 ++ bs
  match base with
  | none => (raw, bs.length == 256)
  | some (id, b, bb) =>
    let d := xorBytes bs bb
    let nz := d.filter (· != 0)
    let head (k : Nat) := beBytes 1 k ++ beBytes 1 255 ++ beBytes 2 id ++ beBytes 4 b
    if nz.isEmpty then (head 2, false)
    else if 32 + nz.length < 256 then (head 1 ++ deltaMap d ++ nz, false)
    else (raw, true)

/-- The block records of a frame whose first byte goes to remote address `ra` and comes from offset `off` of a FORM 4 extent:
divided at 256 B of the remote range; a block is paired when it is a whole block of the extent too. Fuel: blocks. -/
def State.wireRecords (s : State) (e : Extent) : Nat → Nat → Nat → List Byte → List (List Byte × Bool)
  | 0, _, _, _ => []
  | fuel + 1, ra, off, bs =>
    if bs.isEmpty then []
    else
      let n := min bs.length (256 - ra % 256)
      let blk := bs.take n
      let pair := if n = 256 ∧ off % 256 = 0 then some (e.baseid, off / 256, s.baseBlock e.baseid (off / 256)) else none
      blockRecord blk pair :: s.wireRecords e fuel (ra + n) (off + n) (bs.drop n)

/-- The FORM 4 extent with a base in which a source tile lies, when MSEND compresses (R436). -/
def State.sendBase (s : State) (o : EngOp) : Option Extent :=
  if s.noDelta || s.af .lmtTenpol 2 2 0 o.tenant.toNat != 1 then none
  else
    match s.place o.k o.srcAt.toNat with
    | .slot x => if (s.extent x).baseid = 0 then none else some (s.extent x)
    | _ => none

/-- The bytes of sector s of a tile, none when it met a status. -/
def EngOp.sector (o : EngOp) (j : Nat) : Option (List Byte) :=
  if (o.bad.find j).isSome || (o.rows.getD j none).isNone then none
  else some (padTo 128 ((o.got.find (2 * j)).getD [] ++ (o.got.find (2 * j + 1)).getD []))

/-- The frames of an MSEND (R176, R338): 4,096 bytes each; one that holds a bad sector is not sent. -/
def State.sendPut (s : State) (o : EngOp) : State :=
  let d := sendDesc o.desc
  let n := ceilDiv o.count 32
  let (opid, s) := s.nextOpid o.tenant
  (List.range n).foldl (fun s f =>
    let secs := ((List.range (min 32 (o.count - 32 * f))).map fun j => o.sector (32 * f + j))
    if secs.any Option.isNone then s
    else
      let data := secs.flatMap (·.getD [])
      let ra := d.raddr + 4096 * f
      match s.sendBase o with
      | none => s.engFrame o d opid 5 f n ra [] data false
      | some e =>
        let recs := s.wireRecords e 40 ra (o.srcAt.toNat + 4096 * f - e.vbase) data
        let out := recs.flatMap fun r => r.1
        let s := s.bump .scdDcrawtx (countIf (fun r => r.2) recs) o.k.toNat
        if out.length < data.length then s.engFrame o d opid 5 f n ra [] out true
        else s.engFrame o d opid 5 f n ra [] data false) s

/-- One element's encoding is a zero value. -/
def zeroElem (fmt w : Nat) : Bool :=
  if isFloatFmt fmt || fmt = fmtE3M2 then (match decodeFloat fmt w with
    | .fin _ 0 _ => true
    | _ => false)
  else w == 0

/-- Contribution lines of one sector (R180): (kind, line or block number, payload). -/
def redLines (d : SendDesc) (j : Nat) (bs : List Byte) : List (Nat × Nat × List Byte) :=
  let w := fmtWidth d.fmt
  let e := 1024 / max 1 w
  let v := leNat bs
  let zero (i : Nat) : Bool := zeroElem d.fmt (elemAt w v i)
  if (List.range e).all zero then []
  else
    let block (b : Nat) : List Nat := (List.range 64).filter fun i => 64 * b + i < e && !zero (64 * b + i)
    let blocks := (List.range (ceilDiv e 64)).filter fun b => !(block b).isEmpty
    if bitAt d.flags 1 && decide (w ≤ 16) && blocks.all (fun b => decide (8 + ceilDiv ((block b).length * w) 8 ≤ 128)) then
      blocks.map fun b =>
        let on := block b
        (1, ((d.line0 + j) * (e / 64) + b) % 2 ^ 32,
          leBytes 8 ((on.map fun i => 2 ^ i).sum) ++
            leBytes (ceilDiv (on.length * w) 8) (packElems w (on.map fun i => elemAt w v (64 * b + i))))
    else [(0, (d.line0 + j) % 2 ^ 32, bs)]

/-- Send one contribution line (R338): by the governor, or into the class 5 queue of the context's SCD of this device. -/
def State.sendRed (s : State) (o : EngOp) (d : SendDesc) (opid : Word) (kind line count : Nat) (data : List Byte) : State :=
  let ext := beBytes 2 d.gen ++ beBytes 2 d.contrib ++ beBytes 1 kind ++ beBytes 1 d.fmt ++ [0, 0] ++ beBytes 4 line ++
    beBytes 4 count
  if d.port = 0xFFFF then
    let r : LineReq :=
      { cls := 5, tenant := o.tenant, tepoch := o.epoch, mepoch := s.mapEpoch, reqid := s.selfReqid, rkey := d.rkey, opid := opid,
        fidx := 0, nfrm := 1, arg := 0, addr := BitVec.ofNat 57 d.raddr, len := BitVec.ofNat 8 data.length, data := data,
        cmp := false, base := none, ext := ext, ctr := 0, hint := 0, port := 0, first := true, last := true, spread := false,
        ce := false, enc := false, internal := true, ret := { ip := 0, udp := 0, dstIp := 0, v4 := false, vlan := none } }
    let x : Req := { kind := .red (if kind = 0 then .dense else if kind = 1 then .sparse else .done), r := r }
    s.enqueueReq (s.pieceHome x) x false
  else s.engFrame o d opid 8 0 1 d.raddr ext data false

/-- The lines of an MRED: sent, and counted in SENT (Table 5.13). -/
def State.sendRedTile (s : State) (o : EngOp) : State :=
  let d := sendDesc o.desc
  let lines := (List.range o.count).flatMap fun j => match o.sector j with
    | some bs => redLines d j bs
    | none => []
  let s := forEach lines (fun x s =>
    let (opid, s) := s.nextOpid o.tenant
    s.sendRed o d opid x.1 x.2.1 0 x.2.2) s
  let a := o.dstAt.toNat + 0x2C
  s.store a (leBytes 4 (leNat (s.bankRead a 4) + lines.length))

/-- The DONE line of an MDONE: its COUNT is SENT, which becomes zero. -/
def State.sendDone (s : State) (o : EngOp) : State :=
  let d := sendDesc o.desc
  let a := o.dstAt.toNat + 0x2C
  let (opid, s) := s.nextOpid o.tenant
  (s.sendRed o d opid 2 0 (leNat (s.bankRead a 4)) []).store a (leBytes 4 0)

/-- What a completing MOV operation sends: nothing when it was refused as a whole or its epoch is old; a sector that met a status is
not sent, the others are (R176). -/
def State.engSend (s : State) (o : EngOp) : State :=
  if !o.met.isEmpty then s
  else match o.kind with
    | .msend => s.sendPut o
    | .mred => s.sendRedTile o
    | .mdone => s.sendDone o
    | _ => s

/-! ### Reading lines -/

/-- Every granule of a range is weight class. -/
def State.weightRange (s : State) (a n : Nat) : Bool :=
  (List.range ((a + (n - 1)) / 2 ^ 21 - a / 2 ^ 21 + 1)).all fun i =>
    (s.weightClass (max a ((a / 2 ^ 21 + i) * 2 ^ 21))).isSome

/-- The range of a line may be read by an operation (R142, R157, R463): granted, in memory that engines reach, not in a handoff
window (R494), and weight-class data only to weight-class destinations or an encrypting tenant. -/
def State.engMayRead (s : State) (o : EngOp) (a n : Nat) : Bool :=
  let region := match s.region a with
    | .control | .ftlMap | .unmapped => false
    | _ => true
  let weight := match s.weightClass a with
    | none => true
    | some _ => if o.sends then s.wenc o.tenant else s.weightRange o.dstAt.toNat o.dstLen
  region && s.engGranted o.tenant 0 a n && !s.inHandoff a n && weight

/-- A sector or row of the destination may be written (R142, R421, R494). -/
def State.engMayWrite (s : State) (o : EngOp) (a n : Nat) : Bool :=
  let region := match s.region a with
    | .control | .ftlMap | .unmapped => false
    | _ => true
  region && s.engGranted o.tenant 1 a n && !s.inHandoff a n && !s.inBase a n

/-- A line's status is noted. -/
def State.engBad (s : State) (id m : Nat) (st : Status) : State :=
  match s.eng_ id with
  | some o => s.setEng { o with bad := o.bad.insert m st }
  | none => s

/-- Bytes of a line have come, from a 64-byte unit on. -/
def EngOp.take (o : EngOp) (unit : Nat) (bs : List Byte) : EngOp :=
  { o with got := if 64 < bs.length then (o.got.insert unit (bs.take 64)).insert (unit + 1) (bs.drop 64)
                  else o.got.insert unit bs }

/-- An uncorrectable word met by an engine (Table 19.1): counted and recorded. -/
def State.engMedia (s : State) (o : EngOp) (a : Nat) : State :=
  match s.region a with
  | .scratch j => (s.bumpLive .scdEccue 1 j).event 0x0010 1 kindScd j [a, o.seg.toNat, 0] Status.mediaError.code
  | _ =>
    let m := stackOf a / 3
    (s.bumpLive .midEccue 1 m).event 0x0010 1 kindMid m [a, o.seg.toNat, 0] Status.mediaError.code

/-- The rows of an operation are known; their ranges are registered. -/
def State.engSetRows (s : State) (id : Nat) (rows : List (Option Nat)) (rs : List (Nat × Nat)) : State :=
  match s.eng_ id with
  | some o => s.setEng { o with rows := rows, reads := o.reads ++ rs }
  | none => s

/-- Single-bit errors in a piece that an engine reads from near tier or scratchpad are corrected (R561). -/
def State.engCorrect (s : State) (o : EngOp) (a n : Nat) : State :=
  match s.place o.k a with
  | .near b => s.correct b n
  | .shadow b _ => s.correct b n
  | .scratch _ => s.correct a n
  | .slot x => s.correct (slotAddr (s.extent x) ((a - (s.extent x).vbase) / 256)) 128
  | _ => s

/-- The bytes of an aligned piece by its place, or the status it meets: banks for near tier and scratchpads, the shadow of a
far-cached extent, decoded blocks of a FORM 4 extent, Cold contents (R141). -/
def State.engFetch (s : State) (o : EngOp) (a n : Nat) : Status × List Byte :=
  let bank (b : Nat) : Status × List Byte :=
    if s.stackOut (stackOf b) then (.unitLost, [])
    else if s.uncorrectable b n then (.mediaError, [])
    else (.ok, s.bankRead b n)
  match s.place o.k a with
  | .near b => bank b
  | .shadow b _ => bank b
  | .scratch j =>
    if s.scdOut (BitVec.ofNat 5 j) then (.unitLost, [])
    else if s.uncorrectable a n then (.mediaError, [])
    else (.ok, s.bankRead a n)
  | .slot x =>
    let e := s.extent x
    let off := a - e.vbase
    if s.slotLost e (off / 256) then (.unitLost, [])
    else match (s.readBlock e (off / 256)).1 with
      | some b => (.ok, sub b (off % 256) n)
      | none => (.mediaError, [])
  | .cold x => (.ok, s.coldRead ((s.extent x).target + (a - (s.extent x).vbase)) n)
  | .lost => (.unitLost, [])
  | _ => (.noGrant, [])

/-- The pieces of a line at 128-byte boundaries: (unit, address, length). -/
def linePieces (unit a n : Nat) : List (Nat × Nat × Nat) :=
  let h := 128 - a % 128
  if n ≤ h then [(unit, a, n)] else [(unit, a, h), (unit + 1, a + h, n - h)]

/-- An operation's epoch is old at the HBM4 access stage of an access to a (Table 15.11). -/
def State.engOld (s : State) (o : EngOp) (a : Nat) : Bool :=
  o.met.contains .tenantGone || (decide (a < nearTop) && !((s.tenant o.tenant).epoch == o.epoch))

/-- An access meets a status that is the operation's as a whole. -/
def State.engMeet (s : State) (id : Nat) (st : Status) : State :=
  match s.eng_ id with
  | some o => if o.met.contains st then s else s.setEng { o with met := o.met ++ [st] }
  | none => s

/-- A range of the destination meets a status: it stays unwritten (R142). -/
def State.engMiss (s : State) (id : Nat) (st : Status) (a n : Nat) : State :=
  match s.eng_ id with
  | some o => s.setEng { o with met := o.met ++ [st], missed := o.missed ++ [(a, n)] }
  | none => s

/-- A line is read now: its status is noted, or its bytes are taken. An old epoch is found at the HBM4 access stage (R467). -/
def State.engCapture (s : State) (id m : Nat) : State :=
  match s.eng_ id with
  | none => s
  | some o =>
    match o.lineAddr m with
    | none => s
    | some a =>
      if s.engOld o a then s.engMeet id .tenantGone
      else
      (linePieces (2 * m) a (o.lineSpan m).2).foldl (fun s (p : Nat × Nat × Nat) =>
        match s.place o.k p.2.1 with
        | .far _ => s
        | .cold _ =>
          if (o.got.find p.1).isSome then s
          else match s.eng_ id with
            | some q => s.setEng (q.take p.1 (s.engFetch o p.2.1 p.2.2).2)
            | none => s
        | _ =>
          let (st, bs) := s.engFetch o p.2.1 p.2.2
          if st = .ok then
            let s := s.engCorrect o p.2.1 p.2.2
            (match s.eng_ id with
            | some o => s.setEng (o.take p.1 bs)
            | none => s)
          else
            let s := if st = .mediaError && o.selected (m / o.rowLines) then s.engMedia o p.2.1 else s
            s.engBad id m st) s

/-! ### Destinations -/

/-- A row of a gather landed whole (R142): its bytes. -/
def EngOp.rowData (o : EngOp) (j : Nat) : Option (List Byte) :=
  let ms := (List.range o.rowLines).map (fun i => j * o.rowLines + i)
  if (o.rows.getD j none).isNone || ms.any (fun m => (o.bad.find m).isSome) then none
  else some ((ms.flatMap fun m => (o.got.find (2 * m)).getD [] ++ (o.got.find (2 * m + 1)).getD []).take o.rowBytes)

/-- The sum of an embedding bag (R158). -/
def EngOp.bag (o : EngOp) : List Byte :=
  let f := o.gf.fmt.toNat
  let w := fmtWidth f
  let n := 8 * o.rowBytes / max 1 w
  let rows := ((List.range o.count).filter o.selected).filterMap fun j => (o.rowData j).map leNat
  leBytes o.rowBytes (packElems w ((List.range n).map fun i =>
    let acc := rows.foldl (fun a v => rduResult fmtFp32 false .nearest ((decodeFloat fmtFp32 a).add (decodeFloat f (elemAt w v i)))) 0
    rduResult f false .nearest (decodeFloat fmtFp32 acc)))

/-- What the operation writes: (address, bytes) of each row, trailer or sector, in order. -/
def EngOp.output (o : EngOp) : List (Nat × List Byte) :=
  let d := o.dstAt.toNat
  match o.kind with
  | .gbag => [(d, o.bag)]
  | .mcopy => (List.range o.count).filterMap fun j => (o.sector j).map fun bs => (d + 128 * j, bs)
  | .gidx | .glin | .gpage =>
    let on := (List.range o.count).filter o.selected
    let ids := (List.range 128).flatMap fun p =>
      match on[p]? with
      | some j => if (o.rowData j).isSome then leBytes 4 (ofSigned 32 (o.rowNo j)) else leBytes 4 0xFFFFFFFF
      | none => leBytes 4 0xFFFFFFFF
    ((List.range on.length).filterMap fun p => (o.rowData (on.getD p 0)).map fun bs => (d + o.rowBytes * p, bs)) ++
      [(d + o.rowBytes * o.count, ids)]
  | _ => []

/-- One run of bytes cut at 128-byte sectors: each piece with its sector number. -/
def cutSectors (x : Nat × List Byte) : List (Nat × List (Nat × Byte)) :=
  (List.range (x.2.length / 128 + 2)).filterMap fun i =>
    let lo := if i = 0 then x.1 else (x.1 / 128 + i) * 128
    let hi := min ((x.1 / 128 + i + 1) * 128) (x.1 + x.2.length)
    if lo < hi then some (lo / 128, writesAt lo (sub x.2 (lo - x.1) (hi - lo))) else none

/-- Pieces of one sector that follow one another are one write. -/
def joinSectors : List (Nat × List (Nat × Byte)) → List (List (Nat × Byte))
  | [] => []
  | [x] => [x.2]
  | x :: y :: xs =>
    match joinSectors (y :: xs) with
    | [] => [x.2]
    | z :: zs => if x.1 = y.1 then (x.2 ++ z) :: zs else x.2 :: z :: zs

/-- What an operation writes, sector by sector: rows and a trailer that share a 128-byte sector are written as one, so that none is
torn (R177, R279). -/
def sectorsOf (ws : List (Nat × List Byte)) : List (List (Nat × Byte)) := joinSectors (ws.flatMap cutSectors)

/-- First byte and length of the range from the first to the last byte of a write. -/
def spanOf (ws : List (Nat × Byte)) : Nat × Nat :=
  match ws.head?, ws.getLast? with
  | some a, some b => (a.1, b.1 + 1 - a.1)
  | _, _ => (0, 0)

/-- A sector appears in memory: its bank, the request lanes' view, and the directory (R277, R315); not once the operation's epoch is
found old (R142, Table 15.11). -/
def State.engSector (s : State) (id : Nat) (ws : List (Nat × Byte)) : State :=
  match s.eng_ id, ws.head? with
  | some o, some w =>
    if s.engOld o w.1 then s.engMiss id .tenantGone (spanOf ws).1 (spanOf ws).2
    else
      let s := (s.bankWrite ws).patchReads ws
      if s.engClass o.k w.1 = 2 ∧ o.kind = .mcopy then (s.engineLine (w.1 / 128) (o.tenant, o.epoch)).stashWrite (s.home w.1) w.1 none (o.tenant, o.epoch) else s
  | _, _ => s

/-- Sectors of an operation that have not appeared yet. -/
def State.sectorsLeft (s : State) (id : Nat) : List (List (Nat × Byte)) :=
  s.timed.filterMap fun e => match e.2 with
    | .sector _ op ws => if op = id then some ws else none
    | _ => none

/-- Every sector of an operation has appeared by its completion (R140, R278). -/
def State.engFlush (s : State) (id : Nat) : State :=
  let left := s.sectorsLeft id
  let s : State := { s with timed := s.timed.filter fun e => match e.2 with
    | .sector _ op _ => op != id
    | _ => true }
  forEach left (fun ws s => s.engSector id ws) s

/-- Rows written and skipped are counted when the operation completes (Tables 5.15 and 7.5): a row of which no byte was withheld. -/
def State.engRows (s : State) (o : EngOp) : State :=
  if !o.gte || !o.landed then s
  else
    let on := (List.range o.count).filter o.selected
    let d := o.dstAt.toNat
    let whole (p : Nat) : Bool := !o.missed.any (overlaps (d + o.rowBytes * p, o.rowBytes))
    let n := if o.kind = .gbag then b2n (whole 0)
      else countIf (fun p => (o.rowData (on.getD p 0)).isSome && whole p) (List.range on.length)
    (s.bump .scdGterows n o.k.toNat).bump .scdGteskip (o.count - on.length) o.k.toNat

/-- Rows and sectors that have no valid address meet NO_GRANT, which counts when they are selected (R142, R151, R176). -/
def EngOp.noteRows (o : EngOp) : EngOp :=
  { o with bad := (List.range o.count).foldl (fun m j =>
      if (o.rows.getD j none).isNone && (m.find (j * o.rowLines)).isNone then m.insert (j * o.rowLines) .noGrant else m) o.bad }

/-- Sectors of an operation whose destination is near tier or scratchpad: granted ones are written, the others noted. -/
def State.engPlaced (s : State) (id : Nat) (o : EngOp) : State × List (List (Nat × Byte)) :=
  (sectorsOf o.output).foldl (fun (x : State × List (List (Nat × Byte))) ws =>
    let s := x.1
    let (a, n) := spanOf ws
    let out := match s.region a with
      | .scratch j => s.scdOut (BitVec.ofNat 5 j)
      | _ => s.stackOut (stackOf a)
    if !s.engMayWrite o a n then (s.engMiss id .noGrant a n, x.2)
    else if out then (s.engMiss id .unitLost a n, x.2)
    else (s.engCount id 1 a, x.2 ++ [ws])) (s, [])

/-- The cy on which a sector of an operation that completes on `due` is written, of the cys from now on: cy t where the bank may be
accessed then, else the first cy after the refresh window, else the last before it (R237). -/
def sectorCy (a now due t : Nat) : Nat :=
  let u := bankFree a t
  if u ≤ due then u
  else
    let w := u - 480
    if now < w then w - 1 else due

/-- Every line of an operation of fixed delays has been read: its sectors appear one by one by its completion cy, in an order
that spec/ leaves open (R279, assumption 22), a near-tier sector outside the refresh window of its bank (R237). -/
def State.engTile (s : State) (id : Nat) : State :=
  match s.eng_ id with
  | none => s
  | some o =>
    let o := { o.noteRows with landed := true }
    let s := s.setEng o
    if o.met.contains .tenantGone || o.sends then s
    else
      let (s, secs) := s.engPlaced id o
      secs.foldl (fun s ws =>
        let (v, s) := s.drawFree
        let due := o.due.getD s.now
        let t := s.now + v.toNat % (due - s.now + 1)
        let a := (spanOf ws).1
        s.after (if s.engClass o.k a = 2 then sectorCy a s.now due t else t) (.sector o.k id ws)) s

/-! ### Accesses of a not-fixed delay (R141) -/

/-- A request of an engine to a tray: LOAD of a piece, or PSTORE of a sector, under the operation's tenant (R338, R352); a MOV
write is a frame that MOV sends, which the governor paces (R342). -/
def State.engForward (s : State) (o : EngOp) (x a unit n : Nat) (data : List Byte) : State :=
  let e := s.extent x
  let (opid, s) := s.nextOpid o.tenant
  let (id, s) := s.freshId
  let v4 := e.trayIp.toNat / 2 ^ 32 == 0xFFFF
  let write := !data.isEmpty
  let owner := s.trayOwner e o.tenant a
  let m : Lmt := { opc := if write then 3 else 1, rsp := false, status := .ok, cls := 2, tenant := o.tenant, tepoch := o.epoch,
                   mepoch := s.mapEpoch, reqid := s.selfReqid, rkey := 0, opid := opid, fidx := 0, nfrm := 1,
                   addr := e.target + (a - e.vbase), ctr := 0, hint := 0, arg := if write then 0 else BitVec.ofNat 32 n,
                   ext := [], data := xtsRun true (s.slot (memSlot owner)).key (e.target + (a - e.vbase)) data,
                   enc := s.wenc o.tenant, cmp := false, ece := false }
  let port := BitVec.ofNat 10 e.port
  let f := lmtFrame port m e.trayIp (s.sourceIp v4) (lmtPort s) v4 none none
  let w : Fwd := { id := id, tenant := o.tenant, opid := opid, kind := .engine o.id unit write, stroke := s.time.stroke, port := port, pieces := 1,
                   owner := owner }
  let s := { s with lane := { s.lane with fwd := s.lane.fwd ++ [w] } }
  if write then s.sendGoverned f o.tenant opid else s.sendFrame o.k f

/-- One more access of an operation is open. -/
def State.engOpen (s : State) (id : Nat) : State :=
  match s.eng_ id with
  | some o => s.setEng { o with left := o.left + 1 }
  | none => s

/-- A sector of a not-fixed destination is written by its place: at once, or by a tray or the flash translation layer. -/
def State.engPut (s : State) (id : Nat) (ws : List (Nat × Byte)) : State :=
  match s.eng_ id, ws.head? with
  | some o, some w =>
    let a := w.1
    let bs := ws.map fun e => e.2
    let span := spanOf ws
    let fail (st : Status) : State := s.engMiss id st span.1 span.2
    if !s.engMayWrite o span.1 span.2 then fail .noGrant
    else
      match s.place o.k a with
      | .near b => if s.stackOut (stackOf b) then fail .unitLost else (s.engCount id 1 a).engSector id ws
      | .shadow b _ =>
        if s.stackOut (stackOf b) then fail .unitLost
        else
          let ws := writesAt b bs
          ((((s.engCount id 1 a).bankWrite ws).patchReads ws).engineLine (b / 128) (o.tenant, o.epoch)).stashWrite (s.home b) b none
            (o.tenant, o.epoch)
      | .scratch j => if s.scdOut (BitVec.ofNat 5 j) then fail .unitLost else (s.engCount id 1 a).engSector id ws
      | .far x => (((s.engCount id 1 a).engOpen id).engForward o x a 0 bs.length bs)
      | .cold x =>
        let (f, s) := ((s.engCount id 1 a).engOpen id).freshId
        s.ftlStart (s.ftlWrite f id ((s.extent x).target + (a - (s.extent x).vbase)) bs)
      | .slot x =>
        let e := s.extent x
        let off := a - e.vbase
        if s.slotLost e (off / 256) then fail .unitLost
        else
          match (s.readBlock e (off / 256)).1 with
          | none => fail .mediaError
          | some b =>
            match s.encodeBlock e (off / 256) (patch b (off % 256) bs) s.now with
            | none => (fail .formatUnsupported).event 0x0023 2 kindExtent x [x, off / 256 / 16]
            | some (ws, form, masks) =>
              let s := forEach masks (fun (m : Nat × Bool) (s : State) => s.maskBit (ovfRecord e (off / 256)) m.1 m.2) s
              let s := s.bump (if form = 2 then .scdDcspill else if form = 3 then .scdDcquant else .scdDcxmap) 1 o.k.toNat
              ((s.engCount id 1 a).bankWrite ws).patchReads ws
      | .lost => fail .unitLost
      | _ => fail .noGrant
  | _, _ => s

/-! ### Beginning, line issue, completion -/

/-- An operation that has no access left completes: MOV frames are sent, its counter advances (R140, R143). -/
def State.engFinish (s : State) (id : Nat) : State :=
  let s := s.engFlush id
  match s.eng_ id with
  | none => s
  | some o =>
    let s := if o.sends then s.engSend o else s.engRows o
    ((s.engInval o).engReport o o.status).engLeave o

/-- The page-table entry of row j of a GPAGE, when it lies in the table and may be read (R156, R157). -/
def State.pageEntry (s : State) (o : EngOp) (j : Nat) : Option Nat :=
  let e := fretBase o.src + 8 * ((o.rowNo j).toNat / 2 ^ bits o.src.toNat 67 64)
  if fretKind o.src ≠ kindPage ∨ fretBase o.src + 128 * fretExtent o.src < e + 8 ∨ inWindow o.k e 8 = false ∨
      s.engGranted o.tenant 0 e 8 = false then none
  else some e

/-- Rows of a GPAGE whose page-table entry holds an uncorrectable word: MEDIA_ERROR (Table 19.1). -/
def State.pageMedia (s : State) (o : EngOp) : State :=
  forUpto o.count (fun j s =>
    match s.pageEntry o j with
    | some e =>
      if o.selected j && s.uncorrectable e 8 then (s.engMedia o e).engBad o.id (j * o.rowLines) .mediaError else s
    | none => s) s

/-- Where each row or sector is read from (R151, R156, R157, R176). Rows that a bitmap does not select are not read through the page
table (R153). -/
def State.engRowAddrs (s : State) (o : EngOp) : List (Option Nat) :=
  (List.range o.count).map fun j =>
    match o.kind with
    | .gpage =>
      match s.pageEntry o j with
      | none => none
      | some e =>
        let v := leNat (s.bankRead e 8)
        let a := bits v 56 0 + o.rowBytes * ((o.rowNo j).toNat % 2 ^ bits o.src.toNat 67 64)
        let c := s.engClass o.k (bits v 56 0)
        if !o.selected j || s.uncorrectable e 8 || !bitAt v 63 || bits v 56 0 % 128 != 0 || decide (3 < c) ||
            decide (s.srcClass o < c) then none
        else some a
    | .mcopy | .msend | .mred =>
      let ea := o.srcAt + 128 * (j : Int)
      if fretKind o.src = kindLinear ∧ inExtent o.src ea 128 = true then some ea.toNat else none
    | _ =>
      let ea := fretBase o.src + fretStride o.src * o.rowNo j
      if (fretKind o.src = kindLinear ∨ fretKind o.src = kindIndexed) ∧ inExtent o.src ea o.rowBytes = true ∧ ea % 64 = 0 then
        some ea.toNat
      else none

/-- Why a whole operation makes no access (R142, R151, R176, R179, R563). The destination entry of a gather lies wholly in the
issuing SCD's window; where it does not, which check 14 does not see, the operation meets NO_GRANT (DEDUCED, assumption 81). -/
def State.engRefuse (s : State) (o : EngOp) : List Status :=
  let d := o.dstAt
  if o.sends then
    let tile := o.kind == .mdone || (fretKind o.src == kindLinear && o.srcAt % 128 == 0)
    let at_ := fretKind o.dst == kindLinear && inExtent o.dst d 64 && d % 64 == 0 && inWindow o.k d.toNat 64
    let w := o.kind == .msend || s.engGranted o.tenant 1 d.toNat 64
    if !tile || !at_ || !s.engGranted o.tenant 0 d.toNat 64 || !w then [.noGrant]
    else if descOk o.kind o.desc then [] else [.formatUnsupported]
  else if o.gte then
    if fretKind o.dst == kindLinear && d % 64 == 0 && inExtent o.dst d o.dstLen &&
        inWindow o.k (fretBase o.dst) (128 * fretExtent o.dst) then []
    else [.noGrant]
  else if fretKind o.src == kindLinear && fretKind o.dst == kindLinear && o.srcAt % 128 == 0 && d % 128 == 0 &&
      inExtent o.dst d o.dstLen then []
  else [.noGrant]

/-- An operation begins on this cy: nothing holds or delays it (R140, R141, R273, R589). An operation of a disabled segment that
was held or delayed is cancelled, be the segment unloaded by then (R549). -/
def State.engBegin (s : State) (id : Nat) : State :=
  match s.eng_ id with
  | none => s
  | some o =>
    let late := decide (o.issue < s.now)
    let old := !((s.tenant o.tenant).epoch == o.epoch)
    let off := match s.segment o.seg with
      | some g => g.st == .disabled
      | none => s.fw.disabling.any fun x => x.1 == o.seg
    if late && off then
      (s.setEng { o with begun := true, met := if old then [.tenantGone, .functionDisabled] else [.functionDisabled] }).after s.now
        (.engine o.k id)
    else
      let o := { o with begun := true, start := s.now }
      let o := { o with desc := if o.sends && decide (0 ≤ o.dstAt) then s.bankRead o.dstAt.toNat 64 else [] }
      let o := { o with met := o.met ++ s.engRefuse o, rows := if o.kind = .gpage then [] else s.engRowAddrs o }
      let s := s.setEng o
      let refused := !o.met.isEmpty
      let s := if o.bmLater then s.after (s.now + 16) (.bitmap o.k id) else s
      match s.engTime o with
      | some n =>
        let due := s.now + n
        let s := (s.setEng { o with due := some due }).after due (.engine o.k id)
        if refused || o.lines = 0 then s
        else
          let last := s.now + o.shift + (o.lines - 1) / 4 + [1, 25, 519].getD (s.srcClass o) 519
          let s := s.after last (.tile o.k id)
          if o.kind = .gpage then s.after (s.now + 16) (.pages o.k id) else s.after s.now (.engLine o.k id 0)
      | none =>
        if refused then s.after (s.now + o.occ) (.engine o.k id)
        else if o.kind = .gpage then s.after (s.now + 16) (.pages o.k id)
        else s.after s.now (.engLine o.k id 0)

/-- The rows that a GPAGE reads overlap writes that earlier operations still hold registered: it is held, and behaves as one issued
when the last of them completes (R273). -/
def State.engRehold (s : State) (o : EngOp) (holders : List Nat) : State :=
  let s : State := { s with timed := s.timed.filter fun e => match e.2 with
    | .engine _ op => op != o.id
    | .tile _ op => op != o.id
    | _ => true }
  let s := if o.start = o.issue then s.bump .scdRthold 1 o.k.toNat else s
  s.setEng { o with begun := false, due := none, holders := holders, bmLater := o.ahead }

/-- The page table of a GPAGE has been read: its rows are known, held behind earlier writes of them, and registered with the tracker
(R157, R272, R273). -/
def State.engPages (s : State) (id : Nat) : State :=
  match s.eng_ id with
  | none => s
  | some o =>
    let rows := s.engRowAddrs o
    let rs := (rows.filterMap fun r => r.map fun a => (a, o.rowBytes)).filter (s.tracked o.k)
    let held := (s.eng.ops.filter fun (x : EngOp) => decide (x.id < id) && rs.any fun a => x.writes.any (overlaps a)).map
      fun (x : EngOp) => x.id
    if !held.isEmpty then s.engRehold o held
    else ((s.pageMedia o).engSetRows id rows rs).after s.now (.engLine o.k id 0)

/-- One line is issued: its epoch and grant are checked (R142, R224, Table 15.11), and it is read when it reaches its bank. -/
def State.engIssueLine (s : State) (id m : Nat) : State :=
  match s.eng_ id with
  | none => s
  | some o =>
    let j := m / o.rowLines
    if !o.bmLater && !o.selected j then s
    else
      match o.lineAddr m with
      | none => s
      | some a =>
        let n := (o.lineSpan m).2
        if !s.engMayRead o a n then s.engBad id m .noGrant
        else
          let c := s.engClass o.k a
          let s := if o.bmLater && c != 2 then s else if o.bmLater then
              (s.setEng { o with prefix_ := o.prefix_ ++ [m] }).bump .scdGtepfx 1 o.k.toNat
            else s.engCount id 0 a
          if o.due.isSome then
            let lat := if c = 0 then 0 else if c = 1 then 24 else if inRefresh a s.now 38 then 518 else 38
            s.after (s.now + lat) (.capture o.k id m)
          else
            let ps := linePieces (2 * m) a n
            let offset (x : Nat) (p : Nat × Nat × Nat) : Nat := (s.extent x).target + (p.2.1 - (s.extent x).vbase)
            let out (p : Nat × Nat × Nat) : Option Place := match s.place o.k p.2.1 with
              | .far x => some (.far x)
              | .cold x => if s.onFlash (offset x p) then some (.cold x) else none
              | _ => none
            let s := ps.foldl (fun s (p : Nat × Nat × Nat) => match out p with
              | some (.far x) => (s.engOpen id).engForward o x p.2.1 p.1 p.2.2 []
              | some (.cold x) =>
                let (f, s) := (s.engOpen id).freshId
                s.ftlStart (s.ftlRead f id p.1 (offset x p) p.2.2)
              | _ => s) s
            if ps.all (fun p => (out p).isSome) then s
            else
              let (t, s) := s.freeDelay
              (s.engOpen id).after (s.now + t) (.capture o.k id m)

/-- The last access of a not-fixed operation may have ended: its destination is written, or it completes (R141). -/
def State.engSettle (s : State) (id : Nat) : State :=
  match s.eng_ id with
  | none => s
  | some o =>
    if o.due.isSome || !o.issued || o.left != 0 then s
    else if o.landed then s.after s.now (.engine o.k id)
    else
      let o := { o.noteRows with landed := true }
      let s := s.setEng o
      if o.met.contains .tenantGone || o.sends then s.after s.now (.engine o.k id)
      else
        let s := (sectorsOf o.output).foldl (fun s ws => s.engPut id ws) s
        match s.eng_ id with
        | some o => if o.left = 0 then s.after s.now (.engine o.k id) else s
        | none => s

/-- An access of a not-fixed delay has ended. -/
def State.engDone (s : State) (id : Nat) : State :=
  match s.eng_ id with
  | some o => (s.setEng { o with left := o.left - 1 }).engSettle id
  | none => s

/-- A group of four lines is issued (R221); an old epoch stops the lines from here on (R142). -/
def State.engLines (s : State) (k : Scd) (id group : Nat) : State :=
  match s.eng_ id with
  | none => s
  | some o =>
    if !((s.tenant o.tenant).epoch == o.epoch) then
      (s.setEng { o with met := o.met ++ [.tenantGone], issued := true }).engSettle id
    else
      let s := (List.range 4).foldl (fun s i =>
        if 4 * group + i < o.lines then s.engIssueLine id (4 * group + i) else s) s
      if 4 * (group + 1) < o.lines then s.after (s.now + 1) (.engLine k id (group + 1))
      else match s.eng_ id with
        | some o => (s.setEng { o with issued := true }).engSettle id
        | none => s

/-- Lines that were squashed are never read (R213, R214). -/
def State.withdraw (s : State) (id : Nat) (ms : List Nat) : State :=
  { s with timed := s.timed.filter fun e => match e.2 with
      | .capture _ op m => op != id || !ms.contains m
      | _ => true }

/-- The bitmap of a run-ahead gather is read (R159, R223): prefix lines of rows that it does not select are squashed and their
commands withdrawn, the others are counted on their grants. -/
def State.engBitmap (s : State) (id : Nat) : State :=
  match s.eng_ id with
  | none => s
  | some o =>
    if !o.bmLater then s
    else
      let o := { o with bm := s.vreg o.k o.gf.bmv, bmLater := false }
      let off := o.prefix_.filter fun m => !o.selected (m / o.rowLines)
      let on := o.prefix_.filter fun m => o.selected (m / o.rowLines)
      let s := ((s.setEng { o with prefix_ := [] }).bump .scdGtepsq off.length o.k.toNat).withdraw id off
      on.foldl (fun s m => match o.lineAddr m with
        | some a => s.engCount id 0 a
        | none => s) s

/-- An operation whose engine is free and that nothing holds begins (R273, R589). -/
def State.engTry (s : State) (id : Nat) : State :=
  match s.eng_ id with
  | some o => if !o.begun && o.holders.isEmpty && !o.carried then s.engBegin id else s
  | none => s

/-- An operation completes, and operations that only it held begin (R273). -/
def State.engComplete (s : State) (id : Nat) : State :=
  let held := (s.eng.ops.filter fun (o : EngOp) => o.holders.contains id).map fun (o : EngOp) => o.id
  let s := s.engFinish id
  forEach held (fun h s => s.engTry h) s

/-- The earlier occupancy has ended (R589). -/
def State.engTake (s : State) (id : Nat) : State :=
  match s.eng_ id with
  | some o => if o.carried then (s.setEng { o with carried := false }).engTry id else s
  | none => s

/-- The answer of a tray to an access of an engine (R141, R352). -/
def State.engAnswer (s : State) (id unit : Nat) (write : Bool) (st : Status) (data : List Byte) : State :=
  match s.eng_ id with
  | none => s
  | some o =>
    let s := if write then (if st = .ok then s else s.setEng { o with met := o.met ++ [st] })
      else if st = .ok then s.setEng (o.take unit data)
      else s.engBad id (unit / 2) st
    s.engDone id

/-! ### Issue -/

/-- Busy key of an engine. -/
def engKey (k : Scd) (gte : Bool) : Nat := 2 * k.toNat + b2n (!gte)

/-- The operation a slot issues now, with its operands as they stand (R80). -/
def State.engOperands (s : State) (kind : EngKind) (gte : Bool) (k : Scd) (gf : GteF) (mf : MovF) (start : Nat) : EngOp :=
  let carried := decide (s.now < start)
  { id := s.lane.nextId, k := k, kind := kind, gte := gte, gf := gf, mf := mf,
    sx := s.sreg k (if gte then gf.xreg else mf.xreg), sy := s.sreg k (if gte then 0 else mf.yreg),
    xidx := s.xreg k gf.idx, bm := s.vreg k gf.bmv, src := s.fret k (if gte then gf.src else mf.src),
    dst := s.fret k (if gte then gf.dst else mf.dst), issue := s.now, start := start, occ := 0, seg := s.time.running,
    chord := s.time.cy, tenant := s.segTenant, epoch := (s.tenant s.segTenant).epoch, begun := false, due := none, reads := [],
    writes := [], holders := [], carried := carried, ahead := gte && gf.ra && gf.bmen, bmLater := false, rows := [], prefix_ := [],
    got := [], bad := [], met := [], missed := [], left := 0, issued := false, grants := [], landed := false, desc := [] }

/-- Issue of a GTE or MOV slot on an SCD (R140 to R145, R273, R589). -/
def State.issueEng (s : State) (kind : EngKind) (gte : Bool) (k : Scd) (gf : GteF) (mf : MovF) : State :=
  if s.scdOut k then s
  else
    let free := SMap.get 0 s.eng.busy (engKey k gte)
    let start := max s.now free
    let o := s.engOperands kind gte k gf mf start
    let o := { o with occ := o.occupancy }
    let near := s.srcClass o == 2
    let counted := o.ahead && near
    let o := { o with ahead := counted && !o.carried, bmLater := counted && !o.carried }
    let s := { s with eng := { s.eng with busy := s.eng.busy.insert (engKey k gte) (start + o.occ) } }
    if !s.gate k (if gte then gf.pred else mf.pred) then s
    else
      let (id, s) := s.freshId
      let out := countIf (fun (x : EngOp) => x.k == k && x.gte == gte) s.eng.ops
      let put (o : EngOp) (s : State) : State := { s with eng := { s.eng with ops := s.eng.ops ++ [o] } }
      let s := if counted then s.bump .scdGteraops 1 k.toNat else s
      if 1024 ≤ out then
        (put { o with begun := true, met := [.timeout] } s).after (s.now + o.occ) (.engine k id)
      else
        let tainted := !gte && o.sends && s.scd.tainted.getLsbD k.toNat
        let o := if tainted then { o with met := [.mediaError] } else o
        let rg := if tainted then ([], []) else s.engRanges o
        let o := { o with reads := rg.1, writes := rg.2 }
        let o := { o with holders := (s.eng.ops.filter fun (x : EngOp) => x.holds o).map fun (x : EngOp) => x.id }
        let held := !o.holders.isEmpty || o.carried
        let s := put o (if held then s.bump .scdRthold 1 k.toNat else s)
        if o.carried then s.after start (.takeEngine k id) else s.engTry id

/-- Placeholder fields of the engine a slot is not for. -/
def noGte : GteF :=
  { src := 0, dst := 0, idx := 0, xreg := 0, nrow := 0, rowlen := 0, bmv := 0, bmen := false, ra := false, ctr := 0, ctren := false,
    fmt := 0, rsv := 0, pred := 0 }
def noMov : MovF :=
  { src := 0, dst := 0, xreg := 0, yreg := 0, len := 0, ctr := 0, ctren := false, inv := false, rsv := 0, pred := 0 }

def State.issueGte (s : State) (op : EngKind) (k : Scd) (f : GteF) : State := s.issueEng op true k f noMov
def State.issueMov (s : State) (op : EngKind) (k : Scd) (f : MovF) : State := s.issueEng op false k noGte f

/-! ### Rows -/

/-- RA 1 on a chord after cy 1391 is a reserved field value (R226). -/
def State.raOk (s : State) (f : GteF) : Bool := !f.ra || decide (s.time.cy ≤ 1391)

/-- GIDX (Table 5.6). -/
def execGidx (k : Scd) (f : GteF) (s : State) := slotOutcome "GIDX" (gteOk .gidx f && s.raOk f) (s.issueGte .gidx k f)
/-- GLIN (Table 5.6). -/
def execGlin (k : Scd) (f : GteF) (s : State) := slotOutcome "GLIN" (gteOk .glin f && s.raOk f) (s.issueGte .glin k f)
/-- GPAGE (R157). -/
def execGpage (k : Scd) (f : GteF) (s : State) := slotOutcome "GPAGE" (gteOk .gpage f && s.raOk f) (s.issueGte .gpage k f)
/-- GBAG (R158). -/
def execGbag (k : Scd) (f : GteF) (s : State) := slotOutcome "GBAG" (gteOk .gbag f && s.raOk f) (s.issueGte .gbag k f)
/-- MCOPY (Table 5.12). -/
def execMcopy (k : Scd) (f : MovF) (s : State) := slotOutcome "MCOPY" (movOk .mcopy f) (s.issueMov .mcopy k f)
/-- MSEND (Table 5.12). -/
def execMsend (k : Scd) (f : MovF) (s : State) := slotOutcome "MSEND" (movOk .msend f) (s.issueMov .msend k f)
/-- MRED (R180). -/
def execMred (k : Scd) (f : MovF) (s : State) := slotOutcome "MRED" (movOk .mred f) (s.issueMov .mred k f)
/-- MDONE (R181). -/
def execMdone (k : Scd) (f : MovF) (s : State) := slotOutcome "MDONE" (movOk .mdone f) (s.issueMov .mdone k f)

/-- An operation of an SCD, by number. -/
def State.engOn (s : State) (k : Scd) (id : Nat) : Bool := s.eng.ops.any fun (o : EngOp) => o.id == id && o.k == k

end Sys2Proof.Machine
end

