-- ==== Sys2Proof/Machine/Command.lean ====
section
/-! DEFINITION. What every host command shares (R505 to R509): its buffer, its start and its completion; and the changes latched
for a boundary (R46, R47). -/

namespace Sys2Proof.Machine

/-- Whether the buffer of a command, of `need` bytes at least, lies in the control region (R509). A command that names no
buffer needs none. -/
def bufOk (c : Cmd) (need : Nat) : Bool :=
  if c.buf = 0 ∧ c.buflen = 0 ∧ need = 0 then true else inControl c.buf.toNat (max need c.buflen.toNat)

/-- Commands that need the root-of-trust core (Table 17.1). -/
def needsRot (opcode : Nat) : Bool := decide (0x30 ≤ opcode ∧ opcode ≤ 0x36) || decide (0x50 ≤ opcode ∧ opcode ≤ 0x51)

/-- A command starts (R508), and runs unless its buffer lies outside the control region or its core is held. -/
def State.command (s : State) (c : Cmd) (opcode need : Nat) (run : Running → State → State) : State :=
  let r := Cmd.running c opcode
  let s := s.start r
  if !bufOk c need then s.complete r .noGrant
  else if needsRot opcode && s.rotHeld then s.complete r .unitLost
  else run r s

/-- The bytes of a command's buffer. -/
def State.cmdBuf (s : State) (c : Cmd) (n : Nat) : List Byte := s.ctlRead c.buf.toNat n

/-- The first latched change that satisfies a test. -/
def State.dueFind (s : State) (p : Due → Bool) : Option Due := (s.due.find? fun e => p e.2).map fun e => e.2

end Sys2Proof.Machine
end

