-- ==== Sys2Proof/Machine/Tiers.lean ====
section
/-! DEFINITION. The memory tiers: extent commands (R248 to R258), far-cached fills, flushes and evictions (R252 to R256),
registered bases (R420 to R422). -/

namespace Sys2Proof.Machine

/-! ### Descriptors -/

/-- The fields of an extent descriptor (Table 8.7). -/
def extentOf (b : List Byte) : Extent :=
  { vbase := leAt b 0 8, len := leAt b 8 3, form := leAt b 0xC 1, store := leAt b 0xD 1, ovfk := leAt b 0xE 1, st := 0,
    target := leAt b 0x10 8, aux := leAt b 0x18 8, port := leAt b 0x20 2, baseid := leAt b 0x22 2,
    trayIp := BitVec.ofNat 128 (beAt b 0x28 16) }

/-- The bytes of a descriptor, with its state. -/
def Extent.bytes (e : Extent) : List Byte :=
  leBytes 8 e.vbase ++ leBytes 4 e.len ++ leBytes 1 e.form ++ leBytes 1 e.store ++ leBytes 1 e.ovfk ++ leBytes 1 e.st ++
  leBytes 8 e.target ++ leBytes 8 e.aux ++ leBytes 2 e.port ++ leBytes 2 e.baseid ++ leBytes 4 0 ++
  beBytes 16 e.trayIp.toNat ++ leBytes 8 0

/-- Bytes of the overflow area of an exact extent (R260). -/
def Extent.ovfLen (e : Extent) : Nat := (128 + 256 * e.ovfk) * (e.len * 512)

/-- A descriptor keeps Table 8.7; what the table gives for every form holds for an invalid one (FORM 0) too. -/
def descriptorOk (b : List Byte) : Bool :=
  let e := extentOf b
  leAt b 0xB 1 == 0 && leAt b 0xF 1 == 0 && leAt b 0x24 4 == 0 && leAt b 0x38 8 == 0 && decide (e.form ≤ 4) &&
  e.vbase % 2 ^ 21 == 0 && decide (1 ≤ e.len) && decide (0x020000000000000 ≤ e.vbase) &&
  decide (e.vbase + e.len * 2 ^ 21 ≤ 0x100000000000000) &&
  (if e.form = 4 then
     (e.store == 1 || e.store == 2) && decide (e.baseid < 4096) && e.target % 2 ^ 21 == 0 &&
     (if e.store = 1 then decide (1 ≤ e.ovfk ∧ e.ovfk ≤ 16) && e.aux % 2 ^ 21 == 0 else e.ovfk == 0 && e.aux == 0)
   else e.store == 0 && e.ovfk == 0 &&
     (match e.form with
      | 0 => e.aux == 0
      | 3 => e.target % 65536 == 0 && e.aux == 0
      | 2 => decide (e.port < 640) && e.aux % 2 ^ 21 == 0
      | _ => decide (e.port < 640) && e.aux == 0))

/-- A range lies in user near. -/
def State.inUserNear (s : State) (a n : Nat) : Bool := decide (a + n ≤ s.rf .ctlNearmap 23 8 * 2 ^ 30)

/-- Descriptors as they will stand when every accepted EXT_SET has taken effect. -/
def State.extPlanned (s : State) : SMap Extent :=
  s.due.foldl (fun m e => match e.2 with
    | .extApply x d => m.insert x d
    | _ => m) s.tier.ext

/-- Bases as they will stand when every accepted registration and drop has taken effect. -/
def State.basePlanned (s : State) : SMap Base :=
  s.due.foldl (fun m e => match e.2 with
    | .baseApply b (some v) => m.insert b v
    | .baseApply b none => m.erase b
    | _ => m) s.tier.bases

/-- Why EXT_SET is refused (R249, R429); OK when it is accepted. -/
def State.extSetStatus (s : State) (x : Nat) (b : List Byte) : Status :=
  let e := extentOf b
  if s.noDelta ∧ (e.form = 3 ∨ e.store = 1 ∨ e.store = 2) then .unitAbsent
  else if !descriptorOk b then .formatUnsupported
  else if e.form = 0 then .ok
  else
    let n := e.len * 2 ^ 21
    let clash := s.extPlanned.any fun f =>
      f.1 != x && f.2.form != 0 && decide (f.2.vbase < e.vbase + n ∧ e.vbase < f.2.vbase + f.2.len * 2 ^ 21)
    let place := match e.form with
      | 2 => s.inUserNear e.aux n
      | 3 => decide (e.target + n ≤ s.coldCapacity)
      | 4 => s.inUserNear e.target (n / 2) && (e.store != 1 || s.inUserNear e.aux e.ovfLen)
      | _ => true
    let base := s.basePlanned.find e.baseid
    let delta := e.form != 4 ||
      ((e.baseid == 0 || base.isSome) &&
       (e.store != 2 || match base with
         | some v => e.baseid != 0 && (qdeltaShape v.fmt).isSome
         | none => false))
    if clash || !place || !delta then .formatUnsupported else .ok

/-- A descriptor takes effect (R250); the entry is good again (Table 19.1). -/
def State.extApply (s : State) (x : Nat) (d : Extent) : State :=
  { s with tier := { s.tier with
      ext := s.tier.ext.insert x d,
      bad := s.tier.bad.filter fun e => e.2 != x } }

def State.setExtState (s : State) (x st : Nat) : State :=
  { s with tier := { s.tier with ext := s.tier.ext.mapVal fun i e => if i = x then { e with st := st } else e } }

/-! ### Far-cached pages -/

/-- Pages of an extent. -/
def Extent.pages (e : Extent) : Nat := 512 * e.len

/-- Near-tier page number of a shadow page, the key of its dirty bit (R254). -/
def Extent.shadowPage (e : Extent) (p : Nat) : Nat := e.aux / 4096 + p

def State.isDirty (s : State) (e : Extent) (p : Nat) : Bool := SMap.get false s.tier.dirty (e.shadowPage p)

def State.setDirty (s : State) (e : Extent) (p : Nat) (v : Bool) : State :=
  { s with tier := { s.tier with dirty := SMap.set false s.tier.dirty (e.shadowPage p) v } }

def State.job (s : State) (x : Nat) : Option TierJob := s.tier.jobs.find? fun (j : TierJob) => j.x == x

def State.setJob (s : State) (j : TierJob) : State :=
  { s with tier := { s.tier with jobs := s.tier.jobs.map fun (i : TierJob) => if i.x = j.x then j else i } }

def State.dropJob (s : State) (x : Nat) : State :=
  { s with tier := { s.tier with jobs := s.tier.jobs.filter fun (j : TierJob) => j.x != x } }

/-- The frame of a page read (LOAD) or write-back (PSTORE), class 4, for the device itself (R252, R255, R342, R360): the data are
encrypted again under their tray address (R415). -/
def State.pageFrame (s : State) (x p : Nat) (kind : FwdKind) (data : List Byte) : State :=
  let e := s.extent x
  let t := s.granuleTenant e.aux
  let (opid, s) := s.nextOpid t
  let (id, s) := s.freshId
  let v4 := e.trayIp.toNat / 2 ^ 32 == 0xFFFF
  let write := !data.isEmpty
  let m : Lmt := { opc := if write then 3 else 1, rsp := false, status := .ok, cls := 4, tenant := t,
                   tepoch := (s.tenant t).epoch, mepoch := s.mapEpoch, reqid := s.selfReqid, rkey := 0, opid := opid, fidx := 0,
                   nfrm := 1, addr := e.target + 4096 * p, ctr := 0, hint := 0, arg := if write then 0 else 4096, ext := [],
                   data := xtsRun true (s.slot (memSlot t)).key (e.target + 4096 * p) data, enc := s.wenc t, cmp := false, ece := false }
  let port := BitVec.ofNat 10 e.port
  let w : Fwd := { id := id, tenant := t, opid := opid, kind := kind, stroke := s.time.stroke, port := port, pieces := 32,
                   owner := t }
  ({ s with lane := { s.lane with fwd := s.lane.fwd ++ [w] } }).sendGoverned
    (lmtFrame port m e.trayIp (s.sourceIp v4) (lmtPort s) v4 none (some 0x800)) t opid

/-- A page of the shadow is read and sent back; its dirty bit clears (R255). A page that cannot be read is not sent. -/
def State.writeBack (s : State) (x p : Nat) : State :=
  let e := s.extent x
  let a := e.aux + 4096 * p
  if s.uncorrectable a 4096 then
    match s.job x with
    | some j => s.setJob { j with out := j.out.filter (· != p), status := .mediaError }
    | none => s
  else (s.setDirty e p false).pageFrame x p (.flush x p) (s.bankRead a 4096)

/-- Pages to read that are not on their way are read from the tray (R252). -/
def State.fillPump (s : State) (x : Nat) : State :=
  match s.job x with
  | none => s
  | some j =>
    if j.kind ≠ 0 ∨ j.status ≠ .ok then s
    else
      let go := j.todo.filter fun p => !j.out.contains p
      let s := s.setJob { j with todo := j.todo.filter (j.out.contains ·), out := j.out ++ go }
      go.foldl (fun s p => s.pageFrame x p (.fill x p) []) s

/-- Dirty pages of a range. -/
def State.dirtyPages (s : State) (e : Extent) (first n : Nat) : List Nat :=
  (List.range n).filterMap fun i => if s.isDirty e (first + i) then some (first + i) else none

/-- Start a flush or eviction pass over pages. -/
def State.pass (s : State) (x : Nat) (pages : List Nat) : State :=
  match s.job x with
  | none => s
  | some j =>
    pages.foldl (fun s p =>
      let t := bankFree ((s.extent x).aux + 4096 * p) s.now
      if t = s.now then s.writeBack x p else s.after t (.pageRead x p)) (s.setJob { j with out := pages })

/-- The bank of a page to be sent back is out of refresh. -/
def State.pageRead (s : State) (x p : Nat) : State :=
  match s.job x with
  | some j => if j.out.contains p ∧ j.kind ≠ 0 ∧ s.isDirty (s.extent x) p = true then s.writeBack x p else s
  | none => s

/-! ### Commands -/

/-- An extent has a command in progress, or an earlier one waits for it (R257). -/
def State.extBusy (s : State) (x : Nat) : Bool := (s.job x).isSome

/-- What has come about in a job: a fill whose pages are all in, a pass whose pages are all acknowledged (R252, R255, R256). -/
def State.jobStep (s : State) (x : Nat) : State :=
  match s.job x with
  | none => s
  | some j =>
    if j.out ≠ [] ∨ (j.todo ≠ [] ∧ j.status = .ok) then s
    else if j.kind = 0 then
      let d := Due.extState x (if j.status = .ok then 2 else 0)
      if s.isDue d then s else s.latchNext d
    else if j.kind = 1 then s.after s.now (.flushDone x)
    else
      let e := s.extent x
      let dirty := s.dirtyPages e 0 e.pages
      if dirty.isEmpty then (if s.isDue (.extState x 0) then s else s.latchNext (.extState x 0))
      else s.pass x dirty

/-- Run an extent command whose extent is free (Table 8.9, R258). -/
def State.extRun (s : State) (r : Running) (c : Cmd) (x : Nat) : State :=
  let e := s.extent x
  let start (kind : Nat) (todo : List Nat) (s : State) : State :=
    { s with tier := { s.tier with jobs := s.tier.jobs ++
        [{ x := x, kind := kind, cmd := some r, todo := todo, out := [], status := .ok }] } }
  let farCached := e.form == 2
  match r.opcode with
  | 0x20 =>
    let b := s.cmdBuf c 64
    let st := s.extSetStatus x b
    if st ≠ .ok then s.complete r st
    else
      let d := extentOf b
      let s := if d.form = 4 then s.slotFill d else s
      (s.latchNext (.extApply x d)).complete r .ok
  | 0x21 => (s.ctlStore c.buf.toNat (s.extent x).bytes).complete r .ok
  | 0x26 =>
    if farCached && e.st == 4 then (s.latchNext (.extState x 0)).complete r .ok else s.complete r .ok
  | 0x27 =>
    let first := c.arg1.toNat
    let n := c.arg2.toNat
    if farCached && e.st == 4 then s.complete r .unitLost
    else if s.noDelta then s.complete r .unitAbsent
    else if s.rf .ctlBringup 29 29 = 0 then s.complete r .notReady
    else if e.form ≠ 3 ∨ 32 * e.len < first + n then s.complete r .formatUnsupported
    else
      let lo := e.target + 65536 * first
      let hi := lo + 65536 * n
      ({ s with tier := { s.tier with
          cold := s.tier.cold.keep fun a _ => !decide (lo ≤ a ∧ a < hi),
          mapped := s.tier.mapped.keep (fun u _ => !decide (lo / 65536 ≤ u ∧ u < hi / 65536)),
          located := s.tier.located.keep fun u _ => !decide (lo / 65536 ≤ u ∧ u < hi / 65536) } }).complete r .ok
  | op =>
    if !farCached then s.complete r .formatUnsupported
    else if e.st = 4 then s.complete r .unitLost
    else if op = 0x25 then
      if 8 * c.buflen.toNat < e.pages then s.complete r .formatUnsupported
      else (s.ctlStore c.buf.toNat (leBytes (ceilDiv e.pages 8)
        (((List.range e.pages).filter (s.isDirty e)).map fun p => 2 ^ p).sum)).complete r .ok
    else if op = 0x22 then
      if e.st ≠ 0 then s.complete r .ok
      else
        let s := { s with tier := { s.tier with
          dirty := s.tier.dirty.keep fun p _ => !decide (e.shadowPage 0 ≤ p ∧ p < e.shadowPage e.pages) } }
        (start 0 (List.range e.pages) (s.setExtState x 1)).fillPump x
    else if op = 0x23 then
      if e.st = 0 then s.complete r .ok
      else if e.pages < c.arg1.toNat + c.arg2.toNat then s.complete r .formatUnsupported
      else ((start 1 [] s).pass x (s.dirtyPages e c.arg1.toNat c.arg2.toNat)).jobStep x
    else if e.st = 0 then s.complete r .ok
    else (((start 2 [] s).setExtState x 3).pass x (s.dirtyPages e 0 e.pages)).jobStep x

/-- The waiting commands of an extent run as far as they can, in command order (R257). -/
def State.extNext (s : State) (x : Nat) : State :=
  forUpto (countIf (fun (w : Nat × Cmd × Nat) => w.1 == x) s.tier.waiting) (fun _ s =>
    if s.extBusy x then s
    else
      match s.tier.waiting.find? (fun (w : Nat × Cmd × Nat) => w.1 == x) with
      | none => s
      | some w =>
        let s := { s with tier := { s.tier with waiting := dropFirst (fun v => v == w) s.tier.waiting } }
        s.extRun (Cmd.running w.2.1 w.2.2) w.2.1 x) s

/-- An extent command is taken: it runs now, or after the ones before it (R257). -/
def State.extCommand (s : State) (c : Cmd) (opcode need : Nat) : State :=
  s.command c opcode need fun r s =>
    let x := bits c.arg0.toNat 13 0
    if s.extBusy x || s.tier.waiting.any (fun w => w.1 == x) then
      { s with tier := { s.tier with waiting := s.tier.waiting ++ [(x, c, opcode)] } }
    else s.extRun r c x

/-- The command of a job completes, and the next one for the extent may run: before it, pages that a flush left to fetch again. An
eviction that an interrupted fill would have resumed finds UNBACKED, or LOST (Table 8.9). -/
def State.jobEnd (s : State) (x : Nat) (st : Status) : State :=
  match s.job x with
  | none => s
  | some j =>
    let s := s.dropJob x
    let s : State := match j.cmd with
      | some r => s.complete r st
      | none => s
    let s : State := match j.resume with
      | some r => s.complete r (if st = .unitLost then st else .ok)
      | none => s
    let s : State := if j.refetch = [] ∨ (s.extent x).st ≠ 1 then s
      else ({ s with tier := { s.tier with jobs := s.tier.jobs ++
        [{ x := x, kind := 0, cmd := none, todo := j.refetch, out := [], status := .ok }] } } : State).fillPump x
    s.extNext x

/-- A latched change of a far-cached extent's state takes effect (Table 8.8), and completes the command behind it. -/
def State.extState (s : State) (x st : Nat) : State :=
  match s.job x with
  | none => if (s.extent x).st = 4 then s.setExtState x st else s
  | some j =>
    let ok := if j.kind = 0 then (if st = 2 then j.status == .ok && j.todo.isEmpty && j.out.isEmpty else j.status != .ok)
      else j.kind == 2 && (s.dirtyPages (s.extent x) 0 (s.extent x).pages).isEmpty
    if !ok then s.jobStep x
    else if st = 2 ∧ j.resume.isSome = true then
      let s := (s.setExtState x 3).setJob { j with kind := 2, cmd := j.resume, resume := none, todo := [], out := [] }
      (s.pass x (s.dirtyPages (s.extent x) 0 (s.extent x).pages)).jobStep x
    else (s.setExtState x st).jobEnd x (if j.kind = 0 then j.status else .ok)

/-- A flush completes (R256). -/
def State.flushEnd (s : State) (x : Nat) : State :=
  match s.job x with
  | some j => if j.kind = 1 ∧ j.out = [] then s.jobEnd x j.status else s
  | none => s

/-- A far-cached extent becomes LOST: its command completes with UNIT_LOST (R258). -/
def State.extLost (s : State) (x : Nat) : State := (s.setExtState x 4).jobEnd x .unitLost

/-- A stack that held only clean pages of a far-cached extent is lost: the extent is FILLING, and the pages are fetched from the tray
again, after a flush that is under way; an eviction goes on once they have been (Table 8.8). -/
def State.extRefetch (s : State) (x : Nat) (pages : List Nat) : State :=
  let s := s.setExtState x 1
  match s.job x with
  | none =>
    ({ s with tier := { s.tier with jobs := s.tier.jobs ++
      [{ x := x, kind := 0, cmd := none, todo := pages, out := [], status := .ok }] } } : State).fillPump x
  | some j =>
    let more := pages.filter fun p => !j.todo.contains p
    if j.kind = 0 then (s.setJob { j with todo := j.todo ++ more }).fillPump x
    else if j.kind = 1 then s.setJob { j with refetch := j.refetch ++ pages }
    else (s.setJob { j with kind := 0, cmd := none, resume := j.cmd, todo := pages, status := .ok }).fillPump x

/-- Bytes of a page reach the banks of the shadow (R252). -/
def State.pageWrite (s : State) (a : Nat) (data : List Byte) : State :=
  let ws := (writesAt a data).filter fun w => !s.stackOut (stackOf w.1)
  { s with mem := { s.mem with
      bytes := ws.foldl (fun m w => SMap.set 0 m w.1 w.2) s.mem.bytes,
      uncorr := s.mem.uncorr.filter (fun u => !covers ws u.1),
      soft := s.mem.soft.filter fun u => !ws.any fun w => w.1 / 4 == u.1 } }

/-- A page of a job is done when none of its pieces is outstanding. -/
def TierJob.pieceDone (j : TierJob) (p pieces : Nat) : TierJob :=
  if pieces = 0 then { j with out := j.out.filter (· != p) } else j

/-- Bytes of a page read from the tray are written to the shadow, and the job goes on. -/
def State.pageFill (s : State) (x p addr pieces : Nat) (data : List Byte) : State :=
  match s.job x with
  | none => s
  | some j =>
    let e := s.extent x
    if !j.out.contains p then s
    else (((s.pageWrite (e.aux + (addr - e.target)) data).setJob (j.pieceDone p pieces)).fillPump x).jobStep x

/-- The answer of a tray to a page read or write-back (R252, R256): `pieces` answers of the page are still to come. What it brings is
written when the bank is out of refresh (R237). -/
def State.pageAnswer (s : State) (x p addr pieces : Nat) (write : Bool) (st : Status) (data : List Byte) : State :=
  match s.job x with
  | none => s
  | some j =>
    let e := s.extent x
    let done (j : TierJob) : TierJob := j.pieceDone p pieces
    if st ≠ .ok then
      let s := if write then s.setDirty e p true else s
      let j := done { j with status := if j.kind = 2 ∨ (j.kind = 0 ∧ write = true) then j.status else st }
      if j.kind = 0 ∧ write = false then (s.setJob { j with out := [], todo := [] }).jobStep x else (s.setJob j).jobStep x
    else
      let t := bankFree (e.aux + 4096 * p) s.now
      if write then (s.setJob (done j)).jobStep x
      else if t = s.now then s.pageFill x p addr pieces data
      else s.after t (.pageFill x p addr pieces data)

/-! ### Bases -/

/-- A tenant's entries cover a range, granule by granule. -/
def State.tenantCovers (s : State) (t : Tenant) (a n : Nat) : Bool :=
  (List.range ((a + n - 1) / 2 ^ 21 - a / 2 ^ 21 + 1)).all fun i =>
    let lo := max a ((a / 2 ^ 21 + i) * 2 ^ 21)
    s.sec.grants.any fun e => e.2.st == .active && e.2.tenant == t && e.2.spans lo 1

/-- BASE_REG (R420). -/
def State.baseReg (s : State) (r : Running) (c : Cmd) : State :=
  let b := bits c.arg0.toNat 11 0
  let v : Base := { tenant := BitVec.ofNat 10 (bits c.arg0.toNat 25 16), fmt := bits c.arg0.toNat 35 32,
                    addr := c.arg1.toNat, blocks := c.arg2.toNat }
  if s.noDelta then s.complete r .unitAbsent
  else if v.blocks ≠ 0 ∧ v.blocks ≤ 2 ^ 24 ∧ s.tenantCovers v.tenant v.addr (256 * v.blocks) = false then s.complete r .noGrant
  else if b = 0 ∨ (s.basePlanned.find b).isSome = true ∨ v.blocks = 0 ∨ 2 ^ 24 < v.blocks ∨ v.addr % 256 ≠ 0 ∨ 0xB < v.fmt ∨
      s.inUserNear v.addr (256 * v.blocks) = false then s.complete r .formatUnsupported
  else (s.latchNext (.baseApply b (some v))).complete r .ok

/-- BASE_DROP (R422). -/
def State.baseDrop (s : State) (r : Running) (c : Cmd) : State :=
  let b := bits c.arg0.toNat 11 0
  if s.noDelta then s.complete r .unitAbsent
  else if s.extPlanned.any (fun e => e.2.form == 4 && e.2.baseid == b && b != 0) then s.complete r .formatUnsupported
  else (s.latchNext (.baseApply b none)).complete r .ok

def State.baseApply (s : State) (b : Nat) (v : Option Base) : State :=
  { s with tier := { s.tier with bases := match v with
      | some v => s.tier.bases.insert b v
      | none => s.tier.bases.erase b } }

/-! ### Rows -/

/-- EXT_SET (R249, R250). -/
def execExtSet (c : Cmd) (s : State) : Host.Outcome State Fault Refusal := .next (s.extCommand c 0x20 64)
/-- EXT_GET (Table 8.9). -/
def execExtGet (c : Cmd) (s : State) : Host.Outcome State Fault Refusal := .next (s.extCommand c 0x21 64)
/-- EXT_FILL (R252). -/
def execExtFill (c : Cmd) (s : State) : Host.Outcome State Fault Refusal := .next (s.extCommand c 0x22 0)
/-- EXT_FLUSH (R255). -/
def execExtFlush (c : Cmd) (s : State) : Host.Outcome State Fault Refusal := .next (s.extCommand c 0x23 0)
/-- EXT_EVICT (R252). -/
def execExtEvict (c : Cmd) (s : State) : Host.Outcome State Fault Refusal := .next (s.extCommand c 0x24 0)
/-- EXT_DIRTY (Table 8.9). -/
def execExtDirty (c : Cmd) (s : State) : Host.Outcome State Fault Refusal := .next (s.extCommand c 0x25 1)
/-- EXT_RESET (R252). -/
def execExtReset (c : Cmd) (s : State) : Host.Outcome State Fault Refusal := .next (s.extCommand c 0x26 0)
/-- COLD_DISCARD (R265). -/
def execColdDiscard (c : Cmd) (s : State) : Host.Outcome State Fault Refusal := .next (s.extCommand c 0x27 0)

/-- FTL_MAP_REBUILD_COMPLETE (R533); FWL-9620 has no flash translation layer (R39). -/
def execFtlMapRebuildComplete (s : State) : Host.Outcome State Fault Refusal :=
  .next (if s.noDelta then s else s.wf .ctlBringup 29 29 1)

/-- BASE_REG (R420). -/
def execBaseReg (c : Cmd) (s : State) : Host.Outcome State Fault Refusal := .next (s.command c 0x28 0 (fun r s => s.baseReg r c))
/-- BASE_DROP (R422). -/
def execBaseDrop (c : Cmd) (s : State) : Host.Outcome State Fault Refusal := .next (s.command c 0x29 0 (fun r s => s.baseDrop r c))

end Sys2Proof.Machine
end

