-- ==== Sys2Proof/Machine/Flash.lean ====
section
/-! DEFINITION. The flash translation layer (R264 to R270) and the frames it sends to flash trays (R354). While the map names no
identified flash tray, no frame is sent, and the FTL's rows alone say what has reached flash. -/

namespace Sys2Proof.Machine

/-! ### Operations -/

def State.ftlOp (s : State) (id : Nat) : Option FtlOp := s.tier.ftl.find? fun (f : FtlOp) => f.id == id

def State.setFtl (s : State) (f : FtlOp) : State :=
  { s with tier := { s.tier with ftl := s.tier.ftl.map fun (g : FtlOp) => if g.id = f.id then f else g } }

def State.dropFtl (s : State) (id : Nat) : State :=
  { s with tier := { s.tier with ftl := s.tier.ftl.filter fun (g : FtlOp) => g.id != id } }

/-- An operation of the FTL ends with a status: the lane operation or engine access behind it is answered (R264, R266). -/
def State.ftlEnd (s : State) (f : FtlOp) (st : Status) : State :=
  let s := s.dropFtl f.id
  match s.findOp f.op with
  | some o =>
    let s := if st = .ok then
        match s.counterOf o.k o.req s.now o.carry.ends with
        | some (t, j, c, n) => s.ctrAddAt t j c n
        | none => s
      else s
    s.endOp o st (if st = .ok then o.data else [])
  | none => s.engAnswer f.op 0 true st []

/-- The tenant whose data a unit holds: the owner of the Cold extent that maps it, else the management tenant (assumption 23). -/
def State.coldOwner (s : State) (u : Nat) : Tenant :=
  ((s.tier.ext.find? fun e =>
      e.2.form == 3 && decide (e.2.target ≤ 65536 * u ∧ 65536 * u < e.2.target + e.2.len * 2 ^ 21)).bind fun e =>
    s.granuleOwner (e.2.vbase + (65536 * u - e.2.target))).getD 0

/-- Bytes at an FTL offset under the key and the tweak of their place there (R415). -/
def State.coldCipher (s : State) (enc : Bool) (off : Nat) (data : List Byte) : List Byte :=
  xtsRun enc (s.slot (memSlot (s.coldOwner (off / 65536)))).key off data

/-! ### Frames (R354, Table 11.4) -/

/-- One FL_ frame, of class 4 for FL_PROG and FL_ERASE, else 2; the governor paces it (R342, R357, R360). -/
def State.flashFrame (s : State) (p : Nat) (t : Tenant) (opid : Word) (opc fidx nfrm addr arg : Nat) (data : List Byte) : State :=
  let cls := if opc = 0x22 ∨ opc = 0x23 then 4 else 2
  let port : Port := BitVec.ofNat 10 p
  let ip := Config.flashTrayIp port
  let v4 := ip.toNat / 2 ^ 32 == 0xFFFF
  let m : Lmt := { opc := opc, rsp := false, status := .ok, cls := cls, tenant := t, tepoch := (s.tenant t).epoch,
                   mepoch := s.mapEpoch, reqid := s.selfReqid, rkey := 0, opid := opid, fidx := fidx, nfrm := nfrm, addr := addr,
                   ctr := 0, hint := 0, arg := BitVec.ofNat 32 arg, ext := [], data := data, enc := s.wenc t, cmp := false,
                   ece := false }
  s.sendGoverned (lmtFrame port m ip (s.sourceIp v4) (lmtPort s) v4 none (if cls = 4 then some 0x800 else none)) t opid

/-- A forward of a flash operation that a tray will answer once, and its OPID. -/
def State.flashForward (s : State) (p : Nat) (t : Tenant) (kind : FwdKind) : Word × State :=
  let (opid, s) := s.nextOpid t
  let (id, s) := s.freshId
  let w : Fwd := { id := id, tenant := t, opid := opid, kind := kind, stroke := s.time.stroke, port := BitVec.ofNat 10 p, pieces := 1 }
  (opid, { s with lane := { s.lane with fwd := s.lane.fwd ++ [w] } })

/-- FL_IDENT, FL_READ or FL_ERASE: one frame, answered once. -/
def State.flashAsk (s : State) (p : Nat) (t : Tenant) (kind : FwdKind) (opc addr arg : Nat) : State :=
  let (opid, s) := s.flashForward p t kind
  s.flashFrame p t opid opc 0 1 addr arg []

/-- FL_PROG of one page: a frame for every 4,096 bytes, answered once (R331, R354). -/
def State.flashProgram (s : State) (p : Nat) (t : Tenant) (kind : FwdKind) (addr : Nat) (page : List Byte) : State :=
  let (opid, s) := s.flashForward p t kind
  let n := page.length / 4096
  (List.range n).foldl (fun s i => s.flashFrame p t opid 0x22 i n (addr + 4096 * i) 0 (sub page (4096 * i) 4096)) s

/-! ### Trays -/

def State.setTray (s : State) (p : Nat) (t : FlashTray) : State := { s with tier := { s.tier with trays := s.tier.trays.insert p t } }

/-- Every flash tray of the map that has not answered FL_IDENT is asked (R354); the FTL cores of CTL-B do this and every other
FL_ request, and none while both are held (Table 17.1). -/
def State.flashIdent (s : State) : State :=
  if s.noDelta || (s.rf .ctlWdtstat 31 31 0 9 == 1 && s.rf .ctlWdtstat 31 31 0 10 == 1) then s
  else
    let asked (p : Nat) : Bool := s.lane.fwd.any fun (w : Fwd) => w.kind == .flashIdent && w.port.toNat == p
    let todo := s.flashMembers.filter fun p => (s.tier.trays.find p).isNone && !asked p
    todo.foldl (fun s p => s.flashAsk p 0 .flashIdent 0x20 0 0) s

/-- The geometry of a tray (Table 11.7). -/
def State.identAnswer (s : State) (p : Nat) (st : Status) (b : List Byte) : State :=
  if st ≠ .ok ∨ b.length ≠ 32 then s
  else s.setTray p { pagesz := beAt b 0 2, ppb := beAt b 2 2, blocks := beAt b 4 4, raw := beAt b 8 8, ratedReads := beAt b 0x10 4,
                     ratedPe := beAt b 0x14 4, open_ := none, used := [], erasing := [], erases := [], reads := [] }

/-- Flash byte addresses of units on a tray, those under way included. -/
def State.liveUnits (s : State) (p : Nat) : List Nat :=
  (s.tier.located.filterMap fun e => if e.2.1 = p then some e.2.2 else none) ++
  (s.tier.ftl.filterMap fun (f : FtlOp) => if f.tray = p then f.at_ else none)

/-- Least erase count of a tray's blocks. -/
def FlashTray.leastErased (t : FlashTray) : Nat :=
  if t.erases.length < t.blocks then 0 else (t.erases.map fun e => e.2).foldl min (2 ^ 32)

/-- The free block of a tray that was erased least (R270). -/
def FlashTray.freeBlock (t : FlashTray) : Option Nat :=
  let free := (List.range (min t.blocks (t.used.length + t.erases.length + 1))).filter fun b => !t.used.contains b
  free.foldl (fun best b => match best with
    | none => some b
    | some c => if SMap.get 0 t.erases b < SMap.get 0 t.erases c then some b else some c) none

/-- Pages for a unit on a tray: in the open block while they fit, else in a free block; none when no block is free. -/
def State.flashAlloc (s : State) (p : Nat) : Option (Nat × State) :=
  match s.tier.trays.find p with
  | none => none
  | some t =>
    let n := t.unitPages
    let fits := match t.open_ with
      | some (_, next) => decide (next + n ≤ t.ppb)
      | none => false
    match t.open_, fits with
    | some (b, next), true => some (b * t.blockSize + next * t.pagesz, s.setTray p { t with open_ := some (b, next + n) })
    | _, _ => t.freeBlock.map fun b =>
        (b * t.blockSize, s.setTray p { t with open_ := some (b, n), used := t.used ++ [b] })

/-! ### Relocation and wear (R268, R270) -/

/-- A relocation of a unit begins: garbage collection, wear levelling or read-disturb refresh. -/
def State.moveStart (s : State) (u : Nat) : State :=
  if s.tier.moving.contains u then s
  else
    let s : State := { s with tier := { s.tier with moving := s.tier.moving ++ [u] } }
    if !s.onFlash (65536 * u) then s
    else
      let (id, s) := s.freshId
      s.ftlStart { id := id, op := id, off := 65536 * u, write := false, data := [], len := 65536, heldFor := s.ftlHold u,
                   stroke := s.time.stroke, tray := s.ftlTarget u, move := true }

/-- Units that lie in a block of a tray. -/
def State.unitsIn (s : State) (p b size : Nat) : List Nat :=
  s.tier.located.filterMap fun e => if e.2.1 = p ∧ e.2.2 / size = b then some e.1 else none

/-- A read of a block counts; the block is rewritten at 75 % of the tray's rated reads (Table 8.10). -/
def State.blockRead (s : State) (p addr : Nat) : State :=
  match s.tier.trays.find p with
  | none => s
  | some t =>
    let b := addr / t.blockSize
    let n := SMap.get 0 t.reads b + 1
    let s := s.setTray p { t with reads := t.reads.insert b n }
    if t.ratedReads = 0 ∨ 100 * n < 75 * t.ratedReads then s else forEach (s.unitsIn p b t.blockSize) (fun u s => s.moveStart u) s

/-- FL_READ of flash bytes: within one page, at most 4,096 (R354). -/
def State.flashRead (s : State) (p : Nat) (t : Tenant) (kind : FwdKind) (addr n : Nat) : State :=
  (s.flashAsk p t kind 0x21 addr n).blockRead p addr

/-- Garbage collection of a tray erases its blocks that hold no unit; a block that erasing would take more than 256 erases beyond the
least erased one waits, and the units of the least erased blocks move (Table 8.10). -/
def State.collect (s : State) (p : Nat) : State :=
  match s.tier.trays.find p with
  | none => s
  | some t =>
    let live := (s.liveUnits p).map fun a => a / t.blockSize
    let isOpen (b : Nat) : Bool := match t.open_ with
      | some (c, _) => c == b
      | none => false
    let dead := t.used.filter fun b => !live.contains b && !isOpen b && !t.erasing.contains b
    let worn (b : Nat) : Bool := decide (t.leastErased + 256 < SMap.get 0 t.erases b + 1)
    let go := dead.filter fun b => !worn b
    let s := s.setTray p { t with erasing := t.erasing ++ go }
    let s := go.foldl (fun s b => s.flashAsk p 0 (.flashErase b) 0x23 (b * t.blockSize) 0) s
    if dead.all (fun b => !worn b) then s
    else
      let least := t.used.filter fun b => SMap.get 0 t.erases b == t.leastErased
      forEach (least.flatMap fun b => s.unitsIn p b t.blockSize) (fun u s => s.moveStart u) s

/-- The answer to FL_ERASE: the block is free, with one erase more and no reads. -/
def State.eraseAnswer (s : State) (p b : Nat) (st : Status) : State :=
  match s.tier.trays.find p with
  | none => s
  | some t =>
    let t := { t with erasing := t.erasing.filter (· != b) }
    s.setTray p (if st = .ok then
      { t with used := t.used.filter (· != b), erases := t.erases.insert b (SMap.get 0 t.erases b + 1), reads := t.reads.erase b }
      else t)

/-! ### Reads and writes -/

/-- Bytes that an operation reads, with the earlier writes of the FTL that are still under way (R276). -/
def State.ftlOverlay (s : State) (f : FtlOp) (data : List Byte) : List Byte :=
  (s.tier.ftl.filter fun (g : FtlOp) => g.write && decide (g.id < f.id)).foldl (fun bs g =>
    (List.range bs.length).zip bs |>.map fun (i, b) =>
      let a := f.off + i
      if g.off ≤ a ∧ a < g.off + g.len then g.data.getD (a - g.off) 0 else b) data

/-- A read is answered. -/
def State.ftlReadEnd (s : State) (f : FtlOp) (data : List Byte) : State :=
  let data := s.ftlOverlay f data
  let s := s.dropFtl f.id
  match s.findOp f.op with
  | some o => s.endOp o .ok data
  | none => s.engAnswer f.op f.unit false .ok data

/-- The whole unit of an operation, merged with its bytes, is programmed at a new place (R267); with no block free it waits for garbage
collection (R269). -/
def State.ftlProgram (s : State) (f : FtlOp) (image : List Byte) : State :=
  let u := f.off / 65536
  match s.flashAlloc f.tray with
  | none => s.setFtl { f with heldFor := some f.tray, reads := 0, parts := [] }
  | some (addr, s) =>
    let at_ := f.off % 65536
    let (s, f) : State × FtlOp := match s.findOp f.op with
      | some o => (match o.req.kind with
        | .atomic op =>
          let v := sub image at_ f.len
          (s.setOp { o with data := v }, { f with data := leBytes (opWidth o.req.r) (atomicAfter op (leNat v) [o.req.r]) })
        | _ => (s, f))
      | none => (s, f)
    let new := if f.move then image else patch image at_ f.data
    let size := ((s.tier.trays.find f.tray).map fun t => t.pagesz).getD 4096
    let t := s.coldOwner u
    let s := s.setFtl { f with at_ := some addr, reads := 0, parts := [], progs := 65536 / size }
    (List.range (65536 / size)).foldl (fun s i =>
      let page := s.coldCipher true (65536 * u + size * i) (sub new (size * i) size)
      s.flashProgram f.tray t (.ftl f.id i) (addr + size * i) page) s

/-- An operation goes on that nothing holds (R264, R267): a read asks the tray for the lines it lies in, a write or relocation for the
unit, in frames of 4,096 bytes. A unit that has no place on flash is what the FTL holds of it (R265). -/
def State.ftlGo (s : State) (id : Nat) : State :=
  match s.ftlOp id with
  | none => s
  | some f =>
    let u := f.off / 65536
    let t := s.coldOwner u
    if f.heldFor.isSome then s
    else match s.tier.located.find u with
      | some (p, a) =>
        if f.write || f.move then
          if s.flashTrays.isEmpty then s
          else
            let s := s.setFtl { f with reads := 16, parts := [] }
            (List.range 16).foldl (fun s i => s.flashRead p t (.ftl id i) (a + 4096 * i) 4096) s
        else
          let lo := f.off / 128 * 128
          (s.setFtl { f with reads := 1 }).flashRead p t (.ftl id 0) (a + lo % 65536) ((f.off + f.len + 127) / 128 * 128 - lo)
      | none =>
        if f.move then (s.dropFtl id : State)
        else if !f.write then s.ftlReadEnd f (s.coldRead f.off f.len)
        else if s.flashTrays.isEmpty then s
        else s.ftlProgram f ((List.range 65536).map fun i => SMap.get 0 s.tier.cold (65536 * u + i))

/-- The data and the journal record of a write or relocation are on flash (R266 to R268): the mapping is the new place, a relocation of
the unit ends, the write is acknowledged. -/
def State.ftlDone (s : State) (f : FtlOp) : State :=
  let units := if f.move then [f.off / 65536] else
    (List.range (f.len / 65536 + 2)).map (fun i => f.off / 65536 + i) |>.filter (fun u => decide (65536 * u < f.off + f.len))
  let s : State := { s with tier := { s.tier with
      cold := (writesAt f.off f.data).foldl (fun (m : SMap Byte) (e : Nat × Byte) => SMap.set 0 m e.1 e.2) s.tier.cold,
      mapped := units.foldl (fun m u => m.insert u s.tier.journal) s.tier.mapped,
      located := units.foldl (fun m u => match f.at_ with
        | some a => m.insert u (f.tray, a)
        | none => m.erase u) s.tier.located,
      journal := s.tier.journal + 1,
      moving := s.tier.moving.filter (fun u => !units.contains u),
      ftl := s.tier.ftl.filter fun (g : FtlOp) => !(g.move && units.contains (g.off / 65536)) || g.id == f.id } }
  if f.move then s.dropFtl f.id else s.ftlEnd f .ok

/-- A tray's answer to a frame or page of an operation (R354). A failure ends a write or read with its status, and a relocation without
effect (assumption 95). -/
def State.ftlAnswer (s : State) (id part : Nat) (st : Status) (data : List Byte) : State :=
  match s.ftlOp id with
  | none => s
  | some f =>
    if st ≠ .ok then
      if f.move then
        ({ s with tier := { s.tier with moving := s.tier.moving.filter (· != f.off / 65536) } } : State).dropFtl id
      else s.ftlEnd f st
    else if 0 < f.reads then
      let whole := f.write || f.move
      let lo := if whole then f.off / 65536 * 65536 + 4096 * part else f.off / 128 * 128
      let f := { f with reads := f.reads - 1, parts := f.parts.insert part (s.coldCipher false lo data) }
      let s := s.setFtl f
      if f.reads ≠ 0 then s
      else
        let bs := f.parts.flatMap fun e => e.2
        if whole then s.ftlProgram f (padTo 65536 bs) else s.ftlReadEnd f (sub bs (f.off - lo) f.len)
    else
      let f := { f with progs := f.progs - 1 }
      if f.progs = 0 ∧ f.journalled = true then s.ftlDone f else s.setFtl f

/-- The journal record of a write or relocation is on flash: it is done once the data are too. -/
def State.ftlJournal (s : State) (f : FtlOp) : State :=
  if f.reads = 0 ∧ f.progs = 0 then s.ftlDone f else s.setFtl { f with journalled := true }

/-- A Cold write and the journal record of its mapping are on flash (R266). A held write stays held (R269). -/
def State.ftlAck (s : State) (id : Nat) : State :=
  match s.ftlOp id with
  | none => s
  | some f => if f.heldFor.isSome || !f.write then s else s.ftlJournal f

/-- Held Cold writes whose timeout has come (R269); DEDUCED (log entry 62): the timeout is LMT_TMO's DOMAIN, as of a tray
forward. -/
def State.coldTimeouts (s : State) : State :=
  forEach (s.tier.ftl.filter fun (f : FtlOp) =>
    f.write && f.heldFor.isSome && decide (f.stroke + s.rf .lmtTmo 15 0 ≤ s.time.stroke)) (fun f s => s.ftlEnd f .timeout) s

/-- A relocation starts, or its new mapping is journalled (R268). -/
def State.ftlRelocate (s : State) (u : Nat) : State :=
  if (s.tier.mapped.find u).isNone then s
  else if s.tier.moving.contains u then
    match s.tier.ftl.find? fun (f : FtlOp) => f.move && f.off / 65536 == u with
    | some f => s.ftlJournal f
    | none =>
      { s with tier := { s.tier with moving := s.tier.moving.filter (· != u), mapped := s.tier.mapped.insert u s.tier.journal,
                                     journal := s.tier.journal + 1 } }
  else s.moveStart u

/-- Free blocks of a tray against the thresholds of Table 8.10 (R269). -/
def State.ftlFree (s : State) (tray : Port) (free blocks : Nat) : State :=
  let gc := decide (100 * free < 2 * blocks)
  let low := decide (1000 * free < 5 * blocks)
  let s := if gc && !s.tier.collecting.contains tray then
      s.trace 9 3 0x3001 [tray.toNat, 1000 * free / max 1 blocks] else s
  let coll := s.tier.collecting.filter (· != tray)
  let starved := s.tier.starved.filter (· != tray)
  let freed := if low then [] else s.tier.ftl.filter fun (f : FtlOp) => f.heldFor == some tray.toNat
  let s : State := { s with tier := { s.tier with
      collecting := if gc then coll ++ [tray] else coll,
      starved := if low then starved ++ [tray] else starved,
      ftl := if low then s.tier.ftl else s.tier.ftl.map fun (f : FtlOp) =>
        if f.heldFor = some tray.toNat then { f with heldFor := none } else f } }
  let s := freed.foldl (fun s (f : FtlOp) => s.after s.now (.ftlGo f.id)) s
  if gc then s.collect tray.toNat else s

/-! ### Rows -/

/-- FTL_WRITE_ACK (R266). -/
def execFtlWriteAck (op : Nat) (s : State) : Host.Outcome State Fault Refusal := .next (s.ftlAck op)

/-- FTL_RELOCATION (R268). -/
def execFtlRelocation (u : BitVec 34) (s : State) : Host.Outcome State Fault Refusal := .next (s.ftlRelocate u.toNat)

/-- FTL_GARBAGE_COLLECTION (R269). -/
def execFtlGarbageCollection (tray : Port) (free blocks : BitVec 32) (s : State) : Host.Outcome State Fault Refusal :=
  .next (s.ftlFree tray free.toNat blocks.toNat)

end Sys2Proof.Machine
end

