-- ==== Sys2Proof/Machine/Trays.lean ====
section
/-! DEFINITION. Answers of trays to what the device forwarded, and forwards that get none (R344, R349, R352, R353). -/

namespace Sys2Proof.Machine

/-- The forward that awaits an answer with this tenant and OPID: OPIDs are counted per wire key (R417). -/
def State.fwdOf (s : State) (t : Tenant) (opid : Word) : Option Fwd :=
  s.lane.fwd.find? fun (w : Fwd) => w.tenant == t && w.opid == opid

/-- One answer of a forward has come, or none will: it is freed with its last piece. -/
def State.fwdTake (s : State) (w : Fwd) (all : Bool) : State :=
  let last := all || decide (w.pieces ≤ 1)
  let fwd := if last then (s.lane.fwd.filter (fun (x : Fwd) => x.id != w.id))
    else s.lane.fwd.map (fun (x : Fwd) => if x.id = w.id then { x with pieces := x.pieces - 1 } else x)
  let s := { s with lane := { s.lane with fwd := fwd } }
  if last then { s with net := { s.net with governed := s.net.governed.erase (governedKey w.tenant w.opid) } } else s

/-- A status and data come to whatever the forward was for: a requester (R352), a page of a far-cached extent (R252, R256), the
flash translation layer, an engine (R141). `left` answers of the forward are still to come. Data are decrypted under
their tray address (R415). -/
def State.fwdAnswer (s : State) (w : Fwd) (addr left : Nat) (st : Status) (data : List Byte) : State :=
  let clear := xtsRun false (s.slot (memSlot w.owner)).key addr data
  match w.kind with
  | .request op =>
    match s.findOp op with
    | some o =>
      let x := o.ext.map fun e => e.1
      let s := s.trayAnswer op st.code clear
      match x with
      | some x => s.fillPump x
      | none => s
    | none => s
  | .fill x p => s.pageAnswer x p addr left false st clear
  | .flush x p => s.pageAnswer x p addr left true st clear
  | .ftl op part => s.ftlAnswer op part st data
  | .flashErase b => s.eraseAnswer w.port.toNat b st
  | .flashIdent => s.identAnswer w.port.toNat st data
  | .engine op unit write => s.engAnswer op unit write st clear

/-- A tray's response has arrived (R352). One whose OPID matches no forward is late (R349). A status that is not a code of Table
0.4 is taken as TIMEOUT. -/
def State.trayResponse (s : State) (r : TrayResp) : State :=
  let s := s.governedReply r.tenant r.opid r.ece
  match s.fwdOf r.tenant r.opid with
  | none => s.bump .lmtLate
  | some w =>
    let st := (Status.ofCode r.status.toNat).getD .timeout
    (s.fwdTake w false).fwdAnswer w r.addr.toNat (w.pieces - 1) st (if st = .ok ∨ st = .versionConflict then r.data else [])

/-- A forward has had no answer within DOMAIN strokes: TIMEOUT, counted in LMT_TMOCNT (R349). -/
def State.fwdTimeout (s : State) (w : Fwd) : State :=
  ((s.fwdTake w true).bump .lmtTmocnt).fwdAnswer w 0 0 .timeout []

/-- The frame of a forward has left its queues: its wait has begun (R349). -/
def State.fwdLeft (s : State) (w : Fwd) : Bool :=
  let carries (f : Frame) : Bool := f.port == w.port && (match f.body with
    | .lmt m => !m.rsp && m.tenant == w.tenant && m.opid == w.opid
    | _ => false)
  !(s.net.pacing.any (fun x => carries x.2) || s.net.planned.any (fun e => e.2.any carries) ||
    s.net.node.any (fun e => e.2.any carries) || s.net.svc.any (fun e => e.2.any carries) ||
    s.timed.any (fun e => match e.2 with
      | .frame f => carries f
      | _ => false))

/-- Forwards whose domain timeout has come (R348, R349). -/
def State.fwdTimeouts (s : State) : State :=
  forEach (s.lane.fwd.filter fun (w : Fwd) =>
    decide (w.stroke + s.rf .lmtTmo 15 0 ≤ s.time.stroke) && s.fwdLeft w) (fun w s => s.fwdTimeout w) s

/-- TRAY_RESPONSE (R352). -/
def execTrayResponse (r : TrayResp) (s : State) : Host.Outcome State Fault Refusal := .next (s.trayResponse r)

end Sys2Proof.Machine
end

