-- ==== Sys2Proof/Machine/Security.lean ====
section
/-! DEFINITION. Tenants, key slots and the grant table (R446 to R454, R457 to R461, R465 to R468, R492, R493, R588), and the
messages that load keys (R450, R451). -/

namespace Sys2Proof.Machine

/-! ### Planned states (R588) -/

/-- The state of a tenant once every accepted command has taken effect. -/
def State.plannedTenant (s : State) (t : Tenant) : TenSt :=
  s.due.foldl (fun st d => match d.2 with
    | .tenantCreate u _ => if u = t then .active else st
    | .tenantRemove u => if u = t then .retiring else st
    | _ => st) (s.tenant t).st

/-- The key server digest of a tenant once every accepted command has taken effect. -/
def State.plannedServer (s : State) (t : Tenant) : BitVec 384 :=
  s.due.foldl (fun h d => match d.2 with
    | .tenantCreate u k => if u = t then k else h
    | _ => h) (s.tenant t).kshash

/-- The state of a key slot once every accepted command has taken effect. -/
def State.plannedSlot (s : State) (i : Nat) : SlotSt :=
  s.due.foldl (fun st d => match d.2 with
    | .tenantRemove u => if i / 4 = u.toNat ∧ (st = .loaded ∨ st = .suspended) then .retiring else st
    | .keyRotate u => if i = spareSlot u then .retiring else st
    | .tenantReset u => if i = weightSlot u ∧ st = .loaded then .suspended else st
    | _ => st) (s.slot i).st

def Grant.live (g : Grant) : Bool := g.st == .active || g.st == .zeroing

def Grant.plan (i : Nat) (g : Grant) (d : Due) : Grant :=
  match d with
  | .grantSet h e => if h = i then { e with st := if e.owner then .zeroing else .active } else g
  | .grantRevoke h => if h = i ∧ g.live = true then { g with st := .revoking } else g
  | .tenantRemove u => if g.tenant = u ∧ g.live = true then { g with st := .revoking } else g
  | _ => g

/-- A grant entry once every accepted command has taken effect. -/
def State.plannedGrant (s : State) (i : Nat) : Grant := s.due.foldl (fun g d => g.plan i d.2) (s.grant i)

/-- Numbers of the entries that are not FREE, or that an accepted GRANT_SET will fill. -/
def State.grantNumbers (s : State) : List Nat :=
  (s.sec.grants.map fun e => e.1) ++ s.due.filterMap fun d => match d.2 with
    | .grantSet h _ => some h
    | _ => none

/-! ### Epochs (R448, R467) -/

/-- The tenant block of a tenant has changed (R445): sessions' measurements are stale (R451), and a LOADED weight slot is
SUSPENDED (Table 15.7). -/
def State.blockChanged (s : State) (t : Tenant) : State :=
  let fade (_ : Nat) (x : Session) : Session := if x.fresh = some t then { x with fresh := none } else x
  let s : State := { s with sec := { s.sec with sessions := s.sec.sessions.mapVal fade } }
  if s.loaded (weightSlot t) then s.setSlot (weightSlot t) { s.slot (weightSlot t) with st := .suspended } else s

/-- Old writes of a tenant whose HBM4 access stage has not begun are not performed (Table 15.11). -/
def State.dropOldWrites (s : State) (t : Tenant) (epoch : BitVec 16) : State :=
  let old (w : WBuf) : Bool := w.tenant == t && w.epoch == epoch && w.stage != 0 && decide (s.now ≤ w.stage)
  let lines := (s.mem.wbuf.filter old).flatMap fun (w : WBuf) => (w.writes.head?.map fun e => e.1 / 128).toList
  let s := { s with mem := { s.mem with wbuf := s.mem.wbuf.filter fun w => !old w } }
  forEach lines (fun l s => s.cacheDrop l) s

/-- A tenant's epoch advances (R448): old operations are stopped at their next check point (R467), OPEN contexts fail. -/
def State.epochAdvance (s : State) (t : Tenant) : State :=
  let x := s.tenant t
  let s := s.setTenant t { x with epoch := x.epoch + 1 }
  ((s.dropOldWrites t x.epoch).ctxFailTenant t).blockChanged t

def State.tenantCreate (s : State) (t : Tenant) (hash : BitVec 384) : State :=
  let s := s.setTenant t { s.tenant t with st := .active, kshash := hash }
  s.epochAdvance t

/-! ### Clearing what a range held (R465, R466) -/

/-- A zero-fill or scrub pass over near-tier and scratchpad bytes is complete. -/
def State.eraseRange (s : State) (lo hi : Nat) : State :=
  let inside (a : Nat) : Bool := decide (lo ≤ a ∧ a < hi)
  { s with mem := { s.mem with
      bytes := s.mem.bytes.keep fun a _ => !inside a,
      uncorr := s.mem.uncorr.keep (fun w _ => !inside (4 * w)), soft := s.mem.soft.keep fun w _ => !inside (4 * w),
      scache := s.mem.scache.keep fun l _ => !inside (128 * l),
      wbuf := s.mem.wbuf.map fun w => { w with writes := w.writes.filter fun e => !inside e.1 } } }

/-- COLD_DISCARD over the Cold extents in a range (R466). -/
def State.coldDiscardRange (s : State) (lo hi : Nat) : State :=
  forEach (s.tier.ext.filter fun e => e.2.form == 3 && decide (lo ≤ e.2.vbase ∧ e.2.vbase < hi)) (fun e s =>
    let a := e.2.target
    let b := a + e.2.len * 2 ^ 21
    { s with tier := { s.tier with
        cold := s.tier.cold.keep fun x _ => !decide (a ≤ x ∧ x < b),
        mapped := s.tier.mapped.keep (fun u _ => !decide (a / 65536 ≤ u ∧ u < b / 65536)),
        located := s.tier.located.keep fun u _ => !decide (a / 65536 ≤ u ∧ u < b / 65536) } }) s

/-- The registers of one kind that hold a written value, as (unit, i, j). -/
def State.instances (s : State) (r : Reg) : List RegRef :=
  s.regs.filterMap fun e =>
    match blockOf e.1 with
    | none => none
    | some (b, u, off) =>
      if r.spec.blk = b then
        match r.spec.indexAt off with
        | some (i, j) => some ⟨r, u, i, j⟩
        | none => none
      else none

/-- Firmware unloads a segment: its removal is latched (R102, R466). -/
def State.segUnloadLatch (s : State) (no : SegNo) : State :=
  match s.segment no with
  | some g => if g.unloading then s
    else (s.updSegment no fun g => { g with unloading := true }).latchNext (.segRemove no)
  | none => s

/-- What firmware does for a removed tenant (R466), but for the scrubs of its granules. -/
def State.removalCleanup (s : State) (t : Tenant) : State :=
  let s := forEach (s.sec.grants.filter fun e => e.2.owner && e.2.tenant == t) (fun e s =>
    s.coldDiscardRange e.2.base (e.2.base + e.2.len * 2 ^ 21)) s
  let s := { s with tier := { s.tier with bases := s.tier.bases.keep fun _ b => b.tenant != t } }
  let s := forEach (s.seg.filter fun e => e.2.image.tenant == t) (fun e s => s.segUnloadLatch e.2.image.no) s
  let s := forEach (s.instances .scdActrcfg) (fun r s =>
    if s.rf .scdActrcfg 9 0 r.unit r.i = t.toNat then
      (s.wv .scdActrcfg 0 r.unit r.i).setCtr (BitVec.ofNat 5 r.unit) (BitVec.ofNat 9 r.i) 0
    else s) s
  forEach (s.instances .scdRcxOwn) (fun r s =>
    if s.rcxTenant (BitVec.ofNat 5 r.unit) r.i = t then
      (s.wf .scdRcxCfg 31 30 0 r.unit r.i).setCtx (BitVec.ofNat 5 r.unit) r.i CtxSt.fresh
    else s) s

/-! ### Removal of a tenant -/

def State.slotsOf (_ : State) (t : Tenant) : List Nat := [memSlot t, wireSlot t, weightSlot t, spareSlot t]

/-- A RETIRING tenant whose slots are EMPTY: the cleanup when no entry is REVOKING, and FREE when every entry is FREE (Table
15.5, R466). -/
def State.tenantTryFree (s : State) (t : Tenant) : State :=
  if (s.tenant t).st ≠ .retiring ∨ (s.slotsOf t).any (fun i => (s.slot i).st != .empty) = true then s
  else
    let es := s.sec.grants.filter fun e => e.2.tenant == t
    if es.any (fun e => e.2.st == .revoking) then s
    else
      let s := s.removalCleanup t
      if !es.isEmpty then s
      else
        let s := s.setTenant t { s.tenant t with st := .free }
        let cmds := s.sec.removals.filterMap fun r => if r.1 = t then r.2 else none
        let s := { s with sec := { s.sec with removals := s.sec.removals.filter fun r => r.1 != t } }
        forEach cmds (fun r s => s.complete r .ok) s

/-- TENANT_REMOVE takes effect (Table 15.5). -/
def State.tenantRemove (s : State) (t : Tenant) : State :=
  let s := s.epochAdvance t
  let s := s.setTenant t { s.tenant t with st := .retiring }
  let s := forEach (s.slotsOf t) (fun i s =>
    let k := s.slot i
    if k.st = .loaded ∨ k.st = .suspended then
      s.setSlot i { k with st := .retiring, zeros := 0, fromStroke := s.time.stroke, removal := true }
    else s) s
  let mine := s.sec.grants.filter fun e => e.2.tenant == t && e.2.live
  let s := forEach mine (fun e s => (s.setGrant e.1 { e.2 with st := .revoking, revokeAt := s.time.stroke }).grantSettle e.1) s
  s.tenantTryFree t

/-- A tenant reset takes effect: its epoch advances (R448). -/
def State.tenantReset (s : State) (t : Tenant) : State := s.epochAdvance t

/-! ### Key slots -/

/-- KEY_ROTATE takes effect (R454). -/
def State.keyRotate (s : State) (t : Tenant) : State :=
  let w := s.slot (wireSlot t)
  let n := s.slot (spareSlot t)
  let s := s.setSlot (wireSlot t) { n with st := .loaded, role := 1 }
  let s := s.setSlot (spareSlot t) { w with
    st := .retiring, zeros := 0, removal := false, fromStroke := s.time.stroke + s.rf .lmtTmo 31 16 }
  { s with net := { s.net with opid := s.net.opid.erase t.toNat } }

/-- A RETIRING slot has drained (Table 15.7). When the last slot that a removal retires is SCRUBBING, the cleanup begins (R466). -/
def State.slotDrained (s : State) (i : Nat) : State :=
  let k := s.slot i
  if k.st ≠ .retiring ∨ s.rotHeld = true then s
  else
    let s := s.setSlot i { k with st := .scrubbing }
    let t : Tenant := BitVec.ofNat 10 (i / 4)
    if k.removal && !(s.slotsOf t).any (fun j => (s.slot j).st == .retiring && (s.slot j).removal) then s.removalCleanup t
    else s

/-- A SCRUBBING slot becomes EMPTY: its key is zeroised; for a removal the scrubs of the tenant's OWNER entries are complete. -/
def State.slotScrubbed (s : State) (i : Nat) : State :=
  let k := s.slot i
  let t : Tenant := BitVec.ofNat 10 (i / 4)
  let owned := s.sec.grants.any fun e => e.2.tenant == t && e.2.owner && (e.2.st == .revoking || e.2.st == .scrubbing)
  if k.st ≠ .scrubbing ∨ s.rotHeld = true ∨ (k.removal && owned) = true then s
  else (s.setSlot i KeySlot.fresh).tenantTryFree t

/-! ### Grant entries -/

/-- The entry of 32 bytes (Table 15.8). -/
def grantOf (b : List Byte) : Grant :=
  { base := leAt b 0 8, len := leAt b 8 4, tenant := BitVec.ofNat 10 (leAt b 12 2), reqid := BitVec.ofNat 16 (leAt b 14 2),
    reqmask := BitVec.ofNat 16 (leAt b 16 2), rights := BitVec.ofNat 8 (leAt b 18 1), st := .free,
    rkey := BitVec.ofNat 32 (leAt b 20 4), inflight := 0, revokeAt := 0, revokers := [] }

def GrantSt.code : GrantSt → Nat
  | .free => 0
  | .zeroing => 1
  | .active => 2
  | .revoking => 3
  | .scrubbing => 4

def Grant.bytes (g : Grant) : List Byte :=
  leBytes 8 g.base ++ leBytes 4 g.len ++ leBytes 2 g.tenant.toNat ++ leBytes 2 g.reqid.toNat ++ leBytes 2 g.reqmask.toNat ++
    leBytes 1 g.rights.toNat ++ leBytes 1 g.st.code ++ leBytes 4 g.rkey.toNat ++ leBytes 4 g.inflight ++ leBytes 4 0

/-- The bytes keep to Table 15.8. -/
def grantForm (b : List Byte) : Bool :=
  let base := leAt b 0 8
  base % 2 ^ 21 == 0 && decide (base < 2 ^ 57) && leAt b 8 4 != 0 && decide (leAt b 12 2 < 1024) && decide (leAt b 18 1 < 64) &&
  leAt b 19 1 == 0 && leAt b 24 4 == 0 && leAt b 28 4 == 0

def Grant.top (g : Grant) : Nat := g.base + g.len * 2 ^ 21

def Grant.overlaps (g h : Grant) : Bool := decide (g.base < h.top ∧ h.base < g.top)

/-- A range lies in the mapped 24 MiB of one scratchpad window. -/
def inScratch (lo hi : Nat) : Bool := (List.range 32).any fun k => inWindow (BitVec.ofNat 5 k) lo (hi - lo)

/-- A range lies in user near, the mapped window and the mapped parts of the scratchpad windows (R461). -/
def State.grantable (s : State) (lo hi : Nat) : Bool :=
  s.inUserNear lo (hi - lo) || decide (0x020000000000000 ≤ lo ∧ hi ≤ scratchBase + 0x1800000) || inScratch lo hi

/-- The conditions under which GRANT_SET is refused with FORMAT_UNSUPPORTED (R461). -/
def State.grantBad (s : State) (i : Nat) (b : List Byte) : Bool :=
  let g := grantOf b
  let others := (s.grantNumbers.map s.plannedGrant).filter fun h => h.st != .free && h.overlaps g
  (s.plannedGrant i).st != .free || !grantForm b || !s.grantable g.base g.top ||
  (g.owner && (others.any Grant.owner || s.plannedSlot (memSlot g.tenant) != .loaded)) ||
  (g.right 4 && (!g.owner || !(s.inUserNear g.base (g.top - g.base) || inScratch g.base g.top))) ||
  others.any (fun h => h.tenant != g.tenant && (g.right 4 || (h.right 4 && h.owner)))

/-- GRANT_SET takes effect (Table 15.10). -/
def State.grantApply (s : State) (i : Nat) (g : Grant) : State :=
  s.setGrant i { g with st := if g.owner then .zeroing else .active, revokeAt := s.time.stroke }

/-- GRANT_REVOKE takes effect (Table 15.10). -/
def State.grantRevoke (s : State) (i : Nat) : State :=
  let g := s.grant i
  if g.live then (s.setGrant i { g with st := .revoking, revokeAt := s.time.stroke }).grantSettle i else s

/-- A zero-fill pass is complete: the entry is ACTIVE (R465). -/
def State.zeroFilled (s : State) (i : Nat) : State :=
  let g := s.grant i
  if g.st ≠ .zeroing then s else (s.eraseRange g.base g.top).setGrant i { g with st := .active }

/-- A scrub pass is complete: the entry is FREE (R465). -/
def State.grantScrubbed (s : State) (i : Nat) : State :=
  let g := s.grant i
  if g.st ≠ .scrubbing ∨ s.rotHeld = true then s
  else
    let s := if (s.tenant g.tenant).st = .retiring then s.coldDiscardRange g.base g.top else s
    ((s.eraseRange g.base g.top).setGrant i Grant.fresh).tenantTryFree g.tenant

/-! ### Revoke timeout (R493) -/

/-- An engine operation is cut off: it reports a status, sends nothing more and leaves; what it held proceeds. -/
def State.engCut (s : State) (id : Nat) (st : Status) : State :=
  match s.eng_ id with
  | none => s
  | some o =>
    let held := (s.eng.ops.filter fun (x : EngOp) => x.holders.contains id).map fun (x : EngOp) => x.id
    let mine (w : Fwd) : Bool := match w.kind with
      | .engine op _ _ => op == id
      | _ => false
    let s := { s with lane := { s.lane with fwd := s.lane.fwd.filter fun w => !mine w } }
    let s := ((s.engInval o).engReport o st).engLeave o
    forEach held (fun h s => s.engTry h) s

/-- A lane operation is cut off: its forward, its buffered write and its flash operation end with it. -/
def State.opCut (s : State) (o : LaneOp) (st : Status) : State :=
  let mine (w : Fwd) : Bool := match w.kind with
    | .request op => op == o.id
    | .ftl op _ => op == o.id
    | _ => false
  let s := { s with lane := { s.lane with fwd := s.lane.fwd.filter fun w => !mine w },
                    mem := { s.mem with wbuf := s.mem.wbuf.filter fun w => w.id != o.id },
                    tier := { s.tier with ftl := s.tier.ftl.filter fun (f : FtlOp) => f.op != o.id } }
  s.endOp o st []

/-- Every operation counted on an entry completes with TIMEOUT, and the entry leaves REVOKING (R493). -/
def State.revokeExpire (s : State) (g : Nat) : State :=
  if (s.grant g).st ≠ .revoking ∨ s.rotHeld = true then s
  else
    let hit (f : Req × Option Nat × Nat) : Bool := f.2.1 == some g
    let late := s.lane.ops.flatMap fun (o : LaneOp) => (o.followers.filter hit).map fun f => (o.k, f)
    let s : State := { s with lane := { s.lane with ops := s.lane.ops.map fun (o : LaneOp) =>
        { o with followers := o.followers.filter fun f => !hit f } } }
    let s := forEach late (fun f s => s.answer f.1 f.2.1 (some g) .timeout) s
    let s := forEach (s.lane.ops.filter fun (o : LaneOp) => o.grant == some g) (fun o s => s.opCut o .timeout) s
    let s := forEach (s.coh.txns.filter fun (t : Txn) => t.grantIx == some g && t.req.isSome) (fun t s =>
      let s := s.endWaiting t
      s.setTxn { t with req := none, grantIx := none, met := t.met ++ [.timeout], need := false }) s
    let looking := s.timed.filterMap fun e => match e.2 with
      | .lookup k x => if x.grant = some g then some (k, x) else none
      | _ => none
    let s := { s with timed := s.timed.filter fun e => match e.2 with
      | .lookup _ x => x.grant != some g
      | _ => true }
    let s := forEach looking (fun x s => s.answer x.1 x.2.req (some g) .timeout) s
    let s := forEach (s.eng.ops.filter fun (o : EngOp) => o.grants.contains g) (fun o s => s.engCut o.id .timeout) s
    (s.setGrant g { s.grant g with inflight := 0 }).grantSettle g

/-- REVOKING entries whose revoke timeout has come: DOMAIN + 2 strokes after the revoke took effect (R493). -/
def State.revokeTimeouts (s : State) : State :=
  forEach (s.sec.grants.filter fun e => e.2.st == .revoking &&
    decide (e.2.revokeAt + s.rf .lmtTmo 15 0 + 2 ≤ s.time.stroke)) (fun e s => s.revokeExpire e.1) s

/-! ### Commands of the root of trust -/

def argTenant (c : Cmd) : Tenant := BitVec.ofNat 10 (bits c.arg0.toNat 9 0)

/-- TENANT_CREATE (R447, R588). -/
def State.cmdTenantCreate (s : State) (c : Cmd) : State :=
  s.command c 0x30 48 fun r s =>
    let t := argTenant c
    if s.plannedTenant t ≠ .free then s.complete r .formatUnsupported
    else (s.latchNext (.tenantCreate t (BitVec.ofNat 384 (beNat (s.cmdBuf c 48))))).complete r .ok

/-- TENANT_REMOVE (R447, R501, R588): it completes when the tenant is FREE. -/
def State.cmdTenantRemove (s : State) (c : Cmd) : State :=
  s.command c 0x31 0 fun r s =>
    let t := argTenant c
    if t = 0 then s.complete r .formatUnsupported
    else if s.plannedTenant t ≠ .active then s.complete r .tenantGone
    else
      let s := s.latchNext (.tenantRemove t)
      { s with sec := { s.sec with removals := s.sec.removals ++ [(t, some r)] } }

/-- KEY_ROTATE (R454). -/
def State.cmdKeyRotate (s : State) (c : Cmd) : State :=
  s.command c 0x32 0 fun r s =>
    let t := argTenant c
    if s.plannedSlot (wireSlot t) ≠ .loaded ∨ s.plannedSlot (spareSlot t) ≠ .loaded ∨ (s.slot (spareSlot t)).role ≠ 3 then
      s.complete r .formatUnsupported
    else (s.latchNext (.keyRotate t)).complete r .ok

/-- GRANT_SET (R460, R461). -/
def State.cmdGrantSet (s : State) (c : Cmd) : State :=
  s.command c 0x33 32 fun r s =>
    let i := bits c.arg0.toNat 15 0
    let b := s.cmdBuf c 32
    if s.plannedTenant (grantOf b).tenant ≠ .active then s.complete r .tenantGone
    else if s.grantBad i b then s.complete r .formatUnsupported
    else (s.latchNext (.grantSet i (grantOf b))).complete r .ok

/-- GRANT_GET (15_trust_tenants.md, "The grant table"). -/
def State.cmdGrantGet (s : State) (c : Cmd) : State :=
  s.command c 0x34 32 fun r s => (s.ctlStore c.buf.toNat (s.grant (bits c.arg0.toNat 15 0)).bytes).complete r .ok

/-- A revoke command waits on an entry, or on the accepted GRANT_SET that will fill it. -/
def State.addRevoker (s : State) (i : Nat) (r : Running) : State :=
  let pend (d : Nat × Due) : Bool := match d.2 with
    | .grantSet h _ => h == i
    | _ => false
  if s.due.any pend then
    { s with due := s.due.map fun d => match d.2 with
        | .grantSet h e => if h = i then (d.1, .grantSet h { e with revokers := e.revokers ++ [r] }) else d
        | _ => d }
  else s.setGrant i { s.grant i with revokers := (s.grant i).revokers ++ [r] }

/-- GRANT_REVOKE (R460, R492). -/
def State.cmdGrantRevoke (s : State) (c : Cmd) : State :=
  s.command c 0x35 0 fun r s =>
    let i := bits c.arg0.toNat 15 0
    match (s.plannedGrant i).st with
    | .active | .zeroing => (s.latchNext (.grantRevoke i)).addRevoker i r
    | .revoking => s.addRevoker i r
    | .scrubbing => s.complete r .ok (s.grant i).revokeAt
    | .free => s.complete r .formatUnsupported

/-! ### Keys by session (R446, R450, R451) -/

def State.session (s : State) (n : BitVec 3) : Option Session := s.sec.sessions.find n.toNat

/-- The session is bound to a tenant (R446), as the accepted commands leave it (R588, assumption 64). -/
def State.sessionBound (s : State) (n : BitVec 3) (t : Tenant) : Bool :=
  match s.session n with
  | some x => s.plannedTenant t == .active && x.kshash == s.plannedServer t
  | none => false

/-- The session received measurements of the tenant block as it stands (R451). -/
def State.sessionFresh (s : State) (n : BitVec 3) (t : Tenant) : Bool :=
  match s.session n with
  | some x => x.fresh == some t
  | none => false

/-- KEYLOAD (R450 to R452), judged as R588 says: its status, and the state with the key loaded. -/
def State.keyload (s : State) (n : BitVec 3) (b : List Byte) : Status × State :=
  let tn := beAt b 0 2
  let t : Tenant := BitVec.ofNat 10 tn
  let role := beAt b 2 1
  let size := if role = 0 ∨ role = 2 then 64 else 32
  let i := 4 * tn + role
  if 1023 < tn ∨ s.plannedTenant t ≠ .active then (.tenantGone, s)
  else if s.sessionBound n t = false ∨ (role = 2 ∧ s.sessionFresh n t = false) then (.noGrant, s)
  else if 3 < role ∨ beAt b 3 1 ≠ 0 ∨ b.length ≠ 4 + size ∨ s.plannedSlot i ≠ .empty then (.formatUnsupported, s)
  else (.ok, s.setSlot i { KeySlot.fresh with st := .loaded, key := b.drop 4, role := role })

/-- WEIGHT_RESUME (R451, R452), judged as R588 says. -/
def State.weightResume (s : State) (n : BitVec 3) (t : Tenant) : Status × State :=
  let i := weightSlot t
  if s.plannedTenant t ≠ .active then (.tenantGone, s)
  else if s.sessionBound n t = false ∨ s.sessionFresh n t = false then (.noGrant, s)
  else if s.plannedSlot i ≠ .suspended then (.formatUnsupported, s)
  else (.ok, s.setSlot i { s.slot i with st := .loaded })

/-! ### Rows -/

def execTenantCreate (c : Cmd) (s : State) : Host.Outcome State Fault Refusal := .next (s.cmdTenantCreate c)
def execTenantRemove (c : Cmd) (s : State) : Host.Outcome State Fault Refusal := .next (s.cmdTenantRemove c)
def execKeyRotate (c : Cmd) (s : State) : Host.Outcome State Fault Refusal := .next (s.cmdKeyRotate c)
def execGrantSet (c : Cmd) (s : State) : Host.Outcome State Fault Refusal := .next (s.cmdGrantSet c)
def execGrantGet (c : Cmd) (s : State) : Host.Outcome State Fault Refusal := .next (s.cmdGrantGet c)
def execGrantRevoke (c : Cmd) (s : State) : Host.Outcome State Fault Refusal := .next (s.cmdGrantRevoke c)

/-- KEYLOAD (R450); while the root of trust is held it does nothing. -/
def execKeyload (session : BitVec 3) (body : List Byte) (s : State) : Host.Outcome State Fault Refusal :=
  .next (if s.rotHeld then s else (s.keyload session body).2)

/-- WEIGHT_RESUME (R451). -/
def execWeightResume (session : BitVec 3) (t : Tenant) (s : State) : Host.Outcome State Fault Refusal :=
  .next (if s.rotHeld then s else (s.weightResume session t).2)

/-- Whether a latched change advances the epoch of a tenant. -/
def epochDue (t : Tenant) : Due → Bool
  | .tenantCreate u _ => u == t
  | .tenantRemove u => u == t
  | .tenantReset u => u == t
  | _ => false

/-- A latched tenant change takes effect. -/
def State.tenantApply (s : State) (d : Due) : State :=
  match d with
  | .tenantCreate t h => s.tenantCreate t h
  | .tenantRemove t => s.tenantRemove t
  | .tenantReset t => s.tenantReset t
  | _ => s

/-- SLOT_SCRUB_COMPLETE (R466, Table 15.7). -/
def execSlotScrubComplete (k : BitVec 12) (s : State) : Host.Outcome State Fault Refusal := .next (s.slotScrubbed k.toNat)

/-- ZERO_FILL_COMPLETE (R465). -/
def execZeroFillComplete (g : BitVec 16) (s : State) : Host.Outcome State Fault Refusal := .next (s.zeroFilled g.toNat)
/-- GRANT_INFLIGHT_ZERO (Table 15.10). -/
def execGrantInflightZero (g : BitVec 16) (s : State) : Host.Outcome State Fault Refusal :=
  .next ((s.grantSettle g.toNat).tenantTryFree (s.grant g.toNat).tenant)
/-- GRANT_SCRUB_COMPLETE (R465). -/
def execGrantScrubComplete (g : BitVec 16) (s : State) : Host.Outcome State Fault Refusal := .next (s.grantScrubbed g.toNat)

end Sys2Proof.Machine
end

