-- ==== Sys2Proof/Machine/Fabric.lean ====
section
/-! DEFINITION. The fabric protocol: council, manager, proposals and capo points (R475 to R480), the map image (Table 16.3) and
what it binds (R482), loss (R483), the map commands. -/

namespace Sys2Proof.Machine

/-! ### The map image (Table 16.3) -/

def MapDev.bytes (d : MapDev) : List Byte :=
  leBytes 8 d.serial.toNat ++ leBytes 1 d.stage ++ leBytes 1 (b2n d.lost) ++ leBytes 2 0 ++ beBytes 16 d.ip.toNat ++ leBytes 4 0

def MapMem.bytes (m : MapMem) : List Byte :=
  leBytes 2 m.reqid.toNat ++ leBytes 2 m.dev.toNat ++ leBytes 2 m.port.toNat ++ leBytes 2 m.tenant.toNat ++
    leBytes 4 m.comp.toNat ++ leBytes 1 m.role ++ leBytes 1 (b2n m.lost) ++ leBytes 2 0

def MapComp.bytes (c : MapComp) : List Byte :=
  leBytes 4 c.comp.toNat ++ leBytes 2 c.tenant.toNat ++ leBytes 1 (b2n c.down) ++ leBytes 1 0

def MapImage.bytes (m : MapImage) : List Byte :=
  leBytes 2 m.epoch.toNat ++ leBytes 2 m.devs.length ++ leBytes 4 m.mems.length ++ leBytes 4 m.comps.length ++
    leBytes 1 m.council.length ++ leBytes 3 0 ++ leBytes 8 m.capo ++
    padTo 40 (m.council.flatMap fun (x : Dword) => leBytes 8 x.toNat) ++
    m.devs.flatMap MapDev.bytes ++ m.mems.flatMap MapMem.bytes ++ m.comps.flatMap MapComp.bytes

/-- The size that the header of an image gives. -/
def mapSize (b : List Byte) : Nat := 64 + 32 * leAt b 2 2 + 16 * leAt b 4 4 + 8 * leAt b 8 4

/-- The image of a run of bytes. -/
def mapOf (b : List Byte) : MapImage :=
  let ndev := min (leAt b 2 2) 4096
  let nmem := min (leAt b 4 4) (b.length / 16)
  let ncomp := min (leAt b 8 4) (b.length / 8)
  let m0 := 64 + 32 * ndev
  let c0 := m0 + 16 * nmem
  { epoch := BitVec.ofNat 16 (leAt b 0 2), capo := leAt b 16 8,
    council := (List.range (min (leAt b 12 1) 5)).map fun i => BitVec.ofNat 64 (leAt b (24 + 8 * i) 8),
    devs := (List.range ndev).map fun i =>
      let o := 64 + 32 * i
      { serial := BitVec.ofNat 64 (leAt b o 8), stage := leAt b (o + 8) 1, lost := leAt b (o + 9) 1 == 1,
        ip := BitVec.ofNat 128 (beAt b (o + 12) 16) },
    mems := (List.range nmem).map fun i =>
      let o := m0 + 16 * i
      { reqid := BitVec.ofNat 16 (leAt b o 2), dev := BitVec.ofNat 16 (leAt b (o + 2) 2),
        port := BitVec.ofNat 16 (leAt b (o + 4) 2), tenant := BitVec.ofNat 16 (leAt b (o + 6) 2),
        comp := BitVec.ofNat 32 (leAt b (o + 8) 4), role := leAt b (o + 12) 1, lost := leAt b (o + 13) 1 == 1 },
    comps := (List.range ncomp).map fun i =>
      let o := c0 + 8 * i
      { comp := BitVec.ofNat 32 (leAt b o 4), tenant := BitVec.ofNat 16 (leAt b (o + 4) 2), down := leAt b (o + 6) 1 == 1 } }

def MapImage.empty : MapImage := { epoch := 0, capo := 0, council := [], devs := [], mems := [], comps := [] }

/-- Epoch a is above epoch b, both modulo 2^16 (R485; DEDUCED, assumption 98). -/
def epochAbove (a b : BitVec 16) : Bool := decide (0 < (a - b).toNat ∧ (a - b).toNat < 2 ^ 15)

/-- Put a record in place of the one with its key, or at the end. -/
def upsert {α : Type} (same : α → Bool) (x : α) (xs : List α) : List α :=
  if xs.any same then updFirst same (fun _ => x) xs else xs ++ [x]

/-- The map after a change: its records take the place of those with the same SERIAL, REQID or COMP. -/
def MapImage.merge (m : MapImage) (c : MapChange) : MapImage :=
  if c.full then { c.image with epoch := c.epoch, capo := c.capo }
  else
    { epoch := c.epoch, capo := c.capo,
      council := if c.image.council.isEmpty then m.council else c.image.council,
      devs := c.image.devs.foldl (fun xs d => upsert (fun y => y.serial == d.serial) d xs) m.devs,
      mems := c.image.mems.foldl (fun xs d => upsert (fun y => y.reqid == d.reqid) d xs) m.mems,
      comps := c.image.comps.foldl (fun xs d => upsert (fun y => y.comp == d.comp) d xs) m.comps }

def State.mapOr (s : State) : MapImage := s.fab.map.getD MapImage.empty

/-- This device's fabric index, by its place in the device table. -/
def State.fabIndex (s : State) : Option Nat :=
  let m := s.mapOr
  firstBelow m.devs.length fun i => match m.devs[i]? with
    | some d => d.serial == s.serial
    | none => false

/-! ### The capo point (R480, R482) -/

/-- A register takes a value, and acts on it, now. -/
def State.wvNow (s : State) (r : Reg) (v : Nat) (u : Nat := 0) (i : Nat := 0) : State :=
  let a := (RegRef.mk r u i 0).addr
  let s := s.wv r v u i
  { s with acts := s.acts.erase a, due := s.due.filter fun d => d.2.reg != some a }

/-- REQIDs that a map must not name (R501). -/
def mgmtReqid (q : BitVec 16) : Bool := q == 0xFFFE || q == 0xFFFF

/-- LMT_PROLE of a role (R482). -/
def proleOf (role : Nat) : Nat := if role = 4 ∨ role = 5 then 1 else if role = 6 then 2 else 0

/-- Bind the members of a map (R482). -/
def State.bindMap (s : State) (old new : MapImage) : State :=
  let me := s.fabIndex
  let mems := new.mems.filter fun m => !mgmtReqid m.reqid
  let mine (m : MapMem) : Bool := me == some m.dev.toNat
  let s := forEach (mems.filter fun m => mine m && decide (m.port.toNat < 640)) (fun m s =>
    let p := m.port.toNat
    s.wvNow .lmtProle (setBits (s.rv .lmtProle 0 (p / 16)) (2 * (p % 16) + 1) (2 * (p % 16)) (proleOf m.role)) 0 (p / 16)) s
  let up := firstBelow 640 fun q => s.role q == 2
  let s := forEach mems (fun m s =>
    let port := if mine m then some (s.bindPort m.port.toNat) else up
    let keep := fld (s.rf .secBind 30 30 0 m.reqid.toNat) 30
    let v := match port with
      | some p => fld 1 31 + keep + fld (m.tenant.toNat % 1024) 20 + fld (p % 1024) 10
      | none => keep
    s.wvNow .secBind v 0 m.reqid.toNat) s
  let gone := old.mems.filter fun m => !mgmtReqid m.reqid && !new.mems.any (fun x => x.reqid == m.reqid)
  forEach gone (fun m s =>
    s.wvNow .secBind (setBits (s.rv .secBind 0 m.reqid.toNat) 31 31 0) 0 m.reqid.toNat) s

/-- The strokes after which devices that have not been heard by then are missing (R483), counted from now. -/
def State.expectAll (s : State) : State :=
  let n := s.time.stroke + s.af .fabCfg 31 24
  (s.after (1536 * n) (.unheard false)).after (1536 * (n + 64)) (.unheard true)

/-- A committed change takes effect. -/
def State.capoApply (s : State) : State :=
  match s.fab.pend with
  | none => s
  | some c =>
    let old := s.mapOr
    let new := old.merge c
    let cur := s.mapEpoch
    let s := s.wv .fabEpoch (fld cur.toNat 16 + c.epoch.toNat)
    let grace := c.capo + 256
    let fab : FabSt := { s.fab with map := some new, pend := none, prevEpoch := cur,
                                    graceUntil := if s.time.stroke < grace then some grace else none,
                                    acked := s.fab.acked.filter fun a => epochAbove a.epoch c.epoch,
                                    proposal := none, heir := none }
    let s := { s with fab := fab }.bindMap old new
    let live := (List.range 640).filter fun p => s.role p == 2 && s.portUp p
    (({ s with fab := { s.fab with uplinks := live } } : State).trace 5 2 0x2001 [c.epoch.toNat, c.capo]).expectAll

/-- A change becomes committed here: it awaits its capo point, or the next stroke when that has passed (R480). -/
def State.commitChange (s : State) (c : MapChange) : State :=
  let at_ := max c.capo (s.time.stroke + 1)
  let s : State := { s with fab := { s.fab with pend := some c }, due := s.due.filter fun d => d.2 != .capo }
  s.latch at_ .capo

/-! ### Sending -/

def State.others (s : State) : List Dword := s.council.filter fun x => x != s.serial

/-- HEARTBEAT to the members, or to the manager from a worker (R476). -/
def State.heartbeat (s : State) : State :=
  if s.fabHeld then s
  else
    let dst := if s.council.contains s.serial then s.others else (s.manager.filter fun m => m != s.serial).toList
    forEach dst (fun x s => s.sendFabric x fabHeartbeat s.mapEpoch 0 0 []) s

/-- HEARTBEAT on its schedule: every 8 strokes from a member, every 64 from a worker (R476). -/
def State.heartbeats (s : State) : State :=
  if s.fab.map.isNone then s
  else if s.time.stroke % (if s.council.contains s.serial then 8 else 64) = 0 then s.heartbeat
  else s

/-! ### The manager -/

/-- The records that a loss changes (R483): the device or the members on the port LOST, the compositions that use them DOWN. -/
def lossChange (m : MapImage) (serial : Dword) (port : Nat) : MapImage :=
  let ix := firstBelow m.devs.length fun i => match m.devs[i]? with
    | some d => d.serial == serial
    | none => false
  let hit (x : MapMem) : Bool := ix == some x.dev.toNat && (port == 0xFFFF || x.port.toNat == port)
  let mems := m.mems.filter hit
  { MapImage.empty with
    devs := if port = 0xFFFF then (m.devs.filter fun d => d.serial == serial).map fun d => { d with lost := true } else [],
    mems := mems.map fun x => { x with lost := true },
    comps := (m.comps.filter fun c => mems.any fun x => x.comp == c.comp).map fun c => { c with down := true } }

def majority (n : Nat) : Nat := n / 2 + 1

/-- Send a message of a change to some devices. -/
def State.sendChange (s : State) (dst : List Dword) (type : Nat) (c : MapChange) : State :=
  forEach dst (fun x s => s.sendFabric x type c.epoch c.capo 0 c.image.bytes) s

/-- The manager's proposal has a majority: it is committed (R478). An inherited proposal keeps its capo point, however near or
past (R479, assumption 98). -/
def State.tryCommit (s : State) : State :=
  match s.fab.proposal with
  | none => s
  | some (c, acks) =>
    if acks.length < majority s.council.length ∨ (c.capo < s.time.stroke + 16 ∧ s.fab.heir ≠ some c) then s
    else
      let all := (s.mapOr.devs.map fun d => d.serial).filter fun x => x != s.serial
      let s := s.sendChange all fabCommit c
      ({ s with fab := { s.fab with proposal := none } }).commitChange c

/-- The manager proposes a change; it acknowledges it itself. -/
def State.propose (s : State) (c : MapChange) : State :=
  let s := s.sendChange s.others fabPropose c
  ({ s with fab := { s.fab with proposal := some (c, [s.serial]), acked := some c } }).tryCommit

/-- A majority has answered the SYNC_REQ of this manager (R479). -/
def State.synced (s : State) : Bool :=
  s.fab.acting && decide (majority s.council.length ≤ s.fab.states.length)

/-- An acknowledged proposal above every epoch reported, which a new manager proposes again (R479). -/
def State.inherited (s : State) : Option MapChange :=
  let top := s.fab.states.foldl (fun m x => if epochAbove x.2.1 m then x.2.1 else m) s.mapEpoch
  s.fab.states.findSome? fun x => match x.2.2 with
    | some c => if epochAbove c.epoch top then some c else none
    | none => none

/-- What the manager does next: the inherited proposal, else the losses reported, no earlier than 256 strokes after the last
capo point (R478). The capo point chosen is 256 strokes on. -/
def State.managerStep (s : State) : State :=
  if s.synced = false ∨ s.fab.proposal.isSome = true ∨ s.fab.pend.isSome = true ∨ s.fabHeld = true ∨
      s.time.stroke < s.mapOr.capo + 256 then s
  else
    match s.inherited with
    | some c =>
      let rest := s.fab.states.map fun x => (x.1, x.2.1, none)
      (({ s with fab := { s.fab with states := rest, heir := some c } }) : State).propose c
    | none =>
      match s.fab.losses with
      | [] => s
      | x :: xs =>
        let im := lossChange s.mapOr x.1 x.2
        let s : State := { s with fab := { s.fab with losses := xs } }
        if im.devs.isEmpty && im.mems.isEmpty then s
        else
          s.propose { epoch := s.mapEpoch + 1, capo := s.time.stroke + 256, full := false,
                      image := { im with epoch := s.mapEpoch + 1, capo := s.time.stroke + 256 } }

/-- The choice of manager is judged again (R477): a newly acting manager asks the members for their state (R479). -/
def State.managerCheck (s : State) : State :=
  let now := s.isManager && !s.fabHeld
  if now && !s.fab.acting then
    let s : State := { s with fab := { s.fab with acting := true, proposal := none,
                                                  states := [(s.serial, s.mapEpoch, s.fab.acked)] } }
    (forEach s.others (fun x s => s.sendFabric x fabSyncReq s.mapEpoch 0 0 []) s.expectAll).managerStep
  else if !now && s.fab.acting then { s with fab := { s.fab with acting := false, proposal := none, states := [] } }
  else s.managerStep

/-- A loss reaches the manager (R483). -/
def State.lossNote (s : State) (serial : Dword) (port : Nat) : State :=
  if !s.fab.acting then s
  else if s.fab.losses.contains (serial, port) then s
  else ({ s with fab := { s.fab with losses := s.fab.losses ++ [(serial, port)] } }).managerStep

/-- This device reports a loss (R483). -/
def State.lossReport (s : State) (serial : Dword) (port : Nat) : State :=
  if s.fabHeld then s
  else
    match s.manager with
    | none => s
    | some m =>
      if m = s.serial then s.lossNote serial port
      else s.sendFabric m fabLoss s.mapEpoch 0 0 (beBytes 8 serial.toNat ++ beBytes 2 port)

/-- Devices that have never been heard, though their HEARTBEAT was due for long enough: members as a member misses them, workers
as the manager does (R476, R483; assumption 98). -/
def State.unheard (s : State) (worker : Bool) : State :=
  let missing (d : MapDev) : Bool := !d.lost && d.serial != s.serial && (s.fab.heard.find d.serial.toNat).isNone &&
    s.council.contains d.serial != worker && (if worker then s.isManager else s.council.contains s.serial)
  forEach (s.mapOr.devs.filter missing) (fun d s => s.lossReport d.serial 0xFFFF) s

/-- A device or a port has been silent for LIVE strokes (R476, R483). -/
def State.silent (s : State) (x : Silent) : State :=
  match x with
  | .device serial =>
    if (s.fab.heard.find serial.toNat).isNone then s
    else
      let s : State := { s with fab := { s.fab with heard := s.fab.heard.erase serial.toNat } }
      (s.managerCheck).lossReport serial 0xFFFF
  | .port p =>
    if (s.lanes.downAt.find p.toNat).isNone ∨ s.fab.map.isNone then s
    else
      let s : State := { s with lanes := { s.lanes with downAt := s.lanes.downAt.erase p.toNat } }
      if s.mapOr.mems.any fun m => s.fabIndex == some m.dev.toNat && m.port.toNat == p.toNat then
        s.lossReport s.serial p.toNat
      else s

/-- Everything silent for long enough by this stroke. A worker's HEARTBEAT is due every 64 strokes only. -/
def State.silences (s : State) : State :=
  if s.fab.map.isNone then s
  else
    let live := s.af .fabCfg 31 24
    let gone := s.fab.heard.filter fun e =>
      let member := s.council.contains (BitVec.ofNat 64 e.1)
      decide (e.2 + live + (if member then 0 else 64) ≤ s.time.stroke)
    let s := forEach gone (fun e s => s.silent (.device (BitVec.ofNat 64 e.1))) s
    let down := s.lanes.downAt.filter fun e => decide (e.2 + live ≤ s.time.stroke)
    (forEach down (fun e s => s.silent (.port (BitVec.ofNat 10 e.1))) s).managerCheck

/-! ### Receiving -/

/-- A frame is taken: its tag verifies, and its sender is in the device table; before the first map there is no table to look
in (16_fabric_compositions.md, "Fabric-protocol frames"). -/
def State.fabOk (s : State) (m : FabMsg) : Bool :=
  m.tagOk && s.fab.key.isSome &&
  (match s.fab.map with
   | some x => x.devs.any fun d => d.serial == m.serial
   | none => true)

/-- Frames of the message of a frame that have come, this one included, by FIDX. -/
def State.gathered (s : State) (type : Nat) (m : FabMsg) : List FabMsg :=
  let same (x : Nat × FabMsg) : Bool :=
    x.1 == type && x.2.serial == m.serial && x.2.epoch == m.epoch && x.2.nfrm == m.nfrm && x.2.capo == m.capo
  ((s.fab.parts.filter same).map fun x => x.2) ++ [m]

/-- The payload of a message, once every frame of it has come; the frames are kept until then. -/
def State.assemble (s : State) (type : Nat) (m : FabMsg) : Option (List Byte) × State :=
  if m.nfrm.toNat ≤ 1 then (some m.payload, s)
  else
    let xs := s.gathered type m
    let piece (i : Nat) : Option FabMsg := xs.find? fun x => x.fidx.toNat == i
    if (List.range m.nfrm.toNat).all fun i => (piece i).isSome then
      let drop (x : Nat × FabMsg) : Bool := xs.contains x.2 && x.1 == type
      (some ((List.range m.nfrm.toNat).flatMap fun i => ((piece i).map fun x => x.payload).getD []),
       { s with fab := { s.fab with parts := s.fab.parts.filter fun x => !drop x } })
    else (none, { s with fab := { s.fab with parts := s.fab.parts ++ [(type, m)] } })

/-- A message that passes its checks is processed; any other is counted and discarded. -/
def State.fabReceive (s : State) (type : Nat) (m : FabMsg) (f : List Byte → State → State) : State :=
  if s.fabHeld then s
  else if !s.fabOk m then s.bump .fabMsgdrop
  else
    match s.assemble type m with
    | (some b, s) => f b s
    | (none, s) => s

/-- A record's epoch, which is not the next one, is more than one above this device's own, or it has no map (R480). -/
def State.epochAhead (s : State) (e : BitVec 16) : Bool := s.fab.map.isNone || epochAbove e s.mapEpoch

/-- A record for an epoch more than one above this device's own: the replica is incomplete (R480). -/
def State.behind (s : State) (from_ : Dword) : State :=
  (s.wf .fabMapstat 29 29 0).sendFabric from_ fabSyncReq s.mapEpoch 0 0 []

def changeOf (m : FabMsg) (b : List Byte) : MapChange :=
  { epoch := m.epoch, capo := m.capo.toNat, image := mapOf b, full := false }

/-- HEARTBEAT (R476). -/
def State.onHeartbeat (s : State) (m : FabMsg) : State :=
  ({ s with fab := { s.fab with heard := s.fab.heard.insert m.serial.toNat s.time.stroke } }).managerCheck

/-- PROPOSE (R478): acknowledged by a member when it may be. -/
def State.onPropose (s : State) (m : FabMsg) (b : List Byte) : State :=
  let c := changeOf m b
  let next := s.mapEpoch + 1
  if m.epoch = next then
    let other := match s.fab.acked with
      | some a => a.epoch == c.epoch && a != c
      | none => false
    let named := c.image.council.contains s.serial && !s.lanes.straps.getLsbD 3
    if s.council.contains s.serial && s.manager == some m.serial && !other && !named then
      ({ s with fab := { s.fab with acked := some c } }).sendFabric m.serial fabAck m.epoch 0 0 []
    else s
  else if s.epochAhead m.epoch then s.behind m.serial
  else s

/-- ACK (R478). -/
def State.onAck (s : State) (m : FabMsg) : State :=
  match s.fab.proposal with
  | none => s
  | some (c, acks) =>
    if m.epoch = c.epoch ∧ s.council.contains m.serial = true ∧ acks.contains m.serial = false then
      ({ s with fab := { s.fab with proposal := some (c, acks ++ [m.serial]) } }).tryCommit
    else s

/-- COMMIT (R480). -/
def State.onCommit (s : State) (m : FabMsg) (b : List Byte) : State :=
  if m.epoch = s.mapEpoch + 1 then s.commitChange (changeOf m b)
  else if s.epochAhead m.epoch then s.behind m.serial
  else s

/-- SYNC_REQ (R479, R480): STATE to a council member, and the whole image, chunk by chunk, to a device behind this one. -/
def State.onSyncReq (s : State) (m : FabMsg) : State :=
  let state : List Byte := match s.fab.acked with
    | some c => beBytes 2 c.epoch.toNat ++ beBytes 8 c.capo ++ c.image.bytes
    | none => []
  let s := if s.council.contains m.serial then s.sendFabric m.serial fabState s.mapEpoch 0 0 state else s
  if m.epoch != s.mapEpoch && (m.epoch == 0 || epochAbove s.mapEpoch m.epoch) then
    let im := s.mapOr.bytes
    forUpto (ceilDiv im.length 4096) (fun i s =>
      s.fabFrame m.serial fabSyncData 0 1 s.mapEpoch 0 i (sub im (4096 * i) 4096)) s
  else s

/-- STATE (R479). -/
def State.onState (s : State) (m : FabMsg) (b : List Byte) : State :=
  if !s.fab.acting || !s.council.contains m.serial || s.fab.states.any (fun x => x.1 == m.serial) then s
  else
    let c : Option MapChange := if b.length < 74 then none
      else some { epoch := BitVec.ofNat 16 (beAt b 0 2), capo := beAt b 2 8, image := mapOf (b.drop 10), full := false }
    ({ s with fab := { s.fab with states := s.fab.states ++ [(m.serial, m.epoch, c)] } }).managerStep

/-- SYNC_DATA (R480): with its last chunk the whole image is committed and the replica is complete. -/
def State.onSyncData (s : State) (m : FabMsg) (b : List Byte) : State :=
  let chunks := s.fab.chunks.insert m.chunk.toNat b
  let s : State := { s with fab := { s.fab with chunks := chunks } }
  match chunks.find 0 with
  | none => s
  | some h =>
    let n := ceilDiv (mapSize h) 4096
    let all := (List.range n).map fun i => chunks.find i
    if all.any Option.isNone then s
    else
      let im := mapOf (all.flatMap fun x => x.getD [])
      let s : State := { s with fab := { s.fab with chunks := [] } }
      let s := s.wf .fabMapstat 29 29 1
      if s.fab.map.isNone || epochAbove im.epoch s.mapEpoch then
        s.commitChange { epoch := im.epoch, capo := im.capo, image := im, full := true }
      else if s.mapEpoch = im.epoch then { s with fab := { s.fab with map := some im } }
      else s

/-- LOSS (R483). -/
def State.onLoss (s : State) (b : List Byte) : State := s.lossNote (BitVec.ofNat 64 (beAt b 0 8)) (beAt b 8 2)

/-- REVOKE_DONE (R493). -/
def State.onRevokeDone (s : State) (m : FabMsg) (b : List Byte) : State :=
  { s with fab := { s.fab with reports := s.fab.reports ++ [(s.time.stroke, m.serial, b)] } }

/-- A fabric-protocol message by TYPE (Table 16.2); reserved types are discarded and counted. -/
def State.fabMessage (s : State) (type : Nat) (m : FabMsg) : State :=
  match type with
  | 1 => s.fabReceive 1 m fun _ s => s.onHeartbeat m
  | 2 => s.fabReceive 2 m fun b s => s.onPropose m b
  | 3 => s.fabReceive 3 m fun _ s => s.onAck m
  | 4 => s.fabReceive 4 m fun b s => s.onCommit m b
  | 5 => s.fabReceive 5 m fun _ s => s.onSyncReq m
  | 6 => s.fabReceive 6 m fun b s => s.onState m b
  | 7 => s.fabReceive 7 m fun b s => s.onSyncData m b
  | 8 => s.fabReceive 8 m fun b s => s.onLoss b
  | 9 => s.fabReceive 9 m fun b s => s.onRevokeDone m b
  | _ => s.bump .fabMsgdrop

/-! ### Commands -/

/-- MAP_GET (R481): RESULT0 is the size of the image; a buffer too small for it takes nothing. -/
def State.cmdMapGet (s : State) (c : Cmd) : State :=
  s.command c 0x40 64 fun r s =>
    let im := s.mapOr.bytes
    if c.buflen.toNat < im.length then s.complete r .formatUnsupported im.length
    else (s.ctlStore c.buf.toNat im).complete r .ok im.length

/-- FAB_KEY (16_fabric_compositions.md, "Fabric-protocol frames"). -/
def State.cmdFabKey (s : State) (c : Cmd) : State :=
  s.command c 0x41 32 fun r s =>
    ({ s with fab := { s.fab with key := some (s.cmdBuf c 32) } }).complete r .ok

/-! ### Rows -/

def execMapGet (c : Cmd) (s : State) : Host.Outcome State Fault Refusal := .next (s.cmdMapGet c)
def execFabKey (c : Cmd) (s : State) : Host.Outcome State Fault Refusal := .next (s.cmdFabKey c)
def execHeartbeat (m : FabMsg) (s : State) : Host.Outcome State Fault Refusal := .next (s.fabMessage 1 m)
def execPropose (m : FabMsg) (s : State) : Host.Outcome State Fault Refusal := .next (s.fabMessage 2 m)
def execFabricAck (m : FabMsg) (s : State) : Host.Outcome State Fault Refusal := .next (s.fabMessage 3 m)
def execCommit (m : FabMsg) (s : State) : Host.Outcome State Fault Refusal := .next (s.fabMessage 4 m)
def execSyncReq (m : FabMsg) (s : State) : Host.Outcome State Fault Refusal := .next (s.fabMessage 5 m)
def execFabricState (m : FabMsg) (s : State) : Host.Outcome State Fault Refusal := .next (s.fabMessage 6 m)
def execSyncData (m : FabMsg) (s : State) : Host.Outcome State Fault Refusal := .next (s.fabMessage 7 m)
def execLoss (m : FabMsg) (s : State) : Host.Outcome State Fault Refusal := .next (s.fabMessage 8 m)
def execRevokeDone (m : FabMsg) (s : State) : Host.Outcome State Fault Refusal := .next (s.fabMessage 9 m)
end Sys2Proof.Machine
end

