-- ==== Sys2Proof/Machine/Rank.lean ====
section
/-! DEFINITION. The rank unit RKU (05_gather_filter_rank.md, R171 to R175). -/

namespace Sys2Proof.Machine

def rankKey (k : Scd) (st : BitVec 2) : Nat := 4 * k.toNat + st.toNat

/-- The value of a candidate's score. -/
def rankNum (fmt : Nat) (v : BitVec 32) : Num := numOf fmt v.toNat

/-- Candidate a ranks strictly before b (R172): by value under DIR, then by the smaller identifier. -/
def ranksBefore (dir : Bool) (fmt : Nat) (a b : BitVec 32 × BitVec 32) : Bool :=
  match (rankNum fmt a.1).cmp (rankNum fmt b.1) with
  | .eq => decide (a.2.toNat < b.2.toNat)
  | .gt => !dir
  | .lt => dir

/-- Place a candidate behind every pair that it does not rank before. -/
def rankInsert (dir : Bool) (fmt : Nat) (c : BitVec 32 × BitVec 32) :
    List (BitVec 32 × BitVec 32) → List (BitVec 32 × BitVec 32)
  | [] => [c]
  | x :: xs => if ranksBefore dir fmt c x then c :: x :: xs else x :: rankInsert dir fmt c xs

/-- A candidate is accepted (R173). -/
def rankAccept (fmt : Nat) (c : BitVec 32 × BitVec 32) : Bool :=
  c.2 != 0xFFFFFFFF && !(rankNum fmt c.1).isNan

/-- The best `keep` of the pairs held and the candidates (R172). -/
def rankMerge (dir : Bool) (fmt keep : Nat) (old cands : List (BitVec 32 × BitVec 32)) : List (BitVec 32 × BitVec 32) :=
  (cands.foldl (fun xs c => rankInsert dir fmt c xs) old).take keep

/-- The candidates of a merge that R173 does not exclude, in element order. -/
def State.rankCands (s : State) (op : RkuOp) (k : Scd) (f : RkuF) : List (BitVec 32 × BitVec 32) :=
  let vs := (s.vreg k f.vs).toNat
  let vi := (s.vreg k f.vi).toNat
  let all : List (Nat × (BitVec 32 × BitVec 32)) := match op with
    | .rkmrg => (List.range 128).map fun j => (4 * j, (BitVec.ofNat 32 (elemAt 32 vs j), BitVec.ofNat 32 (elemAt 32 vi j)))
    | _ => (List.range 64).map fun j =>
        (8 * j, (BitVec.ofNat 32 (elemAt 32 vs (2 * j)), BitVec.ofNat 32 (elemAt 32 vs (2 * j + 1))))
  (all.filter fun e => s.active k f.pred e.1 && rankAccept f.fmt.toNat e.2).map fun e => e.2

/-- The pair that RKOUT writes for a rank the state does not fill (R174). -/
def rankEmpty (f : RkuF) : Nat × Nat :=
  (if f.fmt.toNat = fmtFp32 then 0x7FC00000 else if f.dir then 0x7FFFFFFF else 0x80000000, 0xFFFFFFFF)

/-- The 64 pairs that RKOUT writes (Table 5.11). -/
def State.rankOut (s : State) (k : Scd) (f : RkuF) : Vec :=
  let ps := match s.scd.ranks.find (rankKey k f.st) with
    | some r => r.pairs
    | none => []
  let p := f.k.toNat % 16
  packPairs ((List.range 64).map fun j =>
    match ps[64 * p + j]? with
    | some x => (x.1.toNat, x.2.toNat)
    | none => rankEmpty f)

/-- Issue an RKU operation on an SCD. -/
def State.issueRku (s : State) (op : RkuOp) (k : Scd) (f : RkuF) : State :=
  if s.scdOut k || !s.gate k f.pred then s
  else
    match op with
    | .rkout => s.land 4 (.vec k f.vd (s.activeBits k f.pred 64 64) (s.rankOut k f))
    | .rkclr => s.land 1 (.rankClr k f.st)
    | _ => s.land 12 (.merge k f.st (s.rankCands op k f) (f.k.toNat + 1) f.dir f.fmt)

/-- A merge lands in its state (R172). -/
def State.landMerge (s : State) (k : Scd) (st : BitVec 2) (cands : List (BitVec 32 × BitVec 32)) (keep : Nat) (dir : Bool)
    (fmt : BitVec 4) : State :=
  let old := match s.scd.ranks.find (rankKey k st) with
    | some r => r.pairs
    | none => []
  let r : RankSt := { pairs := rankMerge dir fmt.toNat keep old cands, dir := dir, fmt := fmt }
  { s with scd := { s.scd with ranks := s.scd.ranks.insert (rankKey k st) r } }

/-- A state is emptied (RKCLR). -/
def State.landRankClr (s : State) (k : Scd) (st : BitVec 2) : State :=
  { s with scd := { s.scd with ranks := s.scd.ranks.erase (rankKey k st) } }

/-- RKMRG (R172). -/
def execRkmrg (k : Scd) (f : RkuF) (s : State) := distanceOutcome "RKMRG" (rkuOk .rkmrg f) (s.issueRku .rkmrg k f) s
/-- RKMRGP (R172). -/
def execRkmrgp (k : Scd) (f : RkuF) (s : State) := distanceOutcome "RKMRGP" (rkuOk .rkmrgp f) (s.issueRku .rkmrgp k f) s
/-- RKOUT (R174). -/
def execRkout (k : Scd) (f : RkuF) (s : State) := distanceOutcome "RKOUT" (rkuOk .rkout f) (s.issueRku .rkout k f) s
/-- RKCLR (R171). -/
def execRkclr (k : Scd) (f : RkuF) (s : State) := distanceOutcome "RKCLR" (rkuOk .rkclr f) (s.issueRku .rkclr k f) s

end Sys2Proof.Machine
end

