-- ==== Sys2Proof/Machine/Chord.lean ====
section
/-! DEFINITION. Chords: the 1,024-bit word taken apart (Tables 3.1, 3.2, 3.7, 3.10) and issued on every SCD (R42, R69 to R72,
R87 to R89). -/

namespace Sys2Proof.Machine

/-- One slot of a chord, decoded. -/
inductive SlotOp
  | qs (mask : BitVec 8)
  | sca (op : ScaOp) (f : ScaF)
  | prd (op : PrdOp) (f : PrdF)
  | ld (op : LdOp) (f : LdF)
  | st (op : StOp) (f : StF)
  | rdu (op : RduOp) (f : RduF)
  | flu (op : FluOp) (f : FluF)
  | gte (op : EngKind) (f : GteF)
  | dxa (op : DxaOp) (f : DxaF)
  | rku (op : RkuOp) (f : RkuF)
  | mov (op : EngKind) (f : MovF)
  deriving DecidableEq, Repr

/-- First chord bit and width of each slot (Table 3.1). -/
def slotPlace (n : Nat) : Nat × Nat :=
  [(32, 32), (64, 48), (112, 48), (160, 48), (208, 48), (256, 48), (304, 48), (352, 64), (416, 64), (480, 64), (544, 96),
   (640, 56), (696, 56), (752, 56), (808, 56), (864, 64), (928, 96)].getD n (0, 0)

/-- The bits of a slot. -/
def slotBits (c : BitVec 1024) (n : Nat) : Nat :=
  let p := slotPlace n
  (c.toNat >>> p.1) % 2 ^ p.2

/-- SLOTMASK bit of a slot (Table 3.2). -/
def slotOn (c : BitVec 1024) (n : Nat) : Bool := c.toNat.testBit (11 + n)

/-- A field of a slot. -/
def fieldOf (w hi lo : Nat) (n : Nat) : BitVec n := BitVec.ofNat n (bits w hi lo)

/-! ### Fields (Table 3.10) -/

def scaOf (w : Nat) : ScaF :=
  { imm := fieldOf w 47 31 17, sb := fieldOf w 30 25 6, sa := fieldOf w 24 19 6, sd := fieldOf w 18 13 6, pred := fieldOf w 12 6 7 }
def prdOf (w : Nat) : PrdF :=
  { imm := fieldOf w 47 37 11, sb := fieldOf w 36 31 6, sa := fieldOf w 30 25 6, pb := fieldOf w 24 21 4, pa := fieldOf w 20 17 4,
    pd := fieldOf w 16 13 4, pred := fieldOf w 12 6 7 }
def ldOf (w : Nat) (b : Bool) : LdF :=
  { portB := b, imm := fieldOf w 47 33 15, xreg := fieldOf w 32 27 6, fret := fieldOf w 26 19 8, dst := fieldOf w 18 13 6,
    pred := fieldOf w 12 6 7 }
def stOf (w : Nat) : StF :=
  { imm := fieldOf w 47 33 15, xreg := fieldOf w 32 27 6, fret := fieldOf w 26 19 8, src := fieldOf w 18 13 6, pred := fieldOf w 12 6 7 }
def rduOf (w : Nat) (b : Bool) : RduF :=
  { halfB := b, rsv := fieldOf w 63 56 8, sparse := bitAt w 55, sat := bitAt w 54, rnd := fieldOf w 53 52 2, mx := bitAt w 51,
    ofmt := fieldOf w 50 47 4, fmt := fieldOf w 46 43 4, sa := fieldOf w 42 37 6, vc := fieldOf w 36 31 6, vb := fieldOf w 30 25 6,
    va := fieldOf w 24 19 6, vd := fieldOf w 18 13 6, pred := fieldOf w 12 6 7 }
def fluOf (w : Nat) : FluF :=
  { rsv := fieldOf w 63 52 12, boff := fieldOf w 51 47 5, vd := fieldOf w 46 41 6, va := fieldOf w 40 35 6, cmp := fieldOf w 34 31 4,
    fmt := fieldOf w 30 27 4, xreg := fieldOf w 26 21 6, fret := fieldOf w 20 13 8, pred := fieldOf w 12 6 7 }
def gteOf (w : Nat) : GteF :=
  { rsv := fieldOf w 95 79 17, fmt := fieldOf w 78 75 4, ctren := bitAt w 74, ctr := fieldOf w 73 65 9, ra := bitAt w 64,
    bmen := bitAt w 63, bmv := fieldOf w 62 57 6, rowlen := fieldOf w 56 47 10, nrow := fieldOf w 46 40 7, xreg := fieldOf w 39 34 6,
    idx := fieldOf w 33 29 5, dst := fieldOf w 28 21 8, src := fieldOf w 20 13 8, pred := fieldOf w 12 6 7 }
def dxaOf (w : Nat) (array : Nat) : DxaF :=
  { array := BitVec.ofNat 2 array, rsv := fieldOf w 55 45 11, sa := fieldOf w 44 39 6, sp24 := bitAt w 38, mx := bitAt w 37,
    fmt := fieldOf w 36 33 4, acc := fieldOf w 32 31 2, vd := fieldOf w 30 25 6, vr := fieldOf w 24 19 6, vq := fieldOf w 18 13 6,
    pred := fieldOf w 12 6 7 }
def rkuOf (w : Nat) : RkuF :=
  { rsv := fieldOf w 63 48 16, st := fieldOf w 47 46 2, dir := bitAt w 45, fmt := fieldOf w 44 41 4, k := fieldOf w 40 31 10,
    vd := fieldOf w 30 25 6, vi := fieldOf w 24 19 6, vs := fieldOf w 18 13 6, pred := fieldOf w 12 6 7 }
def movOf (w : Nat) : MovF :=
  { rsv := fieldOf w 95 61 35, inv := bitAt w 60, ctren := bitAt w 59, ctr := fieldOf w 58 50 9, len := fieldOf w 49 41 9,
    yreg := fieldOf w 40 35 6, xreg := fieldOf w 34 29 6, dst := fieldOf w 28 21 8, src := fieldOf w 20 13 8, pred := fieldOf w 12 6 7 }

/-- The operation that slot `n` of a chord carries; none for a reserved opcode (R72). -/
def decodeSlot (c : BitVec 1024) (n : Nat) : Option SlotOp :=
  let w := slotBits c n
  let opc := bits w 5 0
  match n with
  | 0 => some (.qs (fieldOf w 7 0 8))
  | 1 | 2 => (ScaOp.ofCode opc).map fun o => .sca o (scaOf w)
  | 3 => (PrdOp.ofCode opc).map fun o => .prd o (prdOf w)
  | 4 => (LdOp.ofCode opc).map fun o => .ld o (ldOf w false)
  | 5 => (LdOp.ofCode opc).map fun o => .ld o (ldOf w true)
  | 6 => (StOp.ofCode opc).map fun o => .st o (stOf w)
  | 7 => (RduOp.ofCode opc).map fun o => .rdu o (rduOf w false)
  | 8 => (RduOp.ofCode opc).map fun o => .rdu o (rduOf w true)
  | 9 => (FluOp.ofCode opc).map fun o => .flu o (fluOf w)
  | 10 => (gteOfCode opc).map fun o => .gte o (gteOf w)
  | 11 | 12 | 13 | 14 => (DxaOp.ofCode opc).map fun o => .dxa o (dxaOf w (n - 11))
  | 15 => (RkuOp.ofCode opc).map fun o => .rku o (rkuOf w)
  | 16 => (movOfCode opc).map fun o => .mov o (movOf w)
  | _ => none

/-- The operations of a chord, slot number first. -/
def chordOps (c : BitVec 1024) : List (Nat × SlotOp) :=
  (List.range 17).filterMap fun n => if slotOn c n then (decodeSlot c n).map fun o => (n, o) else none

/-- The service chord (R89). -/
def serviceOps : List (Nat × SlotOp) := [(0, .qs 0xFF)]

/-- Issue one operation on an SCD. -/
def State.issueSlot (s : State) (k : Scd) (o : SlotOp) : State :=
  match o with
  | .qs m => s.queueSlot k m.toNat
  | .sca op f => s.issueSca op k f
  | .prd op f => s.issuePrd op k f
  | .ld op f => s.issueLd op k f
  | .st op f => s.issueSt op k f
  | .rdu op f => s.issueRdu op k f
  | .flu op f => s.issueFlu op k f
  | .gte op f => s.issueGte op k f
  | .dxa op f => s.issueDxa op k f
  | .rku op f => s.issueRku op k f
  | .mov op f => s.issueMov op k f

/-- The operations that issue on cy c of the running stroke: chord c of the running segment, or the service chord beyond it
(R42, R89). -/
def State.chordAt (s : State) (c : Nat) : List (Nat × SlotOp) :=
  match s.runSeg with
  | some g =>
    if c < g.image.len then
      match g.image.chords[c]? with
      | some w => chordOps w
      | none => serviceOps
    else serviceOps
  | none => serviceOps

/-- A chord only feeds request lanes: whether any of them holds a request decides whether it does anything. -/
def State.idleChord (s : State) (ops : List (Nat × SlotOp)) : Bool :=
  ops == serviceOps && s.lane.queues.isEmpty && s.lane.held.isEmpty

/-- A SEQ has been lost and its survivor does not drive the SCDs yet (Table 19.2). -/
def State.seqDark (s : State) : Bool :=
  s.pwr.detected.any fun d => match d.1 with
    | .seq _ => true
    | _ => false

/-- Chord c issues to every SCD in service (R42); none in a skipped stroke (R61). -/
def State.chordIssue (s : State) (c : Nat) : State :=
  if s.time.skipped || s.seqDark then s
  else
    let ops := s.chordAt c
    if s.idleChord ops then s
    else forEach s.scds (fun k s => forEach ops (fun o s => s.issueSlot k o.2) s) s

end Sys2Proof.Machine
end

