-- ==== Sys2Proof/Machine/Segments.lean ====
section
/-! DEFINITION. Segment images and their load checks (R95 to R99, Table 3.13), and the life of a loaded segment (R100 to R104, R547 to
R550). -/

namespace Sys2Proof.Machine

/-! ### The image (Table 3.12) -/

/-- The size that the header of an image gives. -/
def imageSize (b : List Byte) : Nat :=
  let fret := 16 * leAt b 8 2
  0x40 + 128 * leAt b 6 2 + fret * 32 + (if bitAt (leAt b 10 1) 1 then fret * 31 else 0)

/-- The header keeps to Table 3.12, and the image is as long as it says (check 2). -/
def headerOk (b : List Byte) : Bool :=
  leAt b 0 2 == 1 && decide (1 ≤ leAt b 2 2 ∧ leAt b 2 2 ≤ 0xFFFE) && decide (leAt b 4 2 < 1024) && decide (leAt b 6 2 ≤ 1408) &&
  decide (leAt b 8 2 ≤ 256) && (leAt b 10 1 == 1 || leAt b 10 1 == 3) && leAt b 11 5 == 0 && b.length == imageSize b

/-- The image of its bytes. -/
def imageOf (b : List Byte) : Image :=
  let len := leAt b 6 2
  let n := leAt b 8 2
  let at32 := 0x40 + 128 * len
  let at31 := at32 + 16 * n * 32
  let fret (at_ count : Nat) : List (BitVec 128) := (List.range count).map fun i => BitVec.ofNat 128 (leAt b (at_ + 16 * i) 16)
  { no := BitVec.ofNat 16 (leAt b 2 2), tenant := BitVec.ofNat 10 (leAt b 4 2), len := len, fretN := n,
    chords := (List.range len).map fun i => BitVec.ofNat 1024 (leAt b (0x40 + 128 * i) 128),
    fret32 := fret at32 (32 * n), fret31 := if bitAt (leAt b 10 1) 1 then some (fret at31 (31 * n)) else none,
    digest := BitVec.ofNat 384 (beAt b 0x10 48) }

/-- What a VERIFYING descriptor shows: number and tenant. -/
def imageStub (b : List Byte) : Image :=
  { no := BitVec.ofNat 16 (leAt b 2 2), tenant := BitVec.ofNat 10 (leAt b 4 2), len := 0, fretN := 0, chords := [], fret32 := [],
    fret31 := none, digest := 0 }

/-! ### Checks on one slot -/

def SlotOp.pred : SlotOp → BitVec 7
  | .qs _ => 0
  | .sca _ f => f.pred
  | .prd _ f => f.pred
  | .ld _ f => f.pred
  | .st _ f => f.pred
  | .rdu _ f => f.pred
  | .flu _ f => f.pred
  | .gte _ f => f.pred
  | .dxa _ f => f.pred
  | .rku _ f => f.pred
  | .mov _ f => f.pred

/-- The slot or opcode accepts mask modes (after R76). -/
def SlotOp.maskOk : SlotOp → Bool
  | .ld .ldv _ => true
  | .st .stv _ => true
  | .rdu _ _ => true
  | .flu _ _ => true
  | .dxa _ _ => true
  | .rku _ _ => true
  | _ => false

/-- Check 5 for the fields of one operation, formats apart. -/
def SlotOp.fieldsOk (o : SlotOp) : Bool :=
  predOk o.pred true &&
  (match o with
   | .qs m => m != 0
   | .sca op f => op != .fget || bits f.imm.toNat 9 8 != 3
   | .prd op f => op != .pcmp || decide (f.imm.toNat % 8 < 6)
   | .ld .ldx f => decide (f.dst.toNat < 32)
   | .ld .ldp f => decide (f.dst.toNat < 16)
   | .ld _ _ => true
   | .st .stp f => decide (f.src.toNat < 16)
   | .st _ _ => true
   | .rdu op f => rduFieldsOk op f
   | .flu _ f => f.rsv == 0 && decide (f.cmp.toNat ≤ 0xC) && (!fluFmt f.fmt.toNat ||
       (f.boff.toNat % fluUnits f.fmt.toNat == 0 && decide (f.boff.toNat + fluUnits f.fmt.toNat ≤ 32)))
   | .gte op f => f.rsv == 0 && f.rowlen != 0 && (op != .gbag || decide (f.rowlen.toNat ≤ 64)) &&
       (op != .glin || !f.bmen || decide (128 * f.idx.toNat + f.nrow.toNat < 4096))
   | .dxa op f => dxaOk op { f with pred := 0, fmt := (if op = .dqld ∨ op = .dscore then 8 else 0), mx := false } &&
       (!f.mx || ((op != .dqld || f.vq.toNat % 2 == 0) && (op != .dscore || f.vr.toNat % 2 == 0)))
   | .rku op f => rkuOk op { f with pred := 0, fmt := 0 }
   | .mov op f => movOk op { f with pred := 0 })

/-- Check 7: the formats and MX that the operation accepts. DOUT and DCLR use neither FMT nor MX (Table 5.9): that a value other
than zero there fails check 7, and not check 5, is the model's reading (DEDUCED, assumption 78). -/
def SlotOp.fmtOk : SlotOp → Bool
  | .rdu op f => rduFmtOk op f
  | .flu _ f => fluFmt f.fmt.toNat && fluOk { f with pred := 0, rsv := 0, boff := 0, cmp := if f.cmp.toNat ≤ 0xC then f.cmp else 0 }
  | .gte .gbag f => decide (f.fmt.toNat ≤ 4)
  | .gte _ f => f.fmt == 0
  | .dxa op f =>
    let i := f.fmt.toNat
    let mxFmt := i == fmtE4M3 || i == fmtE5M2 || i == fmtE2M1
    if op = .dqld ∨ op = .dscore then dxaFmt i && (!f.mx || mxFmt) && (op != .dscore || !f.sp24 || (i != fmtBin1 && !f.mx))
    else i == 0 && !f.mx
  | .rku _ f => f.fmt.toNat == fmtFp32 || f.fmt.toNat == fmtInt32
  | _ => true

/-- Registers an operation writes, as (file, number), with its latency: files 0 V, 1 S, 2 P, 3 X, 4 query buffer, 5 tile (R161). -/
def SlotOp.writes : SlotOp → List (Nat × Nat) × Nat
  | .sca op f => ([(1, f.sd.toNat)], op.lat)
  | .prd op f => ([(2, f.pd.toNat)], op.lat)
  | .ld .ldv f => ([(0, f.dst.toNat)], 8)
  | .ld .lds f => ([(1, f.dst.toNat)], 6)
  | .ld .ldx f => ([(3, f.dst.toNat)], 8)
  | .ld .ldp f => ([(2, f.dst.toNat)], 6)
  | .rdu op f => ((0, f.vd.toNat) :: (if op = .rmxq then [(0, f.vc.toNat)] else []), op.lat)
  | .flu _ f => ([(0, f.vd.toNat)], 10)
  | .dxa .dqld f => ([(4, f.array.toNat)], 2)
  | .dxa .dscore f => ([(5, 4 * f.array.toNat + f.acc.toNat)], 4)
  | .dxa .dclr f => ([(5, 4 * f.array.toNat + f.acc.toNat)], 1)
  | .dxa .dout f => ([(0, f.vd.toNat)], 8)
  | .rku .rkout f => ([(0, f.vd.toNat)], 4)
  | .rku op _ => ([], op.lat)
  | _ => ([], 0)

/-- Check 12 applies to its completion (R43). -/
def SlotOp.bounded : SlotOp → Bool
  | .qs _ | .st _ _ | .gte _ _ | .mov _ _ => false
  | _ => true

/-- Cy for which an operation occupies its unit. -/
def SlotOp.occ : SlotOp → Nat
  | .rdu op _ => op.occ
  | .rku op _ => op.occ
  | .gte op f =>
    let lines := (f.nrow.toNat + 1) * ceilDiv (64 * f.rowlen.toNat) 128
    if op = .gbag then ceilDiv lines 4 else ceilDiv lines 4 + 1
  | .mov op f => if op = .mdone then 1 else ceilDiv (f.len.toNat + 1) 4
  | _ => 1

/-- The fret entries an operation accesses: entry, accepted KINDs, read, written, subject to check 14. -/
def SlotOp.frets : SlotOp → List (Nat × List Nat × Bool × Bool × Bool)
  | .ld op f => [(f.fret.toNat, op.kinds, true, false, true)]
  | .st op f => [(f.fret.toNat, op.kinds, false, true, true)]
  | .flu _ f => [(f.fret.toNat, [kindLinear, kindIndexed], true, false, true)]
  | .gte op f =>
    [(f.src.toNat, (if op = .gpage then [kindPage] else [kindLinear, kindIndexed]), true, false, false),
     (f.dst.toNat, [kindLinear], false, true, false)]
  | .mov op f =>
    (if op = .mdone then [] else [(f.src.toNat, [kindLinear], true, false, false)]) ++
      [(f.dst.toNat, [kindLinear], op != .mcopy, op != .msend, false)]
  | _ => []

/-- The fret entry that FGET names. -/
def SlotOp.fget : SlotOp → List Nat
  | .sca .fget f => [bits f.imm.toNat 7 0]
  | _ => []

/-! ### Checks on the image -/

/-- A check that failed: number, SECT31, TILE, WHERE (Table 3.17). -/
structure LoadFail where
  check : Nat
  sect31 : Bool
  tile : Nat
  where_ : Nat
  deriving DecidableEq, Repr

def failAt (check w : Nat) : LoadFail := { check := check, sect31 := false, tile := 0, where_ := w }

/-- The status of a check (Table 3.13). -/
def checkStatus (n : Nat) : Status :=
  if n = 4 then .tenantGone else if n = 10 then .noGrant else if n = 6 then .unitAbsent else .formatUnsupported

/-- Check 5 on a whole chord: header, empty slots, opcodes, fields (R70 to R72). -/
def chordFormOk (c : BitVec 1024) : Bool :=
  bits c.toNat 31 28 == 1 && bits c.toNat 10 0 == 0 && bits (slotBits c 0) 31 8 == 0 &&
  (List.range 17).all fun n =>
    if slotOn c n then
      match decodeSlot c n with
      | some o => o.fieldsOk
      | none => false
    else slotBits c n == 0

/-- The first chord for which a test fails. -/
def firstChord (g : Image) (ok : BitVec 1024 → Bool) : Option Nat :=
  firstBelow g.len fun i => match g.chords[i]? with
    | some c => !ok c
    | none => false

/-- A chord's operations satisfy a test. -/
def opsAll (p : SlotOp → Bool) (c : BitVec 1024) : Bool := (chordOps c).all fun o => p o.2

/-- Chords with their operations. -/
def Image.ops (g : Image) : List (Nat × List (Nat × SlotOp)) :=
  (List.range g.len).map fun i => (i, match g.chords[i]? with
    | some c => chordOps c
    | none => [])

/-- R175: operations on one rank state carry its K, DIR and FMT: the state of each as (K, DIR, FMT), and the first chord that
breaks it. -/
def rankBreak (g : Image) : Option Nat :=
  let step (acc : SMap (Nat × Bool × Nat) × Option Nat) (x : Nat × SlotOp) : SMap (Nat × Bool × Nat) × Option Nat :=
    match x.2 with
    | .rku op f =>
      let key := f.st.toNat
      let v := (f.k.toNat, f.dir, f.fmt.toNat)
      match op, acc.1.find key with
      | .rkclr, _ => (acc.1.erase key, acc.2)
      | .rkout, some w => (acc.1, if w.2.2 = f.fmt.toNat ∨ acc.2.isSome = true then acc.2 else some x.1)
      | .rkout, none => acc
      | _, some w => (acc.1, if w = v ∨ acc.2.isSome = true then acc.2 else some x.1)
      | _, none => (acc.1.insert key v, acc.2)
    | _ => acc
  ((g.ops.flatMap fun c => c.2.map fun o => (c.1, o.2)).foldl step ([], none)).2

/-- The queries of a DXA array: every DQLD into it carries the FMT of its DSCORE operations (after Table 5.10): the formats seen of
each array, by 2 × array + (0 DQLD, 1 DSCORE), and the first chord that breaks it. -/
def queryBreak (g : Image) : Option Nat :=
  let see (acc : List (Nat × Nat) × Option Nat) (c key fmt : Nat) : List (Nat × Nat) × Option Nat :=
    let clash := acc.1.any fun e => e.1 == (if key % 2 = 0 then key + 1 else key - 1) && e.2 != fmt
    ((key, fmt) :: acc.1, if clash = false ∨ acc.2.isSome = true then acc.2 else some c)
  let step (acc : List (Nat × Nat) × Option Nat) (x : Nat × SlotOp) : List (Nat × Nat) × Option Nat :=
    match x.2 with
    | .dxa .dqld f => see acc x.1 (2 * f.array.toNat) f.fmt.toNat
    | .dxa .dscore f => see acc x.1 (2 * f.array.toNat + 1) f.fmt.toNat
    | _ => acc
  ((g.ops.flatMap fun c => c.2.map fun o => (c.1, o.2)).foldl step ([], none)).2

/-- R226: the first chord after cy 1391 with a GTE operation that carries RA 1. -/
def lateAhead (g : Image) : Option Nat :=
  (g.ops.find? fun c => decide (1391 < c.1) && c.2.any fun o => match o.2 with
    | .gte _ f => f.ra
    | _ => false).map fun c => c.1

/-- The lowest of some chord numbers. -/
def lowest (xs : List (Option Nat)) : Option Nat :=
  xs.foldl (fun a b => match a, b with
    | some m, some n => some (min m n)
    | some m, none => some m
    | none, b => b) none

/-- Tiles of a section with the entry numbers of the section's list. -/
def Image.sections (g : Image) : List (Bool × Nat × List (BitVec 128)) :=
  (false, 32, g.fret32) :: (match g.fret31 with
    | some f => [(true, 31, f)]
    | none => [])

/-- The first (section, tile) for which a test of its entry `f` fails. -/
def Image.badTile (g : Image) (f : Nat) (ok : Nat → BitVec 128 → Bool) : Option (Bool × Nat) :=
  g.sections.findSome? fun x =>
    (firstBelow x.2.1 fun t => !ok t (x.2.2.getD (t * g.fretN + f) 0)).map fun t => (x.1, t)

/-- Check 9: references beyond FRETN, then kinds, chord by chord, then the entries' own fields. Which of several failing chords,
entries and tiles SEQ_LOADERR names is not stated beyond R105: the model takes the first chord or lowest entry, these three in this
order, and the 32-tile section before the 31-tile one (DEDUCED, assumption 78). -/
def check9 (g : Image) : Option LoadFail :=
  let refs := g.ops.flatMap fun c => c.2.flatMap fun o =>
    (o.2.frets.map fun r => (c.1, r.1, some r.2.1)) ++ (o.2.fget.map fun f => (c.1, f, none))
  match refs.find? fun r => decide (g.fretN ≤ r.2.1) with
  | some r => some (failAt 9 r.1)
  | none =>
    match refs.findSome? (fun r => match r.2.2 with
      | some kinds => (g.badTile r.2.1 fun _ e => kinds.contains (fretKind e)).map fun b =>
          ({ check := 9, sect31 := b.1, tile := b.2, where_ := r.1 } : LoadFail)
      | none => none) with
    | some f => some f
    | none => (List.range g.fretN).findSome? fun f =>
        (g.badTile f fun _ e => fretOk e).map fun b => { check := 9, sect31 := b.1, tile := b.2, where_ := f }

/-- The uses of fret entry f: read, written, subject to check 14. -/
def Image.uses (g : Image) (f : Nat) : Bool × Bool × Bool :=
  let rs := (g.ops.flatMap fun c => c.2.flatMap fun o => o.2.frets).filter fun r => r.1 == f
  (rs.any fun r => r.2.2.1, rs.any fun r => r.2.2.2.1, rs.any fun r => r.2.2.2.2)

/-- A tenant's entries with ENG and a right cover a range (R459). -/
def State.grantCovers (s : State) (t : Tenant) (bit a n : Nat) : Bool :=
  n == 0 || (List.range ((a + n - 1) / 2 ^ 21 - a / 2 ^ 21 + 1)).all fun i =>
    let lo := max a ((a / 2 ^ 21 + i) * 2 ^ 21)
    s.sec.grants.any fun e => e.2.st == .active && e.2.tenant == t && e.2.right 3 && e.2.right bit && e.2.spans lo 1

def check10 (s : State) (g : Image) : Option LoadFail :=
  (List.range g.fretN).findSome? fun f =>
    let u := g.uses f
    (g.badTile f fun _ e =>
      let a := fretBase e
      let n := 128 * fretExtent e
      (!u.1 || s.grantCovers g.tenant 0 a n) && (!u.2.1 || s.grantCovers g.tenant 1 a n)).map fun b =>
    { check := 10, sect31 := b.1, tile := b.2, where_ := f }

/-- Writes of a chord with their landing cy; one operation that names a register twice (RMXQ with VC = VD) counts once, since check
11 is about two operations. -/
def landingsOf (c : Nat × List (Nat × SlotOp)) : List (Nat × Nat × Nat) :=
  c.2.flatMap fun o => o.2.writes.1.eraseDups.map fun w => (c.1 + o.2.writes.2, w.1, w.2)

/-- No element of a list occurs in it again. -/
def distinct : List (Nat × Nat × Nat) → Bool
  | [] => true
  | x :: xs => !xs.contains x && distinct xs

/-- Check 11: a fixed register, or two writes of one register on one cy. -/
def check11 (g : Image) : Option LoadFail :=
  let fixed (w : Nat × Nat) : Bool := w.1 == 1 && (w.2 == 0 || w.2 == 62 || w.2 == 63)
  let step (acc : List (Nat × Nat × Nat) × Option Nat) (c : Nat × List (Nat × SlotOp)) : List (Nat × Nat × Nat) × Option Nat :=
    if acc.2.isSome then acc
    else
      let new := landingsOf c
      let bad := c.2.any (fun o => o.2.writes.1.any fixed) || !distinct new || new.any fun w => acc.1.contains w
      (acc.1.filter (fun w => decide (c.1 < w.1)) ++ new, if bad then some c.1 else none)
  ((g.ops.foldl step ([], none)).2).map (failAt 11)

def check12 (g : Image) : Option LoadFail :=
  ((g.ops.find? fun c => c.2.any fun o => o.2.bounded && decide (1407 < c.1 + o.2.writes.2)).map fun c => c.1).map (failAt 12)

/-- Cys on which the request lane holds RDB: 20 and 21 after each chord whose QS slot serves class 5 (R122). -/
def Image.rdbHeld (g : Image) : List Nat :=
  g.ops.flatMap fun c => if c.2.any (fun o => match o.2 with
    | .qs m => m.getLsbD 5
    | _ => false) then [c.1 + 20, c.1 + 21] else []

/-- Check 13: an operation issues while an earlier one of its slot still occupies the unit, or occupies RDB on a cy that R122
reserves. -/
def check13 (g : Image) : Option LoadFail :=
  let held := g.rdbHeld
  let step (acc : SMap Nat × Option Nat) (c : Nat × List (Nat × SlotOp)) : SMap Nat × Option Nat :=
    c.2.foldl (fun acc o =>
      let free := decide (SMap.get 0 acc.1 o.1 ≤ c.1) &&
        !(o.1 == 8 && held.any fun t => decide (c.1 ≤ t ∧ t < c.1 + o.2.occ))
      (acc.1.insert o.1 (c.1 + o.2.occ), if acc.2.isSome = true ∨ free = true then acc.2 else some c.1)) acc
  ((g.ops.foldl step ([], none)).2).map (failAt 13)

def check14 (g : Image) : Option LoadFail :=
  (List.range g.fretN).findSome? fun f =>
    if (g.uses f).2.2 then
      (g.badTile f fun t e => inWindow (BitVec.ofNat 5 t) (fretBase e) (128 * fretExtent e)).map fun b =>
        { check := 14, sect31 := b.1, tile := b.2, where_ := f }
    else none

/-- The checks that fail, in ascending number (R98, R99). Check 4 counts the key slots that a removal retires: a slot that a
KEY_ROTATE left RETIRING belongs to a tenant that stays ACTIVE with a new key (DEDUCED, assumption 78). -/
def State.loadFails (s : State) (b : List Byte) : List LoadFail :=
  if sha384 (b.drop 0x40) != sub b 0x10 48 then [failAt 1 0]
  else if !headerOk b then [failAt 2 0]
  else
    let g := imageOf b
    let full := (s.segment g.no).isNone && decide (64 ≤ s.seg.length)
    let gone := (s.tenant g.tenant).st != .active || (s.slotsOf g.tenant).any fun i => (s.slot i).st == .retiring && (s.slot i).removal
    let absent := s.noDistance
    let has (c : BitVec 1024) : Bool := !(absent && (List.range 5).any fun i => slotOn c (11 + i))
    let c5 := lowest [firstChord g chordFormOk, rankBreak g, queryBreak g, lateAhead g]
    (if full then [failAt 3 0] else []) ++ (if gone then [failAt 4 0] else []) ++ (c5.map (failAt 5)).toList ++
      ((firstChord g has).map (failAt 6)).toList ++ ((firstChord g (opsAll SlotOp.fmtOk)).map (failAt 7)).toList ++
      ((firstChord g (opsAll fun o => predMode o.pred < 3 || o.maskOk)).map (failAt 8)).toList ++ (check9 g).toList ++
      (check10 s g).toList ++ (check11 g).toList ++ (check12 g).toList ++ (check13 g).toList ++ (check14 g).toList

/-- The failure that a load reports (R99). -/
def reported (fs : List LoadFail) : Option LoadFail :=
  [Status.tenantGone, .noGrant, .unitAbsent, .formatUnsupported].findSome? fun st => fs.find? fun f => checkStatus f.check == st

/-! ### Loading -/

/-- The lowest free descriptor (choice of the model). -/
def State.freeDescriptor (s : State) : Option Nat := firstBelow 64 fun i => (s.seg.find i).isNone

def State.eraseSegment (s : State) (no : SegNo) : State := { s with seg := s.seg.filter fun e => e.2.image.no != no }

/-- The load at the front begins: a segment that is not loaded shows VERIFYING from now on (R100). An image whose header breaks Table
3.12 names no segment that could be shown, and no descriptor shows it (DEDUCED, assumption 79). -/
def State.loadBegin (s : State) (b : List Byte) : State :=
  let g := imageStub b
  if headerOk b = false ∨ (s.segment g.no).isSome = true then s
  else
    match s.freeDescriptor with
    | some i => { s with seg := s.seg.insert i { image := g, st := .verifying, pendRepl := false, epoch := 0, unloading := false } }
    | none => s

/-- The stroke by which a load read now completes (R97). -/
def State.loadBy (s : State) (b : List Byte) : Nat := s.time.stroke + 256 + leAt b 6 2

/-- SEG_LOAD (R97): the image is read, and the load waits its turn. -/
def State.cmdSegLoad (s : State) (c : Cmd) : State :=
  s.command c 0x10 0x40 fun r s =>
    let b := s.cmdBuf c c.buflen.toNat
    let first := s.fw.loads.isEmpty
    let s : State := { s with fw := { s.fw with loads := s.fw.loads ++ [(r, b, s.loadBy b)] } }
    if first then s.loadBegin b else s

/-- The next load begins; the stroke by which it completes stays that of its reading (R97). -/
def State.loadNext (s : State) : State :=
  match s.fw.loads with
  | [] => s
  | (_, b, _) :: _ => s.loadBegin b

/-- The supervisor core that performs loads (Table 17.1): that of SEQ0 unless it is out of service or held. -/
def State.loadCore (s : State) : Nat :=
  if bitAt (s.rv .ctlStkout) 24 || s.pwr.lostSeq.getLsbD 0 || s.rf .ctlWdtstat 31 31 0 19 == 1 then 20 else 19

/-- The load at the front completes (R98 to R101). -/
def State.loadDone (s : State) : State :=
  match s.fw.loads with
  | [] => s
  | (r, b, _) :: xs =>
    let s : State := { s with fw := { s.fw with loads := xs } }
    let no := (imageStub b).no
    let verifying : Bool := match s.segment no with
      | some g => g.st == .verifying && !s.isDue (.segReady no)
      | none => false
    let others : State := if verifying then s.eraseSegment no else s
    let res := reported (others.loadFails b)
    let st := match res with
      | some f => checkStatus f.check
      | none => .ok
    let s := match res with
      | some f =>
        let s := if headerOk b then others else s
        let s := s.wv .seqLoaderr (fld (checkStatus f.check).code 24 + fld f.check 20 + fld (b2n f.sect31) 16 + fld f.tile 11 +
          f.where_)
        s.wv .seqLoaderrSeg no.toNat
      | none =>
        let g := imageOf b
        if verifying then (s.updSegment no fun x => { x with image := { g with no := no } }).latchNext (.segReady no)
        else (s.updSegment no fun x => { x with pendRepl := true }).latchNext (.segReplace g)
    ((s.complete r st).trace s.loadCore 2 0x5001 [no.toNat, st.code]).loadNext

/-- The load in execution ends with UNIT_LOST (Tables 17.1 and 19.2): the image is not taken. -/
def State.loadAbort (s : State) : State :=
  match s.fw.loads with
  | [] => s
  | (r, b, _) :: xs =>
    let s : State := { s with fw := { s.fw with loads := xs } }
    let no := (imageStub b).no
    let verifying : Bool := match s.segment no with
      | some g => g.st == .verifying && !s.isDue (.segReady no)
      | none => false
    let s := if verifying then s.eraseSegment no else s
    ((s.complete r .unitLost).trace s.loadCore 2 0x5001 [no.toNat, Status.unitLost.code]).loadNext

/-- Loads whose time has come, one after the other. -/
def State.loadsDue (s : State) : State :=
  match s.fw.loads with
  | (_, _, n) :: _ => if n ≤ s.time.stroke ∧ s.rf .ctlWdtstat 31 31 0 s.loadCore = 0 then s.loadDone else s
  | [] => s

/-- A verified segment becomes READY (R100). The tenant epoch it is bound to (R103) is the one at this boundary, after the changes
accepted earlier for it, and not the one at the load check (DEDUCED, assumption 79). -/
def State.segReady (s : State) (no : SegNo) : State :=
  match s.segment no with
  | some g =>
    if g.st = .verifying then
      (s.updSegment no fun x => { x with st := .ready, epoch := (s.tenant g.image.tenant).epoch }).blockChanged g.image.tenant
    else s
  | none => s

/-- A verified replacement takes effect (R101). -/
def State.segReplace (s : State) (g : Image) : State :=
  let x : Segment := { image := g, st := .ready, pendRepl := false, epoch := (s.tenant g.tenant).epoch, unloading := false }
  match s.segment g.no with
  | some old => ((s.updSegment g.no fun _ => x).blockChanged old.image.tenant).blockChanged g.tenant
  | none =>
    match s.freeDescriptor with
    | some i => ({ s with seg := s.seg.insert i x }).blockChanged g.tenant
    | none => s

/-- An unload takes effect (R102). -/
def State.segRemove (s : State) (no : SegNo) : State :=
  match s.segment no with
  | some g => (s.eraseSegment no).blockChanged g.image.tenant
  | none => s

/-- SEG_UNLOAD (R102). -/
def State.cmdSegUnload (s : State) (c : Cmd) : State :=
  s.command c 0x11 0 fun r s =>
    let no := BitVec.ofNat 16 (bits c.arg0.toNat 15 0)
    match s.segment no with
    | some g =>
      if no = 0 ∨ g.st = .verifying ∨ g.unloading = true then s.complete r .formatUnsupported
      else (s.segUnloadLatch no).complete r .ok
    | none => s.complete r .formatUnsupported

/-! ### Disabling (R547 to R550) -/

/-- SEG_DISABLE (R547): it completes when the segment's operations are done (R550). -/
def State.cmdSegDisable (s : State) (c : Cmd) : State :=
  s.command c 0x12 0 fun r s =>
    let no := BitVec.ofNat 16 (bits c.arg0.toNat 15 0)
    match s.segment no with
    | some g =>
      if g.st = .ready then
        let s := s.latchNext (.segDisable no)
        { s with fw := { s.fw with disabling := s.fw.disabling ++ [(no, some r)] } }
      else s.complete r .formatUnsupported
    | none => s.complete r .formatUnsupported

def State.segDisable (s : State) (no : SegNo) : State :=
  s.updSegment no fun g => if g.st = .ready then { g with st := .disabled } else g

/-- Counters that CTR fields with CTREN 1 name. -/
def SlotOp.counters : SlotOp → List (BitVec 9)
  | .gte _ f => if f.ctren then [f.ctr] else []
  | .mov _ f => if f.ctren then [f.ctr] else []
  | _ => []

/-- Fret entries that STA, GTE and MCOPY operations write to. -/
def SlotOp.dests : SlotOp → List Nat
  | .st _ f => [f.fret.toNat]
  | .gte _ f => [f.dst.toNat]
  | .mov .mcopy f => [f.dst.toNat]
  | _ => []

/-- Firmware clears what a disabled segment left (R550). -/
def State.segClear (s : State) (g : Image) : State :=
  let ops := g.ops.flatMap fun c => c.2.map fun o => o.2
  let ctrs := (ops.flatMap SlotOp.counters).eraseDups
  let dests := (ops.flatMap SlotOp.dests).eraseDups
  forEach s.scds (fun k s =>
    let s := forEach ctrs (fun c s => (s.setCtr k c 0).setCtr k (c ^^^ 0x100) 0) s
    forEach dests (fun f s =>
      let e := s.fretEntry g k f
      match s.region (fretBase e) with
      | .scratch _ => s.eraseRange (fretBase e) (fretBase e + 128 * fretExtent e)
      | _ => s) s) s

/-- Every operation of a disabled segment has completed: firmware clears it, and SEG_DISABLE completes (R550). -/
def State.segCleanup (s : State) (no : SegNo) : State :=
  match s.fw.disabling.find? fun x => x.1 == no with
  | none => s
  | some x =>
    let off := match s.segment no with
      | some g => g.st != .ready
      | none => true
    if !off || s.isDue (.segDisable no) || s.eng.ops.any (fun (o : EngOp) => o.seg == no) then s
    else
      let s : State := { s with fw := { s.fw with disabling := dropFirst (fun y => y == x) s.fw.disabling } }
      let s := match s.segment no with
        | some g => s.segClear g.image
        | none => s
      match x.2 with
      | some r => s.complete r .ok
      | none => s

/-- Disabled segments whose operations have all completed. -/
def State.segCleanups (s : State) : State := forEach (s.fw.disabling.map fun x => x.1) (fun no s => s.segCleanup no) s

/-! ### Tiles (R104) -/

/-- The layout of the tiles changes; with the 31-tile layout, a record names each segment without a 31-tile section. -/
def State.installTiles (s : State) (on : Bool) : State :=
  let s : State := { s with scd := { s.scd with layout31 := on } }
  if on then
    forEach (s.seg.filter fun e => e.2.st != .verifying && e.2.image.fret31.isNone) (fun e s =>
      s.event 0x0022 1 kindSegment e.2.image.no.toNat []) s
  else s

/-! ### The segment of a stroke (R54, R55, R103) -/

/-- The slot-schedule entry of stroke n: its index and the segment it names. -/
def State.scheduled (s : State) (n : Nat) : Nat × SegNo :=
  let i := n % max 1 (s.rf .seqSlotsched 22 16)
  (i, BitVec.ofNat 16 (s.rf .seqSlotentA 15 0 0 i))

/-- The segment that the stroke beginning now runs, and the state with the record of R55. -/
def State.chooseSegment (s : State) : State :=
  let n := s.time.stroke
  let e := s.scheduled n
  let run (no : SegNo) (s : State) : State := { s with time := { s.time with running := no } }
  let remap : Bool := match s.time.remapUntil with
    | some m => decide (n ≤ m)
    | none => false
  if s.time.skipped || remap || e.2 == 0 then run 0 s
  else
    match s.segment e.2 with
    | none => (run 0 s).event 0x0021 2 kindSegment e.2.toNat [e.1]
    | some g =>
      match g.st with
      | .verifying => (run 0 s).event 0x0021 2 kindSegment e.2.toNat [e.1]
      | .disabled => run 0 s
      | .ready =>
        if g.epoch ≠ (s.tenant g.image.tenant).epoch ∨ (s.scd.layout31 && g.image.fret31.isNone) = true then run 0 s
        else run e.2 s

/-! ### Rows -/

def execSegLoad (c : Cmd) (s : State) : Host.Outcome State Fault Refusal := .next (s.cmdSegLoad c)
def execSegUnload (c : Cmd) (s : State) : Host.Outcome State Fault Refusal := .next (s.cmdSegUnload c)
def execSegDisable (c : Cmd) (s : State) : Host.Outcome State Fault Refusal := .next (s.cmdSegDisable c)

/-- SEGMENT_LOAD_COMPLETE (R97, R98): the load in execution, when it is of this segment, completes. -/
def execSegmentLoadComplete (seg : SegNo) (s : State) : Host.Outcome State Fault Refusal :=
  .next (match s.fw.loads with
    | (_, b, _) :: _ => if (imageStub b).no = seg then s.loadDone else s
    | [] => s)
/-- SEG_DISABLE_CLEANUP (R550). -/
def execSegDisableCleanup (seg : SegNo) (s : State) : Host.Outcome State Fault Refusal := .next (s.segCleanup seg)
end Sys2Proof.Machine
end

