-- ==== Sys2Proof/Machine/RegOps.lean ====
section
/-! DEFINITION. What a register write does to the stored value by the access codes of Table 0.3, and the changes that wait for
a boundary. -/

namespace Sys2Proof.Machine

/-- The stored value of a register reference. -/
def State.get (s : State) (x : RegRef) : Nat := (SMap.get x.reset s.regs x.addr).toNat

/-- Store a value under a register reference. -/
def State.put (s : State) (x : RegRef) (v : Nat) : State :=
  { s with regs := SMap.set x.reset s.regs x.addr (BitVec.ofNat 32 v) }

/-- The value that a write leaves (R7): RW fields take the written bits, a 1 clears an RW1C bit, RO fields keep their value,
WO fields store nothing. -/
def RegRef.merge (x : RegRef) (old w : Nat) : Nat :=
  let p := x.reg.spec
  let rw := p.mask .rw
  let c := p.mask .w1c
  let keep := old &&& (2 ^ 32 - 1 - rw - (c &&& w))
  keep ||| (w &&& rw)

/-- Bits that a write must carry as zero: RSV fields (R8, R9), MEDIA of a PHE among them (Table 13.7). -/
def RegRef.rsv (x : RegRef) : Nat :=
  x.reg.spec.rsv + (if x.reg = .laneOctcfg ∧ x.unit < 16 then 4 else 0)

/-- A write acts at once. -/
def State.putNow (s : State) (x : RegRef) (w : Nat) : State := s.put x (x.merge (s.get x) w)

/-- A write whose effect waits for the boundary of R47. -/
def State.putLater (s : State) (x : RegRef) (w : Nat) : State := s.writeDeferred x (x.merge (s.get x) w)

end Sys2Proof.Machine
end

