-- ==== Sys2Proof/Machine/Lanes.lean ====
section
/-! DEFINITION. Lanes, spares, ports and sideband pins (13_lanes_ports_pins.md), and the alignment to PTP time (R49 to R52). -/

namespace Sys2Proof.Machine

/-! ### Lanes and spares -/

/-- The power state that CTL_BRINGUP shows. -/
def State.pstate (s : State) : Nat := s.rf .ctlBringup 25 24

/-- Kind and unit number of a PHE or EIO in event records (Table 19.4). -/
def laneKind (u : Nat) : Nat := if u < 16 then kindPhe else kindEio
def laneUnit (u : Nat) : Nat := if u < 16 then u else u - 16

/-- The spare that serves a lane (Table 13.3). -/
def spareOf (u lane : Nat) : Nat := if u < 16 then lane / 8 else lane / 16

/-- First port number of a die unit. -/
def unitFirst (u : Nat) : Nat := octetFirst u 0

/-- The port whose run of lanes holds a lane of a die (R390, R391). -/
def State.portOfLane (s : State) (u lane : Nat) : Nat :=
  let q := unitFirst u + lane
  q - q % 8 % modeLanes (s.octMode q)

/-- The lanes of a port, as local numbers on its die. -/
def State.lanesOf (s : State) (p : Nat) : List Nat :=
  (List.range (modeLanes (s.octMode p))).map fun i => portIndex p + i

/-- Every lane of a port has a carrier that works: none is marked FAILED (R397). -/
def State.lanesGood (s : State) (p : Nat) : Bool :=
  (s.lanesOf p).all fun l => s.rf .laneLane 28 28 (portUnit p) l == 0

/-- Set or clear LOCK and SIG of the lanes of a port. -/
def State.setLock (s : State) (p v : Nat) : State :=
  (s.lanesOf p).foldl (fun s l => (s.wf .laneLane 31 31 v (portUnit p) l).wf .laneLane 30 30 v (portUnit p) l) s

/-- The laser of a port's PHE runs (R401): EN is 1, its fault pin is high and the device is in L0 or L1, no shutdown having
begun (PHASE 0x40 to 0x42, R551); electrical ports have none. -/
def State.laserOn (s : State) (p : Nat) : Bool :=
  decide (512 ≤ p) ||
  (s.rf .pheLsrctl 31 31 (portUnit p) == 1 && s.lanes.lsrFltN.getLsbD (portUnit p) &&
   decide (s.rf .ctlBringup 25 24 ≤ 1) && !s.pwr.trip &&
   !(decide (0x40 ≤ s.rf .ctlBringup 7 0) && decide (s.rf .ctlBringup 7 0 ≤ 0x42)))

/-- The device drives its outputs: PWR_GOOD and FRST_N are high (R410). -/
def State.driving (s : State) : Bool := s.lanes.frstN && s.lanes.pwrGood

/-- LSR_EN[n] is driven high (R401); else it is low, driven or released (Table 13.6). -/
def State.lsrEn (s : State) (n : Nat) : Bool := s.driving && s.laserOn (32 * n) && !s.pwr.lostLane.getLsbD n

/-- How the device leaves an output: released (or tri-stated), or driven. -/
inductive Drive
  | released | low | high
  deriving DecidableEq, Repr

/-- A level that the device drives while it drives its outputs. -/
def State.drives (s : State) (v : Bool) : Drive := if !s.driving then .released else if v then .high else .low

/-- The output pins of Table 13.6. An open-drain output is released rather than driven high. -/
def State.lsrEnPin (s : State) (n : Nat) : Drive := s.drives (s.lsrEn n)
def State.ppsOutPin (s : State) : Drive := s.drives s.lanes.ppsOut
def State.thermTripPin (s : State) : Drive := if s.driving && !s.lanes.thermTripN then .low else .released
def State.alertPin (s : State) : Drive := if s.driving && !s.alertN then .low else .released

/-- BOOT_SPI_*: driven while the device reads images and the record in phases 0x01 to 0x04, and while it writes the record of a
shutdown (Table 13.6); DESIGN CHOICE (log entry 83): the spec gives no levels and no exact cys. -/
def State.bootSpiDriven (s : State) : Bool :=
  let ph := s.rf .ctlBringup 7 0
  s.driving && ((decide (1 ≤ ph) && decide (ph ≤ 4)) || ph == 0x41)

/-- TDO is driven in Shift-DR and Shift-IR only, and TRST_N low holds the TAP in reset. -/
def State.tdoDriven (s : State) : Bool := s.driving && s.lanes.test.trstN && s.lanes.test.shift

/-- A lane is marked FAILED and its port stays down (R397). -/
def State.laneFailed (s : State) (u lane p : Nat) : State :=
  let s := (s.wf .laneLane 28 28 1 u lane).portDown p
  s.event 0x0008 1 (laneKind u) (laneUnit u) [lane, p]

/-- A lane takes the spare of its group, which retrains in the next three strokes (R396). -/
def State.takeSpare (s : State) (u lane p : Nat) : State :=
  let g := spareOf u lane
  let x : Retrain := { unit := u, spare := g, lane := lane, from_ := s.time.stroke + 4, port := p }
  let s := s.portDown p
  let s : State := { s with lanes := { s.lanes with retrain := s.lanes.retrain ++ [x] } }
  s.event 0x0007 2 (laneKind u) (laneUnit u) [lane, g, p]

/-- A fault of a lane that is to be swapped (R395 to R397). Of two faults of a group in one stroke the lower-numbered lane
takes the spare. -/
def State.laneSwap (s : State) (u lane : Nat) : State :=
  let g := spareOf u lane
  let p := s.portOfLane u lane
  let used := s.rf .laneSpare 31 30 u g ≠ 0
  match s.lanes.retrain.find? fun x => x.unit == u && x.spare == g with
  | some x =>
    if x.from_ = s.time.stroke + 4 ∧ lane < x.lane then
      let s : State := { s with lanes := { s.lanes with retrain := s.lanes.retrain.filter fun y => y != x } }
      (s.laneFailed u x.lane x.port).takeSpare u lane p
    else s.laneFailed u lane p
  | none => if used then s.laneFailed u lane p else s.takeSpare u lane p

/-- The swap of a lane did not clear its fault: the spare stays in use and the lane is FAILED (R395). -/
def State.swapFailed (s : State) (x : Retrain) : State :=
  let s : State := { s with lanes := { s.lanes with retrain := s.lanes.retrain.filter fun y => y != x } }
  s.laneFailed x.unit x.lane x.port

/-- The swap of a lane that is in progress. -/
def State.swapOf (s : State) (u lane : Nat) : Option Retrain :=
  s.lanes.retrain.find? fun x => x.unit == u && x.lane == lane

/-- The port of a lane is up, or went down in this stroke when another of its lanes was swapped. -/
def State.laneInUse (s : State) (u lane : Nat) : Bool :=
  let p := s.portOfLane u lane
  s.portUp p || s.lanes.retrain.any fun x => x.port == p && x.from_ == s.time.stroke + 4 && x.lane != lane

/-- A lane loses lock or signal (R395); with AUTO 0 its port is down until it relocks (R398, text after it). -/
def State.laneFault (s : State) (u lane : Nat) : State :=
  let inUse := s.laneInUse u lane
  let s := (s.wf .laneLane 31 31 0 u lane).wf .laneLane 30 30 0 u lane
  match s.swapOf u lane with
  | some x => if x.from_ ≤ s.time.stroke then s.swapFailed x else s
  | none =>
  if !inUse then s
  else if s.rf .laneSwapcfg 31 31 u = 1 then s.laneSwap u lane
  else s.portDown (s.portOfLane u lane)

/-- A 64-stroke window ends with a count of pre-FEC symbol errors (R395), whether or not the lane's port is up. -/
def State.laneWindow (s : State) (u lane count : Nat) : State :=
  let s := s.wf .laneLane 15 0 count u lane
  if s.rf .laneSwapcfg 31 31 u = 1 ∧ s.rf .laneSwapcfg 15 0 u < count ∧ s.portUsable (s.portOfLane u lane) = true ∧
      s.rf .laneLane 28 28 u lane = 0 then
    match s.swapOf u lane with
    | some x => if x.from_ ≤ s.time.stroke then s.swapFailed x else s
    | none => s.laneSwap u lane
  else s

/-- A spare carries its lane (R396). -/
def State.spareCarries (s : State) (x : Retrain) : State :=
  ((s.wf .laneSpare 31 31 1 x.unit x.spare).wf .laneSpare 4 0 x.lane x.unit x.spare).wf .laneLane 29 29 1 x.unit x.lane

/-- The stroke at whose cy 0 the port of a swapped lane comes up, once the link partner has relocked (R396). -/
def Retrain.upAt (x : Retrain) : Option Nat := x.relock.map fun n => max x.from_ (n + 1)

/-- The spare carries its lane, the link partner has relocked, and the port comes up (R396). -/
def State.spareSwapped (s : State) (x : Retrain) : State :=
  let s : State := { s with lanes := { s.lanes with retrain := s.lanes.retrain.filter fun y => y != x } }
  let s := s.spareCarries x
  if s.lanesGood x.port && s.laserOn x.port && s.driving then (s.setLock x.port 1).portRise x.port else s

/-- The link partner relocks in the present stroke. -/
def State.relocked (s : State) (x : Retrain) : State :=
  { s with lanes := { s.lanes with retrain := s.lanes.retrain.map fun y =>
      if y = x then { x with relock := some (x.relock.getD s.time.stroke) } else y } }

/-- cy 0: from its first stroke on a spare carries its lane, and the port comes up when the partner has relocked (R396). -/
def State.sparesCarry (s : State) : State :=
  s.lanes.retrain.foldl (fun s x =>
    let up : Bool := match x.upAt with
      | some n => decide (n ≤ s.time.stroke)
      | none => false
    if up then s.spareSwapped x else if x.from_ ≤ s.time.stroke then s.spareCarries x else s) s

/-- The record marks M0 or M1 as failed (Table 18.11). -/
def State.mgmtFailed (s : State) (m1 : Bool) : Bool :=
  match s.pwr.marks with
  | some b => bitAt (leAt b 0xC8 4) (if m1 then 13 else 12)
  | none => false

/-- The fabric lanes may run (Table 13.6): outputs are driven, and the device is not in L2, L3 or after a trip. -/
def State.fabricLive (s : State) : Bool := s.driving && decide (s.pstate ≤ 1) && !s.pwr.trip

/-- M0 and M1 may run (Table 13.6): also in L2. -/
def State.mgmtLive (s : State) : Bool := s.driving && decide (s.pstate ≤ 2) && !s.pwr.trip

/-- A port completes training (R393), if its transmitter may run; M0 and M1 as CTL_MGMT shows them, the port that STRAP_MGMT_SEL
leaves out never (R400). -/
def State.trained (s : State) (p : Nat) : State :=
  if p = portM0 ∨ p = portM1 then
    if s.lanes.mgmtHeld.getLsbD (p - portM0) then s
    else if s.mgmtFailed (p == portM1) || !s.mgmtLive then s
    else s.wf .ctlMgmt (if p = portM0 then 31 else 30) (if p = portM0 then 31 else 30) 1
  else if s.portUp p || !s.portUsable p || !s.lanesGood p || !s.laserOn p || !s.fabricLive then s
  else if s.lanes.retrain.any fun x => x.port == p then s
  else (s.setLock p 1).portRise p

/-- A management port loses its link (R412): frames in transmission on it are lost. -/
def State.mgmtDown (s : State) (p : Nat) : State :=
  if !s.portUp p then s
  else
    let bit := if p = portM0 then 31 else 30
    let inFlight (x : Sent) : Bool :=
      x.frame.port.toNat == p && !x.lost && decide (s.now < x.at_ + 96 + ceilDiv (12 * x.frame.size) (s.portRate p))
    let wire := s.net.wire.map fun x => if inFlight x then { x with lost := true } else x
    let s : State := { s with net := { s.net with wire := wire, busy := s.net.busy.erase p } }
    s.wf .ctlMgmt bit bit 0

/-! ### Octets and lasers -/

/-- Every port of an octet is down (R393). -/
def State.octetDown (s : State) (u o : Nat) : State :=
  (List.range 8).foldl (fun s i =>
    let p := octetFirst u o + i
    let s := s.portDown p
    (s.wf .laneLane 31 31 0 u (8 * o + i)).wf .laneLane 30 30 0 u (8 * o + i)) s

/-- Every port of a die is down. -/
def State.dieDown (s : State) (u : Nat) : State := (List.range 4).foldl (fun s o => s.octetDown u o) s

/-- A write of _OCTCFG takes effect (R393): its ports go down, and a spare that waits for the partner serves the port that its
lane belongs to now. -/
def State.octetApply (s : State) (u o : Nat) (v : Word) : State :=
  let s := s.octetDown u o
  let s := s.actOn (RegRef.mk .laneOctcfg u o 0).addr v
  let move (x : Retrain) : Retrain :=
    if x.unit = u ∧ x.lane / 8 = o then { x with port := s.portOfLane u x.lane } else x
  { s with lanes := { s.lanes with retrain := s.lanes.retrain.map move } }

/-- A write of _OCTCFG: latched for the boundary of R47 (R393). -/
def State.octcfgWrite (s : State) (x : RegRef) (w : Nat) : State :=
  let v := x.merge (s.get x) w
  (s.putWaiting x v).latchNext (.octet x.unit x.i (BitVec.ofNat 32 v))

/-- A write of PHE_LSRCTL (R401, R403): EN 1 is discarded while the source is faulted; an accepted one retrains the ports, and
EN 0 makes them dark. -/
def State.lsrctlWrite (s : State) (x : RegRef) (w : Nat) : State :=
  if bitAt w 31 && !s.lanes.lsrFltN.getLsbD x.unit then s
  else
    let was := bitAt (s.get x) 31
    let s := s.putNow x w
    if was || bitAt w 31 then s.dieDown x.unit else s

/-- LSR_FLT_N[n] goes low (R402). -/
def State.laserFault (s : State) (n : Nat) : State :=
  let s : State := { s with lanes := { s.lanes with lsrFltN := s.lanes.lsrFltN &&& ~~~((1 : BitVec 16) <<< n) } }
  let s := (s.wf .pheLsrctl 31 31 0 n).wf .pheLsrctl 29 29 1 n
  (((s.dieDown n).alert 1).event 0x0009 1 kindPhe n [])

/-! ### Alignment (R49 to R52) -/

/-- The SEQ that measures the alignment: SEQ0, or SEQ1 once SEQ0 is lost. -/
def State.leadSeq (s : State) : Nat := if s.pwr.lostSeq.getLsbD 0 || bitAt (s.rv .ctlStkout) 24 then 1 else 0

/-- A measured offset of the stroke boundary from PTP time, in ns (R49 to R51). -/
def State.offset (s : State) (off : BitVec 16) : State :=
  let s := s.wf .seqAlign 15 0 off.toNat
  let far := 64 < off.toInt.natAbs
  let locked := s.rf .seqAlign 31 31 = 1
  if far then
    if locked then
      let s := (s.wf .seqAlign 31 31 0).wf .seqAlign 30 30 1
      let s : State := { s with lanes := { s.lanes with ppsOut := false } }
      (s.alert 0).event 0x0030 1 kindSeq s.leadSeq [off.toNat]
    else s
  else if s.time.aligned then s.wf .seqAlign 31 31 1
  else s

/-- The management port that gives PTP time: SRC 0b00 M0, 0b01 M1, 0b10 the primary port (Table 13.5). -/
def State.ptpOnM1 (s : State) : Bool :=
  match s.rf .seqAlign 17 16 with
  | 0 => false
  | 1 => true
  | _ => s.lanes.straps.getLsbD 1

/-- A PTP message on a management port: the time of day, and the phase unless PPS_IN gives it (Table 2.4). -/
def State.ptp (s : State) (m1 : Bool) (time : Dword) (off : BitVec 16) : State :=
  if m1 != s.ptpOnM1 || !s.portUp (if m1 then portM1 else portM0) then s
  else
    let s : State := { s with time := { s.time with ptp := time } }
    if s.rf .seqAlign 17 16 = 2 then s else s.offset off

/-- PPS_OUT rises on a PTP second while LOCKED is 1, for 1 ms (R408). -/
def State.ppsRise (s : State) (second : Dword) : State :=
  if s.rf .seqAlign 31 31 = 1 ∧ s.ready = true then
    let s : State := { s with lanes := { s.lanes with ppsOut := true, ppsSecond := second } }
    s.after (s.now + 1500000) .ppsLow
  else s

/-! ### I3C (R406, R559) -/

/-- The I3C target answers (R406). -/
def State.i3cUp (s : State) : Bool := s.driving

/-- The static address of the I3C target (R406). -/
def i3cStatic : BitVec 7 := 0x3A

/-- The registers that the I3C target reaches (R559). -/
def i3cReaches (a : Nat) : Bool :=
  a == 0 || a == 4 || a == 0x500000 || a == 0x500004 || (decide (0x1400 ≤ a ∧ a ≤ 0x141C) && a % 4 == 0)

/-! ### Rows -/

/-- LINK_TRAINING_COMPLETE (R393). -/
def execLinkTrainingComplete (p : Port) (s : State) : Host.Outcome State Fault Refusal := .next (s.trained p.toNat)

/-- LANE_FAULT (R395 to R397). -/
def execLaneFault (u : BitVec 5) (lane : BitVec 5) (s : State) : Host.Outcome State Fault Refusal :=
  if u.toNat < 20 then .next (s.laneFault u.toNat lane.toNat) else .refused (.reservedOperand "LANE_FAULT")

/-- LANE_SERR_WINDOW (R395). -/
def execLaneSerrWindow (u : BitVec 5) (lane : BitVec 5) (count : BitVec 16) (s : State) :
    Host.Outcome State Fault Refusal :=
  if u.toNat < 20 then .next (s.laneWindow u.toNat lane.toNat count.toNat)
  else .refused (.reservedOperand "LANE_SERR_WINDOW")

/-- LASER_FAULT (R402). -/
def execLaserFault (n : BitVec 4) (s : State) : Host.Outcome State Fault Refusal := .next (s.laserFault n.toNat)

/-- PPS_OUT_PULSE (R408). -/
def execPpsOutPulse (second : Dword) (s : State) : Host.Outcome State Fault Refusal := .next (s.ppsRise second)

/-- PTP_MESSAGE (R49 to R51). -/
def execPtpMessage (m1 : Bool) (time : Dword) (offset : BitVec 16) (s : State) : Host.Outcome State Fault Refusal :=
  .next (s.ptp m1 time offset)

/-- PPS_IN_PULSE (R49, Table 2.4): the phase of the PTP second when SRC is 0b10. -/
def execPpsInPulse (offset : BitVec 16) (s : State) : Host.Outcome State Fault Refusal :=
  .next (if s.rf .seqAlign 17 16 = 2 then s.offset offset else s)

/-- I3C_ADDRESS_ASSIGN (R406): SETDASA, which names a static address, or ENTDAA; a silent target takes no address, and neither
does one whose static address is not the one named. -/
def execI3cAddressAssign (a : I3cAssign) (s : State) : Host.Outcome State Fault Refusal :=
  .next (if s.i3cUp && (a.dasa.isNone || a.dasa == some i3cStatic) then
      { s with lanes := { s.lanes with i3cAddr := some a.addr } }
    else s)

/-- MGMT_LINK_LOSS (R412). -/
def execMgmtLinkLoss (m1 : Bool) (s : State) : Host.Outcome State Fault Refusal :=
  .next (s.mgmtDown (if m1 then portM1 else portM0))

end Sys2Proof.Machine
end

