-- ==== Sys2Proof/Machine/Loss.lean ====
section
/-! DEFINITION. Loss of a unit and its consequences (19_faults.md R567 to R574), and the return of an SCD after an SCD reset
(R539, R540). -/

namespace Sys2Proof.Machine

/-! ### What is lost with an SCD (Table 19.2) -/

/-- The SCD a timed event belongs to; what crosses to another die has none. -/
def Timed.scd : Timed → Option Scd
  | .land (.vec k _ _ _) | .land (.sca k _ _) | .land (.prd k _ _) | .land (.idx k _ _) | .land (.flu k _ _ _ _)
  | .land (.query k _ _ _ _ _) | .land (.score k _ _ _ _ _ _ _ _) | .land (.tileClr k _ _) | .land (.merge k _ _ _ _ _)
  | .land (.rankClr k _) | .count k _ _ | .respond k _ | .engine k _ | .bitmap k _ | .snoop k _ _ | .homeEnd k _
  | .lookup k _ | .restart k _ _ _ | .drop k _ _ | .forward k _ | .tile k _ | .sector k _ _ | .pages k _ | .takeEngine k _ | .engLine k _ _
  | .capture k _ _ => some k
  | _ => none

/-- The registers of one instance of the SCD block, as addresses. -/
def inScdBlock (k : Scd) (a : Nat) : Bool :=
  decide (Blk.unitBase .scd k.toNat ≤ a ∧ a < Blk.unitBase .scd k.toNat + 0x40000)

/-- A latched change of an SCD's own registers or contexts. -/
def Due.scd (k : Scd) : Due → Bool
  | .ctxOpen j _ | .ctxReopen j _ | .agentWrite j _ _ => j == k
  | .act a _ => inScdBlock k a
  | _ => false

/-- Every register of an SCD returns to its reset value. -/
def State.scdRegsReset (s : State) (k : Scd) : State :=
  let out (m : SMap Word) : SMap Word := m.filter fun e => !inScdBlock k e.1
  { s with regs := out s.regs, live := out s.live, acts := out s.acts, due := s.due.filter fun d => !d.2.scd k }

/-- Entries of a map whose key lies in the SCD's range of `n` keys are dropped. -/
def dropKeys {α : Type} (n : Nat) (k : Scd) (m : SMap α) : SMap α := m.filter fun e => e.1 / n != k.toNat

/-- The register files, accumulators and counters of an SCD are lost. -/
def State.scdFilesDrop (s : State) (k : Scd) : State :=
  let bit : BitVec 32 := (1 : BitVec 32) <<< k.toNat
  { s with scd := { s.scd with
      v := dropKeys 64 k s.scd.v, s := dropKeys 64 k s.scd.s, p := dropKeys 16 k s.scd.p, x := dropKeys 32 k s.scd.x,
      gen := dropKeys 1 k s.scd.gen, queries := dropKeys 32 k s.scd.queries, tiles := dropKeys 16 k s.scd.tiles,
      ranks := dropKeys 4 k s.scd.ranks, tainted := s.scd.tainted &&& ~~~bit, reported := s.scd.reported &&& ~~~bit,
      ctr := dropKeys 512 k s.scd.ctr } }

/-- Scratchpad, stack cache and write buffers of an SCD are lost. -/
def State.scdMemDrop (s : State) (k : Scd) : State :=
  let lo := windowOf k
  let out (a n : Nat) : Bool := decide (a < lo / n ∨ lo / n + 0x2000000 / n ≤ a)
  { s with mem := { s.mem with
      bytes := s.mem.bytes.filter fun e => out e.1 1,
      uncorr := s.mem.uncorr.filter (fun e => out e.1 4), soft := s.mem.soft.filter (fun e => out e.1 4),
      wbuf := s.mem.wbuf.filter fun w => w.k != k,
      scache := s.mem.scache.filter fun e => s.home (128 * e.1) != k,
      inval := s.mem.inval.filter fun x => x.k != k } }

/-- Request lane, directory slice, contexts and engines of an SCD are lost; what they held on grant entries is released. -/
def State.scdWorkDrop (s : State) (k : Scd) : State :=
  let ops := s.lane.ops.filter fun (o : LaneOp) => o.k == k
  let engs := s.eng.ops.filter fun (o : EngOp) => o.k == k
  let txns := s.coh.txns.filter fun (t : Txn) => t.k == k
  let mine (w : Fwd) : Bool := match w.kind with
    | .request op => ops.any fun (o : LaneOp) => o.id == op
    | .engine op _ _ => engs.any fun (o : EngOp) => o.id == op
    | _ => false
  let lookups := s.timed.filterMap fun e => match e.2 with
    | .lookup j x => if j = k then some x.grant else none
    | .restart j _ g _ => if j = k then some g else none
    | _ => none
  let grants := ops.flatMap (fun (o : LaneOp) => o.grant :: o.followers.map fun f => f.2.1) ++
    txns.map (fun (t : Txn) => t.grantIx) ++ lookups ++ engs.flatMap (fun (o : EngOp) => o.grants.map some)
  let homed (line : Nat) : Bool := s.home (128 * line) == k
  let s : State := { s with
    lane := { s.lane with queues := dropKeys 8 k s.lane.queues, ops := s.lane.ops.filter (fun (o : LaneOp) => o.k != k),
                          held := s.lane.held.filter (fun h => h.k != k), fwd := s.lane.fwd.filter fun w => !mine w },
    coh := { s.coh with entries := s.coh.entries.filter (fun e => !homed e.1),
                        txns := s.coh.txns.filter (fun (t : Txn) => t.k != k),
                        sustain := s.coh.sustain.filter (fun x => !homed x.1),
                        orphans := s.coh.orphans.filter fun l => !homed l },
    rcx := dropKeys 256 k s.rcx,
    eng := { ops := s.eng.ops.filter (fun (o : EngOp) => o.k != k), busy := dropKeys 2 k s.eng.busy },
    tier := { s.tier with bad := s.tier.bad.filter fun e => e.1 != k.toNat },
    timed := s.timed.filter fun e => e.2.scd != some k }
  forEach grants (fun g s => s.grantLeave g) s

/-- The queues of the ports that an SCD owned are lost with its packet buffer. -/
def State.scdQueuesDrop (s : State) (k : Scd) : State :=
  let gone (p : Nat) : Bool := decide (p < 640) && s.rawOwner p == k
  let keep (fs : List Frame) : List Frame := fs.filter fun f => !gone f.port.toNat
  { s with net := { s.net with
      planned := s.net.planned.filter (fun e => !gone e.1),
      node := s.net.node.filter (fun e => !gone (e.1 / 8)),
      svc := (s.net.svc.mapVal fun _ fs => keep fs).filter (fun e => !e.2.isEmpty),
      meters := dropKeys 8192 k s.net.meters,
      samples := s.net.samples.filter fun x => x.1 != k.toNat } }

/-- Everything that is lost with an SCD. -/
def State.scdDrop (s : State) (k : Scd) : State :=
  ((((s.scdQueuesDrop k).scdWorkDrop k).scdMemDrop k).scdFilesDrop k).scdRegsReset k

/-! ### Detection (R567, R573) -/

def State.isLost (s : State) : LostUnit → Bool
  | .scd k => s.scdOut k
  | .stack x => s.stackOut x.toNat
  | .mid m => s.pwr.lostMid.getLsbD m.toNat
  | .seq i => s.pwr.lostSeq.getLsbD i.toNat || bitAt (s.rv .ctlStkout) (24 + i.toNat)
  | .phe n => s.pwr.lostLane.getLsbD n.toNat
  | .eio n => s.pwr.lostLane.getLsbD (16 + n.toNat)

/-- The device halts (R573), once its loss of a second unit is recorded. -/
def State.halt (s : State) (reason : Nat) : State :=
  if s.rf .ctlBringup 7 0 = 0xE0 then s
  else
  let s := (((s.wf .ctlBringup 31 31 0).wf .ctlBringup 7 0 0xE0).wf .ctlBringup 23 16 reason)
  s.event 0x000B 0 0 0 [reason]

/-- A unit is lost now: its work ends, and the loss waits to be recorded (R567, R568, Table 19.2). -/
def State.unitLost (s : State) (x : LostUnit) (cause : Nat) : State :=
  if s.isLost x then s
  else
    let note (p : PwrSt) : PwrSt := { p with detected := p.detected ++ [(x, cause, s.now)] }
    match x with
    | .scd k =>
      let s := s.scdDrop k
      { s with pwr := note { s.pwr with lostScd := s.pwr.lostScd ||| ((1 : BitVec 32) <<< k.toNat) } }
    | .stack n => { s with pwr := note { s.pwr with lostStack := s.pwr.lostStack ||| ((1 : BitVec 24) <<< n.toNat) } }
    | .mid m =>
      { s with pwr := note { s.pwr with lostMid := s.pwr.lostMid ||| ((1 : BitVec 8) <<< m.toNat),
                                        lostStack := s.pwr.lostStack ||| ((7 : BitVec 24) <<< (3 * m.toNat)) } }
    | .seq i =>
      let lead := s.leadSeq
      let s : State := { s with pwr := note { s.pwr with lostSeq := s.pwr.lostSeq ||| ((1 : BitVec 2) <<< i.toNat) } }
      if i.toNat = lead then s.loadAbort else s
    | .phe n =>
      let s := s.dieDown n.toNat
      { s with pwr := note { s.pwr with lostLane := s.pwr.lostLane ||| ((1 : BitVec 20) <<< n.toNat) } }
    | .eio n =>
      let s := s.dieDown (16 + n.toNat)
      { s with pwr := note { s.pwr with lostLane := s.pwr.lostLane ||| ((1 : BitVec 20) <<< (16 + n.toNat)) } }

/-! ### Recording at cy 1408 (R567, R570 to R572) -/

/-- The dirty pages of a far-cached extent that lie on a stack. -/
def State.dirtyOn (s : State) (e : Extent) (stack : Nat) : List Nat :=
  (List.range e.pages).filter fun p => s.isDirty e p && stackOf (e.aux + 4096 * p) == stack

/-- Far-cached extents with a dirty page on a stack, with the count of such pages. -/
def State.lostExtents (s : State) (stack : Nat) : List (Nat × Nat) :=
  s.tier.ext.filterMap fun e =>
    let n := (s.dirtyOn e.2 stack).length
    if e.2.form = 2 ∧ n ≠ 0 then some (e.1, n) else none

/-- The pages of a far-cached extent that lie on a stack. -/
def Extent.pagesOn (e : Extent) (stack : Nat) : List Nat :=
  (List.range e.pages).filter fun p => stackOf (e.aux + 4096 * p) == stack

/-- Far-cached extents in FILLING, VALID or EVICTING whose pages on a stack are all clean, with these pages. -/
def State.cleanExtents (s : State) (stack : Nat) : List (Nat × List Nat) :=
  s.tier.ext.filterMap fun e =>
    let ps := e.2.pagesOn stack
    if e.2.form = 2 ∧ (e.2.st = 1 ∨ e.2.st = 2 ∨ e.2.st = 3) ∧ ps ≠ [] ∧ s.dirtyOn e.2 stack = [] then some (e.1, ps) else none

/-- The records of a lost stack's extents: one with a dirty page on it becomes LOST, and one whose pages on it are all clean goes
to FILLING and fetches them again, though no shadow page can hold them any more (Table 8.8, R572; assumption 91). -/
def State.stackRecord (s : State) (stack : Nat) : State :=
  let clean := s.cleanExtents stack
  let s := forEach (s.lostExtents stack) (fun x s =>
    (s.event 0x0003 1 kindExtent x.1 [x.1, x.2, stack]).extLost x.1) s
  let s := forEach clean (fun x s => s.extRefetch x.1 x.2) s
  let (v, s) := s.drawFree
  if v.getLsbD 0 ∧ s.fab.map.isSome = true then s.replicaLost else s

/-- One loss is recorded in the present stroke n. -/
def State.lossRecord (s : State) (x : LostUnit) (cause at_ : Nat) : State :=
  let n := s.time.stroke
  let d := at_ % 1536
  let ev (code kind unit : Nat) (args : List Nat) (s : State) : State := s.event code 1 kind unit args 0 (some 1408)
  match x with
  | .scd k =>
    let s := s.ctxFailScd k
    let s := ev 0x0001 kindScd k.toNat [cause, (k ^^^ 1).toNat, d] s
    let s : State := { s with time := { s.time with remapUntil := some (n + 7) } }
    let s := if s.scds.length < 31 then s.halt 2 else s
    (s.latch (n + 1) (.substitute k)).latch (n + 8) (.remap k)
  | .stack i => (ev 0x0002 kindStack i.toNat [cause, (s.lostExtents i.toNat).length, d] s).stackRecord i.toNat
  | .mid m =>
    let s := ev 0x0004 kindMid m.toNat [cause, 0, d] s
    forUpto 3 (fun i s => s.stackRecord (3 * m.toNat + i)) s
  | .seq i =>
    let s := ev 0x0005 kindSeq i.toNat [cause, 1 - i.toNat, d] s
    let s : State := { s with time := { s.time with resyncUntil := some (n + 8) } }
    if [0, 1].all (fun j => s.isLost (.seq (BitVec.ofNat 1 j))) then s.halt 3 else s
  | .phe i => ev 0x0006 kindPhe i.toNat [cause, 0, d] s
  | .eio i => ev 0x0006 kindEio i.toNat [cause, 0, d] s

/-- Every loss detected and not yet recorded is recorded (R567). -/
def State.lossesRecord (s : State) : State :=
  let xs := s.pwr.detected
  forEach xs (fun x s => s.lossRecord x.1 x.2.1 x.2.2) { s with pwr := { s.pwr with detected := [] } }

/-! ### The remap (R571) -/

/-- The substitute takes over the homes of a lost SCD, whose lines are orphaned. -/
def State.substitute (s : State) (k : Scd) : State :=
  { s with pwr := { s.pwr with substituted := if s.pwr.substituted.contains k then s.pwr.substituted else k :: s.pwr.substituted },
           coh := { s.coh with lostHomes := if s.coh.lostHomes.contains k then s.coh.lostHomes else k :: s.coh.lostHomes,
                               taken := s.coh.taken.filter fun l => rawHome (128 * l) != k } }

/-- Ports of a lost SCD go to its substitute, and the 31-tile layout is installed. -/
def State.remap (s : State) (k : Scd) : State :=
  let s : State := { s with pwr := { s.pwr with portSub := if s.pwr.portSub.contains k then s.pwr.portSub else k :: s.pwr.portSub } }
  s.installTiles true

/-! ### SCD reset and return (R539, R540) -/

/-- An SCD reset begins: SCDk is taken out of service as a lost one, with cause 3, and returns 4,096 strokes later at the
latest (R539). -/
def State.scdReset (s : State) (k : Scd) : State :=
  let b := s.time.stroke
  let s := s.unitLost (.scd k) 3
  let r := b + 4096
  let s : State := { s with pwr := { s.pwr with resetScd := some (k, b, r) } }
  (s.latch (r - 16) (.handback k)).latch r (.scdReturn k)

/-- The substitute recalls every idle entry of a line homed on the returning SCD, as far as its victim buffer takes them. -/
def State.handbackStep (s : State) : State :=
  match s.pwr.handback with
  | none => s
  | some k =>
    let lines := (s.coh.entries.filter fun e => rawHome (128 * e.1) == k && !s.busy e.1).map fun e => e.1
    forEach lines (fun line s => if 64 ≤ s.victims (k ^^^ 1) then s else s.evict (k ^^^ 1) line (0, 0) s.now) s

/-- From stroke r − 16 the lines of the returning SCD are recalled (R540). -/
def State.handbackStart (s : State) (k : Scd) : State :=
  match s.pwr.resetScd with
  | some (j, _, _) => if j = k then ({ s with pwr := { s.pwr with handback := some k } }).handbackStep else s
  | none => s

/-- A reset SCD returns to service at cy 0 of stroke r (R539, R540). -/
def State.scdReturn (s : State) (k : Scd) : State :=
  match s.pwr.resetScd with
  | none => s
  | some (j, _, _) =>
    if j ≠ k then s
    else
      let sub := k ^^^ 1
      let homed (line : Nat) : Bool := rawHome (128 * line) == k
      let back := s.lane.held.filter fun h => h.k == sub && homed h.line
      let agents : List RegRef := s.instances .dirAgent ++ s.instances .dirSwLo ++ s.instances .dirSwHi ++
        s.instances .dirSwLen ++ s.instances .dirSwCfg
      let copies := (agents.filter fun x => x.unit == sub.toNat).map fun (x : RegRef) => ({ x with unit := k.toNat }, s.get x)
      let mine (d : Due) : Bool := d == .handback k || d == .scdReturn k || d == .substitute k || d == .remap k
      let s : State := { s with
        lane := { s.lane with held := s.lane.held.filter fun h => !(h.k == sub && homed h.line) },
        coh := { s.coh with entries := s.coh.entries.filter (fun e => !homed e.1),
                            txns := s.coh.txns.filter (fun (t : Txn) => !(homed t.line && t.kind == .evict)),
                            lostHomes := if s.coh.lostHomes.contains k then s.coh.lostHomes else k :: s.coh.lostHomes,
                            taken := s.coh.taken.filter fun l => !homed l },
        pwr := { s.pwr with substituted := s.pwr.substituted.filter (fun x => x != k), handback := none, resetScd := none,
                            portSub := s.pwr.portSub.filter (fun x => x != k),
                            detected := s.pwr.detected.filter (fun x => x.1 != .scd k),
                            lostScd := s.pwr.lostScd &&& ~~~((1 : BitVec 32) <<< k.toNat) },
        due := s.due.filter fun d => !mine d.2 }
      let s := (s.scdRegsReset k).installTiles false
      let s := forEach copies (fun x s => s.put x.1 x.2) s
      forEach back (fun h s => s.after (s.now + 24) (.enqueue k h.req h.req.r.yellow)) s

/-! ### Rows -/

/-- UNIT_LOSS_DETECT (R567). -/
def execUnitLossDetect (x : LostUnit) (cause : BitVec 3) (s : State) : Host.Outcome State Fault Refusal :=
  match x with
  | .stack n => if n.toNat < 24 then .next (s.unitLost x cause.toNat) else .refused (.reservedOperand "UNIT_LOSS_DETECT")
  | _ => .next (s.unitLost x cause.toNat)

/-- TABLE_ENTRY_REPAIR (Table 19.1): firmware rewrites the entry, which is good again. -/
def execTableEntryRepair (x : TableEntry) (s : State) : Host.Outcome State Fault Refusal :=
  match x with
  | .extent k i =>
    .next { s with tier := { s.tier with bad := s.tier.bad.filter fun e => e != (k.toNat, i.toNat) } }
  | .grant g => .next { s with sec := { s.sec with badGrant := s.sec.badGrant.filter fun e => e != g.toNat } }

end Sys2Proof.Machine
end

