-- ==== Sys2Proof/Machine/Firmware.lean ====
section
/-! DEFINITION. Firmware images and cores: staging, commit and activation (R516 to R521), watchdogs (R498 to R500). -/

namespace Sys2Proof.Machine

/-! ### Images -/

def State.fwType (s : State) (y : Nat) : FwType := SMap.get FwType.fresh s.fw.types y
def State.setFwType (s : State) (y : Nat) (x : FwType) : State :=
  { s with fw := { s.fw with types := SMap.set FwType.fresh s.fw.types y x } }

/-- The cores of an image TYPE (Table 17.1). -/
def coresOf (y : Nat) : List Nat :=
  match y with
  | 1 => [0]
  | 2 => [1, 2, 3, 4]
  | 3 => [5, 6, 7, 8]
  | 4 => [9, 10]
  | 5 => [11, 12, 13, 14, 15, 16, 17, 18]
  | 6 => [19, 20]
  | _ => []

/-- The TYPE that a core runs. -/
def typeOfCore (core : Nat) : Nat :=
  if core = 0 then 1 else if core < 5 then 2 else if core < 9 then 3 else if core < 11 then 4 else if core < 19 then 5 else 6

def State.svnMin (s : State) (y : Nat) : Nat := SMap.get 0 s.sec.svnMin y

/-- The value of a 48-byte digest, first byte most significant. -/
def digestOf (b : List Byte) : BitVec 384 := BitVec.ofNat 384 (beNat b)

/-- The checks of Table 15.2 on an image of a TYPE; a payload that the buffer does not hold whole fails check 3. -/
def State.imageOk (s : State) (y : Nat) (b : List Byte) : Bool :=
  let zero (off n : Nat) : Bool := (sub b off n).all fun x => x == 0
  let len := leAt b 0x00C 4
  let payload := sub b 0x1600 len
  let ed := sub b 0x080 32
  let ml := sub b 0x0E0 1952
  let body := sub b 0 0x80
  (leAt b 0 4 == 0x4657494D && leAt b 6 2 == 1 && zero 0x014 12 && zero 0x050 48 && zero 0x156D 147 && leAt b 4 2 == y) &&
  (leAt b 0x010 4 == s.ctlId / 16 * 16) &&
  (payload.length == len && sha384 payload == sub b 0x020 48) &&
  (digestOf (sha384 ed) == s.sec.edRoot && Config.ed25519Verify ed body (sub b 0x0A0 64)) &&
  (digestOf (sha384 ml) == s.sec.mlRoot && Config.mldsaVerify ml body (sub b 0x880 3309)) &&
  decide (s.svnMin y ≤ leAt b 8 4)

/-- An emergency is in effect (R530). -/
def State.emergency (s : State) : Bool := s.rf .ctlEmerg 31 30 != 0

/-- The image TYPE that a command names. -/
def argType (c : Cmd) : Nat := bits c.arg0.toNat 3 0
def typeOk (y : Nat) : Bool := decide (1 ≤ y ∧ y ≤ 6)

/-- FW_STAGE (R517). The boot flash is written only while FRST_N is high (R407). -/
def State.cmdFwStage (s : State) (c : Cmd) : State :=
  if !s.lanes.frstN then s
  else s.command c 0x50 1 fun r s =>
    let y := argType c
    let x := s.fwType y
    let b := s.cmdBuf c c.buflen.toNat
    if !typeOk y || decide (2 ≤ x.st) || !s.imageOk y b then s.complete r .formatUnsupported
    else
      let s := s.setFwType y { x with st := 1, scommit := false, staged := some (digestOf (sub b 0x020 48), leAt b 8 4) }
      (s.trace 0 2 0x1020 [y, leAt b 8 4]).complete r .ok

/-- FW_COMMIT (R516, R521); RESULT0 is SVNMIN. In a state without a row in Table 17.8 it changes no state. The
choice of the boot image stands in the boot flash (R407). -/
def State.cmdFwCommit (s : State) (c : Cmd) : State :=
  if !s.lanes.frstN then s
  else s.command c 0x51 0 fun r s =>
    let y := argType c
    if !typeOk y then s.complete r .formatUnsupported
    else
      let x := s.fwType y
      let x := match x.st with
        | 1 => { x with scommit := true, boot := x.staged.getD x.boot }
        | 4 => { x with st := 0, scommit := false, boot := x.running, staged := none }
        | _ => x
      let s := s.setFwType y x
      let m := if c.arg0.getLsbD 8 then max (s.svnMin y) x.boot.2 else s.svnMin y
      ({ s with sec := { s.sec with svnMin := SMap.set 0 s.sec.svnMin y m } }).complete r .ok m

/-- The cores of a TYPE start to restart on the staged image, each within 64 strokes (R519). -/
def State.activate (s : State) (y : Nat) : State :=
  let x := s.fwType y
  s.setFwType y { x with st := 3, doneAt := some (s.time.stroke + 64 * (coresOf y).length), retryAt := none }

/-- FW_ACTIVATE (R516, R518); an image is read only while FRST_N is high (R407). -/
def State.cmdFwActivate (s : State) (c : Cmd) : State :=
  if !s.lanes.frstN then s
  else s.command c 0x52 0 fun r s =>
    let y := argType c
    let x := s.fwType y
    if !typeOk y || y == 1 || x.st != 1 then s.complete r .formatUnsupported
    else
      let s := s.setFwType y { x with waiting := some r }
      if s.emergency then
        let s := s.setFwType y { (s.fwType y) with st := 2, retryAt := none }
        (s.trace 1 1 0x1021 [y, r.cmdid.toNat, r.q.toNat]).complete r .deferred
      else s.activate y

/-- A pending activation starts when no emergency is in effect (R516, R520). -/
def State.fwRetry (s : State) (y : Nat) : State :=
  if (s.fwType y).st = 2 ∧ s.emergency = false then s.activate y else s

/-- The last core of a TYPE starts on the new image (R516, R520), read from the boot flash (R407). -/
def State.fwDone (s : State) (y : Nat) : State :=
  let x := s.fwType y
  if x.st ≠ 3 ∨ s.lanes.frstN = false then s
  else
    let img := x.staged.getD x.running
    let s := s.setFwType y { x with st := if x.scommit then 0 else 4, running := img, waiting := none, doneAt := none,
                                    staged := if x.scommit then none else x.staged, scommit := false }
    let s := s.trace 1 2 0x1022 [y, img.2]
    match x.waiting with
    | none => s
    | some r => s.complete (if (s.ring r.q.toNat).isSome then r else { r with q := 0 }) .ok

/-- Activations whose time has come by the present stroke. -/
def State.fwStep (s : State) : State :=
  forEach [2, 3, 4, 5, 6] (fun y s =>
    let x := s.fwType y
    let retry : Bool := match x.retryAt with
      | some n => decide (n ≤ s.time.stroke)
      | none => false
    let done : Bool := match x.doneAt with
      | some n => decide (n ≤ s.time.stroke)
      | none => false
    if retry then s.fwRetry y else if done then s.fwDone y else s) s

/-- Level changes and pending activations (R520): an emergency stops their count, its end starts it. -/
def State.fwEmergency (s : State) : State :=
  forEach [2, 3, 4, 5, 6] (fun y s =>
    let x := s.fwType y
    if x.st = 2 then s.setFwType y { x with retryAt := if s.emergency then none else some (s.time.stroke + 64) } else s) s

/-- Firmware states at a power-on, pin or warm reset (Table 17.8): the boot runs the boot image. -/
def State.fwBoot (s : State) (full : Bool) : State :=
  forEach (if full then [1, 2, 3, 4, 5, 6] else [2, 3, 4, 5, 6]) (fun y s =>
    let x := s.fwType y
    let drop := x.st == 2
    let svn := (x.staged.getD x.running).2
    let st := if 2 ≤ x.st then (if x.scommit then 0 else 1) else x.st
    let s := s.setFwType y { x with st := st, scommit := if 2 ≤ x.st then false else x.scommit, running := x.boot,
                                    staged := if st = 0 then none else x.staged, waiting := none, doneAt := none,
                                    retryAt := none }
    if drop then s.trace 1 1 0x1024 [y, svn] else s) s

/-! ### Watchdogs -/

/-- Cold requests in the hands of a flash-translation core; how the two cores share them is not stated, so each is lost or
not by a free value. -/
def State.ftlCoreLost (s : State) : State :=
  forEach (s.tier.ftl.filter fun (f : FtlOp) => !f.move) (fun (f : FtlOp) s =>
    let (v, s) := s.drawFree
    if v.getLsbD 0 then s.ftlEnd f .unitLost else s) s

/-- What a restart of a core costs (Table 17.1). No command is in execution between two steps of the model: those that wait
for hardware go on. -/
def State.coreLost (s : State) (core : Nat) : State :=
  match typeOfCore core with
  | 1 => { s with sec := { s.sec with sessions := [] } }
  | 3 => { s with fab := { s.fab with parts := [], chunks := [] } }
  | 4 => s.ftlCoreLost
  | 6 => if core = s.loadCore then s.loadAbort else s
  | _ => s

/-- A core's watchdog expires (R499, R500, and Table 17.8 for a trial image). -/
def State.watchdog (s : State) (core : Nat) : State :=
  if s.rf .ctlWdtstat 31 30 0 core ≠ 1 then s
  else
    let n := min 255 (s.rf .ctlWdtstat 7 0 0 core + 1)
    let again : Bool := match s.fw.expired.find core with
      | some m => decide (s.time.stroke ≤ m + 65536)
      | none => false
    let s := s.coreLost core
    let s := (s.wf .ctlWdtstat 7 0 n 0 core).alert 3
    let s : State := { s with fw := { s.fw with expired := s.fw.expired.insert core s.time.stroke } }
    let s := (s.event 0x0031 1 kindCore core [n, b2n again]).trace core 0 0x1010 [core, n]
    let s := if again then (s.wf .ctlWdtstat 31 30 2 0 core).trace core 0 0x1011 [core] else s
    let y := typeOfCore core
    let x := s.fwType y
    if x.st = 4 then
      (s.setFwType y { x with st := 1, running := x.boot }).trace core 0 0x1023 [y, core]
    else s

/-- Every management core is held: commands stall at the doorbell (Table 17.1). -/
def State.managersHeld (s : State) : Bool := [1, 2, 3, 4].all fun c => s.rf .ctlWdtstat 31 31 0 c == 1

/-! ### Rows -/

def execFwStage (c : Cmd) (s : State) : Host.Outcome State Fault Refusal := .next (s.cmdFwStage c)
def execFwCommit (c : Cmd) (s : State) : Host.Outcome State Fault Refusal := .next (s.cmdFwCommit c)
def execFwActivate (c : Cmd) (s : State) : Host.Outcome State Fault Refusal := .next (s.cmdFwActivate c)
/-- FW_ACTIVATION_COMPLETE (R516). -/
def execFwActivationComplete (y : BitVec 3) (s : State) : Host.Outcome State Fault Refusal := .next (s.fwDone y.toNat)
/-- WATCHDOG_EXPIRE (R499). -/
def execWatchdogExpire (core : BitVec 5) (s : State) : Host.Outcome State Fault Refusal :=
  if core.toNat ≤ 20 then .next (s.watchdog core.toNat) else .refused (.reservedOperand "WATCHDOG_EXPIRE")

end Sys2Proof.Machine
end

