-- ==== Sys2Proof/Machine/Attest.lean ====
section
/-! DEFINITION. Device identity (R442), measurements (R444, R445) and the SPDM messages that carry them and load keys (R443,
R446, R450, R451). -/

namespace Sys2Proof.Machine

/-! ### Identity (R442) -/

/-- The alias keys of one algorithm, from its DeviceID key and the DIGEST of the running root-of-trust image, and the alias
certificate that the DeviceID key signs. -/
def Identity.derive (x : Identity) (ml : Bool) (digest : BitVec 384) : Identity :=
  let pub := Config.aliasPublic ml x.device.priv digest
  let cert := Config.aliasCertificate ml pub
  { x with alias_ := ⟨Config.aliasPrivate ml x.device.priv digest, pub⟩,
           aliasCert := cert ++ (if ml then Config.mldsaSign x.device.priv cert else Config.ed25519Sign x.device.priv cert) }

/-- Both alias keys are derived (R442: phase 0x02 of Table 18.5). -/
def State.deriveAliases (s : State) : State :=
  let d := (s.fwType 1).running.1
  { s with sec := { s.sec with edIdent := s.sec.edIdent.derive false d, mlIdent := s.sec.mlIdent.derive true d } }

/-- What manufacture gave a part: its alias keys are not derived yet. -/
def Identity.fused (x : Identity) : Identity := { x with alias_ := ⟨[], []⟩, aliasCert := [] }

/-- A certificate chain (Table 15.3): root, intermediate, DeviceID, alias. -/
def Identity.certificates (x : Identity) : List Byte := (x.chain ++ [x.aliasCert]).flatten

/-! ### Measurements (Table 15.4) -/

/-- The tenant block (R445). -/
def State.tenantBlock (s : State) (t : Tenant) : List Byte :=
  let ready : SMap Segment := s.seg.foldl (fun m e =>
    if e.2.st == .ready && e.2.image.tenant == t then m.insert e.2.image.no.toNat e.2 else m) []
  sha384 (beBytes 2 (s.tenant t).epoch.toNat ++
    ready.flatMap fun e => beBytes 2 e.2.image.no.toNat ++ beBytes 48 e.2.image.digest.toNat)

/-- The tenants that a session is bound to (R446), a RETIRING one among them; spec/ does not keep two tenants from naming one key
server. -/
def State.boundTenants (s : State) (h : BitVec 384) : List Nat :=
  (s.sec.tenants.filter fun e => e.2.st != .free && e.2.kshash == h).map fun e => e.1

/-- The digest that a measurement index reports; none for an index that reports nothing. -/
def State.measurement (s : State) (t : Option Tenant) (x : Nat) : Option (List Byte) :=
  if x = 1 then some (sha384 Config.bootRom)
  else if 2 ≤ x ∧ x ≤ 7 then some (beBytes 48 (s.fwType (x - 1)).running.1.toNat)
  else if x = 8 then
    some (sha384 (leBytes 4 s.ctlId ++ leBytes 4 s.ctlStep ++ ((List.range 6).flatMap fun y => leBytes 4 (s.svnMin (y + 1)))))
  else if x = 9 then s.pwr.marks.map sha384
  else if x = 0x20 then t.map s.tenantBlock
  else none

/-- A measurement block of SPDM 1.3 in DMTF form (assumption 96): a value of 48 bytes is a digest. -/
def measurementBlock (x : Nat) (v : List Byte) : List Byte :=
  let n := v.length
  leBytes 1 x ++ [1] ++ leBytes 2 (n + 3) ++ [if n = 48 then 0 else 0x80] ++ leBytes 2 n ++ v

/-- The blocks of one MEASUREMENTS response (R444): those asked for, in ascending order, and the ML-DSA-65 signature over them
and the requester's nonce in index 0xEF. -/
def State.measurements (s : State) (t : Option Tenant) (asked : List Nat) (nonce : List Byte) : List (List Byte) :=
  let blocks := (List.range 0x21).filterMap fun x =>
    if asked.contains x then (s.measurement t x).map (measurementBlock x) else none
  if asked.contains 0xEF then
    blocks ++ [measurementBlock 0xEF (Config.mldsaSign s.sec.mlIdent.alias_.priv (blocks.flatten ++ nonce))]
  else blocks

/-! ### SPDM (R443, R446, R450, R451) -/

def State.putSession (s : State) (n : BitVec 3) (x : Session) : State :=
  { s with sec := { s.sec with sessions := s.sec.sessions.insert n.toNat x } }

/-- The tenant whose block a session's request reports: the one it is bound to; of several, one that spec/ leaves open. -/
def State.reportTenant (s : State) (n : Option (BitVec 3)) : Option Tenant × State :=
  match n.bind s.session with
  | none => (none, s)
  | some x =>
    match s.boundTenants x.kshash with
    | [] => (none, s)
    | [t] => (some (BitVec.ofNat 10 t), s)
    | ts =>
      let (v, s) := s.drawFree
      (ts[v.toNat % ts.length]?.map (BitVec.ofNat 10), s)

/-- The measurement blocks of the response to a request; a session that receives its tenant's block signed is fresh for that
tenant (R451). -/
def State.measured (s : State) (st q : List Byte) : List (List Byte) × State :=
  match Config.spdmAsks st q with
  | none => ([], s)
  | some (n, asked, nonce, signed) =>
    let (t, s) := s.reportTenant n
    let blocks := s.measurements t asked nonce
    match n, t with
    | some n, some t =>
      match s.session n with
      | some x => (blocks, if signed ∧ asked.contains 0x20 = true then s.putSession n { x with fresh := some t } else s)
      | none => (blocks, s)
    | _, _ => (blocks, s)

/-- SPDM_MSG (R443): the bytes of the responder's answer lie behind Config (assumption 6); what it reports and what it
changes is given here. -/
def State.spdm (s : State) (c : Cmd) (r : Running) : State :=
  let conn := bits c.arg0.toNat 2 0
  let cap := c.arg2.toNat
  if !inControl c.arg1.toNat cap then s.complete r .noGrant
  else
    let (w, s) := s.drawFree
    let st := leBytes 1 conn ++ leBytes 8 w.toNat
    let q := s.cmdBuf c c.buflen.toNat
    let s := match Config.spdmOpens st q with
      | some (n, h) => (s.putSession n { kshash := h, fresh := none }).trace 0 2 0x0001 [conn, ((s.boundTenants h).head?).getD 0xFFFF]
      | none => s
    let (blocks, s) := s.measured st q
    let s := match Config.spdmKeyload st q with
      | some (n, b) => (s.keyload n b).2
      | none => s
    let s := match Config.spdmResume st q with
      | some (n, t) => (s.weightResume n t).2
      | none => s
    let s := match Config.spdmCloses st q with
      | some n => { s with sec := { s.sec with sessions := s.sec.sessions.erase n.toNat } }
      | none => s
    let chains := [s.sec.edIdent.certificates, s.sec.mlIdent.certificates]
    let resp := (Config.spdmRespond st q blocks chains s.sec.edIdent.alias_.priv).take cap
    (s.ctlStore c.arg1.toNat resp).complete r .ok resp.length

/-- SPDM_MSG (R443). -/
def State.cmdSpdm (s : State) (c : Cmd) : State := s.command c 0x36 c.buflen.toNat fun r s => s.spdm c r
def execSpdmMsg (c : Cmd) (s : State) : Host.Outcome State Fault Refusal := .next (s.cmdSpdm c)

end Sys2Proof.Machine
end

