-- ==== Sys2Proof/Machine/Power.lean ====
section
/-! DEFINITION. Emergencies (R526 to R530), resets (R537 to R541), power states (R542 to R546), shutdown and its self-test record
(R551 to R555). -/

namespace Sys2Proof.Machine

/-! ### What ends -/

def State.phase (s : State) : Nat := s.rf .ctlBringup 7 0
def State.setPhase (s : State) (v : Nat) : State := s.wf .ctlBringup 7 0 v

/-- Every fabric port and management port is down; frames in transmission are lost. -/
def State.fabricDown (s : State) : State := forEach (s.lanes.up.map fun e => e.1) (fun p s => s.portDown p) s
def State.portsDown (s : State) : State := (s.fabricDown.mgmtDown portM0).mgmtDown portM1

/-- Latched changes of the security block and of the map, which outlive a reset of the other dies. -/
def Due.secure : Due → Bool
  | .tenantCreate _ _ | .tenantRemove _ | .tenantReset _ | .keyRotate _ | .grantSet _ _ | .grantRevoke _ | .capo => true
  | _ => false

/-- Every operation in flight ends without a response, and the SRAM of every die reads zero (Table 18.8): queues, lanes,
directory, contexts, engines, stack cache, scratchpads, timed events and latched changes. The stacks keep their contents, with
the writes that were acknowledged and still in a write buffer. A spare that was retraining keeps the lane it was given (R398). -/
def State.quiesce (s : State) : State :=
  let s := s.lanes.retrain.foldl (fun s x => s.spareCarries x) s
  let s := s.mem.wbuf.foldl (fun s w => s.bankCommit w.id true) s
  { s with
    acts := [], live := [], seg := [], scd := ScdSt.reset,
    mem := { MemSt.reset with bytes := s.mem.bytes.filter (fun e => decide (e.1 < nearTop)),
                              uncorr := s.mem.uncorr.filter (fun e => decide (4 * e.1 < nearTop)),
                              soft := s.mem.soft.filter fun e => decide (4 * e.1 < nearTop) },
    lane := { LaneSt.reset with nextId := s.lane.nextId }, coh := CohSt.reset, rcx := [], eng := EngSt.reset,
    tier := { s.tier with jobs := [], ftl := [], moving := [], starved := [], collecting := [], waiting := [], bad := [] },
    net := { NetSt.reset with opid := s.net.opid, wire := s.net.wire },
    lanes := { s.lanes with retrain := [], ppsOut := false },
    sec := { s.sec with grants := s.sec.grants.mapVal (fun _ g => { g with inflight := 0, revokers := [] }),
                        removals := s.sec.removals.map fun x => (x.1, none) },
    fw := { s.fw with running := [], loads := [], disabling := [], events := [], evOnce := [] },
    time := { s.time with running := 0, skipped := false, nextSkipped := false, resyncUntil := none, remapUntil := none,
                          slotAt := none, aligned := false },
    pwr := { s.pwr with handback := none, resetScd := none, target := none, detected := [] },
    due := s.due.filter (fun d => d.2.secure), timed := [] }

/-- Keep of the register file only what a test of addresses allows. -/
def State.keepRegs (s : State) (keep : Nat → Bool) : State := { s with regs := s.regs.filter fun e => keep e.1 }

/-- A register address lies in the instances of a register. -/
def isReg (r : Reg) (a : Nat) : Bool :=
  match RegRef.locate a with
  | some x => x.reg == r
  | none => false

/-- Registers that keep their values in every reset but power-on and pin, and in every power state (Table 18.8): straps,
SEQ_ORIGIN, and the marks that the device holds. -/
def keptAlways (a : Nat) : Bool :=
  a == (RegRef.mk .ctlStraps 0 0 0).addr || a == (RegRef.mk .seqOriginLo 0 0 0).addr ||
  a == (RegRef.mk .seqOriginHi 0 0 0).addr || a == (RegRef.mk .ctlStrec 0 0 0).addr ||
  a == (RegRef.mk .ctlScdout 0 0 0).addr || a == (RegRef.mk .ctlStkout 0 0 0).addr || isReg .laneSpare a

/-- The address lies in a range of Table 20.1. -/
def inRange (lo hi a : Nat) : Bool := decide (lo ≤ a ∧ a < hi)

/-- What a warm reset keeps beside that: the security block and the map's epoch. -/
def keptWarm (a : Nat) : Bool :=
  keptAlways a || inRange 0x400000 0x500000 a || a == (RegRef.mk .fabEpoch 0 0 0).addr || a == (RegRef.mk .fabMapstat 0 0 0).addr

/-- What L2 keeps: the CTL and security blocks; firmware re-installs the RW fields of the QOS, LMT, FAB, PHE and EIO blocks. -/
def keptL2 (a : Nat) : Bool := keptWarm a || inRange 0 0x100000 a
def reinstalledL2 (a : Nat) : Bool := inRange 0x500000 0xA00000 a || inRange 0x3000000 0x3840000 a

/-- SPARED and FAILED of the lanes: spare assignments outlive every reset but power-on and pin (Table 18.8). -/
def State.spareMarks (s : State) : List (RegRef × Nat) :=
  (s.instances .laneLane).map fun x => (x, s.get x &&& 0x30000000)

/-- The register file over a reset or power state: what is kept, what firmware re-installs, spare assignments. -/
def State.regsOver (s : State) (keep again : Nat → Bool) : State :=
  let marks := s.spareMarks
  let rw (e : Nat × Word) : Option (RegRef × Nat) :=
    if again e.1 && !keep e.1 then
      (RegRef.locate e.1).map fun x =>
        let m := x.reg.spec.mask .rw
        (x, (x.reset.toNat &&& (2 ^ 32 - 1 - m)) ||| (e.2.toNat &&& m))
    else none
  let back := s.regs.filterMap rw
  let s := s.keepRegs keep
  let s := forEach back (fun e s => s.put e.1 e.2) s
  forEach marks (fun e s => s.put e.1 ((s.get e.1 &&& 0xCFFFFFFF) ||| e.2)) s

/-! ### Power-down -/

/-- The domains power down into L2 or L3 (R544, Table 18.8). Entry to L3 ends every tenant, key, grant, map and ring; the near
tier loses its contents. M0 and M1 stay active in L2 (Table 13.6). -/
def State.powerDown (s : State) (level phase : Nat) : State :=
  let s := if level = 2 then s.fabricDown else s.portsDown
  let s := s.quiesce
  let s := if level = 2 then s.regsOver keptL2 reinstalledL2 else s.regsOver keptAlways fun _ => false
  let s : State := if level = 2 then s else
    { s with
      mem := MemSt.reset,
      tier := { s.tier with ext := [], dirty := [], bases := [] },
      sec := { s.sec with slots := [], grants := [], badGrant := [], sessions := [], removals := [],
                          tenants := s.sec.tenants.remap TenantRec.fresh fun _ t => { t with st := .free } },
      fab := FabSt.reset,
      fw := { FwSt.reset with types := s.fw.types, nextRing := 0 },
      due := [] }
  let s := s.wf .ctlBringup 31 29 0
  let s := s.wf .ctlBringup 25 24 level
  s.setPhase phase

/-! ### Emergencies -/

/-- The mean of the power readings held. -/
def State.meanPower (s : State) : Nat := s.pwr.powerLog.sum / max 1 s.pwr.powerLog.length

/-- Thresholds of Table 18.3: die, stack, mean power; level 3 has no power threshold. -/
def levelLimits (level : Nat) : Nat × Nat × Option Nat :=
  match level with
  | 1 => (95, 85, some 2600)
  | 2 => (102, 90, some 2750)
  | _ => (110, 95, none)

def State.board (s : State) : Bool := s.rf .ctlEmerg 29 29 == 1

/-- Whether temperature, and power, meet a condition of a level now. -/
def State.hotFor (s : State) (level : Nat) : Bool :=
  let l := levelLimits level
  decide (l.1 ≤ s.rf .ctlTemp 23 16 ∨ l.2.1 ≤ s.rf .ctlTemp 31 24)
def State.powerFor (s : State) (level : Nat) : Bool :=
  match (levelLimits level).2.2 with
  | some w => decide (w ≤ s.rf .ctlTemp 15 0)
  | none => false

/-- A level whose first condition holds (R526). -/
def State.levelHolds (s : State) (level : Nat) : Bool :=
  s.hotFor level || s.powerFor level || (level == 2 && s.board)

/-- Temperatures, power and BOARD are clear of a level (R528). -/
def State.coolFor (s : State) (level : Nat) : Bool :=
  let l := levelLimits level
  decide (s.rf .ctlTemp 23 16 + 5 ≤ l.1 ∧ s.rf .ctlTemp 31 24 + 5 ≤ l.2.1)
def State.powerClear (s : State) (level : Nat) : Bool :=
  match (levelLimits level).2.2 with
  | some w => decide (s.rf .ctlTemp 15 0 + 100 ≤ w)
  | none => true
def State.levelClear (s : State) (level : Nat) : Bool :=
  s.coolFor level && s.powerClear level && !(level == 2 && s.board)

/-- Mask bits that a level forces (Table 18.3). -/
def forcedMask (level : Nat) : Nat := match level with
  | 0 => 0x00
  | 1 => 0x80
  | _ => 0xAA

/-- Firmware writes the skip mask of the present level (R527); the model does it at once. -/
def State.maskWrite (s : State) : State :=
  s.wf .seqSkipctl 7 0 (s.rf .ctlEmerg 7 0 ||| forcedMask (s.rf .ctlEmerg 31 30))

/-- LEVEL takes a new value: causes, record, mask, pending activations (R526 to R528, R520). -/
def State.setLevel (s : State) (new : Nat) : State :=
  let old := s.rf .ctlEmerg 31 30
  let s := (s.wf .ctlEmerg 31 30 new).wf .ctlEmerg 28 28 (b2n (new != 0 && s.hotFor new))
  let s := s.wf .ctlEmerg 27 27 (b2n (new != 0 && s.powerFor new))
  let s : State := { s with pwr := { s.pwr with clearFrom := none } }
  let s := if old < new then s.alert 4 else s
  let s := s.event 0x0032 2 0 0 [old, new, s.rv .ctlEmerg &&& 0x38000000]
  s.maskWrite.fwEmergency

/-- LEVEL reaches 3 (R529): the trip pin and every LSR_EN go low, and every domain but the root of trust powers down. -/
def State.tripNow (s : State) : State :=
  let s := s.portsDown.quiesce
  let s : State := { s with lanes := { s.lanes with thermTripN := false }, pwr := { s.pwr with trip := true } }
  (s.wf .ctlBringup 31 29 0).setPhase 0xF0

/-- The first condition of a higher level holds: LEVEL rises to the highest such level (R526). -/
def State.levelRise (s : State) : State :=
  let cur := s.rf .ctlEmerg 31 30
  let want := if s.levelHolds 3 then 3 else if s.levelHolds 2 then 2 else if s.levelHolds 1 then 1 else 0
  if cur < want then
    let s := s.setLevel want
    if want = 3 then s.tripNow else s
  else s

/-- The level is judged by what CTL_TEMP and BOARD show: its rise, its causes, and the stroke from which they are clear (R526,
R528). -/
def State.levelTrack (s : State) : State :=
  let s := s.levelRise
  let l := s.rf .ctlEmerg 31 30
  if l = 0 ∨ l = 3 then s
  else
    let s := if s.hotFor l then s.wf .ctlEmerg 28 28 1 else if s.coolFor l then s.wf .ctlEmerg 28 28 0 else s
    let s := if s.powerFor l then s.wf .ctlEmerg 27 27 1 else if s.powerClear l then s.wf .ctlEmerg 27 27 0 else s
    { s with pwr := { s.pwr with clearFrom := if s.levelClear l then some (s.pwr.clearFrom.getD s.time.stroke) else none } }

/-- A reading of the sensors (R526): CTL_TEMP and the level. A second reading in a stroke takes the place of the first. -/
def State.sample (s : State) (x : Sensors) : State :=
  let n := s.time.stroke
  let log := if s.pwr.powerAt = n then s.pwr.powerLog.drop 1 else s.pwr.powerLog
  let s : State := { s with pwr := { s.pwr with sensors := some x, powerLog := (x.power.toNat :: log).take 1024, powerAt := n } }
  (s.wv .ctlTemp (fld x.stack.toNat 24 + fld x.die.toNat 16 + s.meanPower % 65536)).levelTrack

/-- The stroke at whose cy 0 LEVEL falls, while its causes stay clear (R528). -/
def State.fallsAt (s : State) : Option Nat :=
  let l := s.rf .ctlEmerg 31 30
  if l = 1 ∨ l = 2 then s.pwr.clearFrom.map fun m => m + 1024 else none

/-- LEVEL falls by one after 1,024 clear strokes (R528). -/
def State.levelFall (s : State) : State :=
  match s.fallsAt with
  | some n => if n ≤ s.time.stroke then s.setLevel (s.rf .ctlEmerg 31 30 - 1) else s
  | none => s

/-- cy 0: LEVEL falls after 1,024 clear strokes, and the sensors are read (R526, R528); before the first reading BOARD alone
counts. After a trip nothing reads them. -/
def State.sensorsRead (s : State) : State :=
  let s := s.levelFall
  if s.pwr.trip then s
  else
    match s.pwr.sensors with
    | some x => s.sample x
    | none => s.levelTrack

/-- A write of SEQ_SKIPCTL sets USERMASK (R527). -/
def State.skipWrite (s : State) (w : Nat) : State :=
  if 256 ≤ w then s else (s.wf .ctlEmerg 7 0 w).maskWrite

/-! ### Resets -/

/-- Watchdog registers of a running set of cores. -/
def State.runCores (s : State) (cores : List Nat) : State :=
  forEach cores (fun c s =>
    if (c = 9 ∨ c = 10) ∧ s.noDelta = true then s else s.wv .ctlWdtstat 0x40000000 0 c) s

/-- A warm reset (R538): every operation ends without a response, and bring-up runs from phase 0x02. -/
def State.warmReset (s : State) : State :=
  let s := s.portsDown.quiesce
  let s := s.regsOver keptWarm fun _ => false
  let s : State := { s with
    tier := { s.tier with ext := [], dirty := [], bases := [] },
    fab := { FabSt.reset with
             map := s.fab.map, prevEpoch := s.fab.prevEpoch, graceUntil := s.fab.graceUntil, uplinks := s.fab.uplinks
             pend := s.fab.pend },
    fw := { FwSt.reset with types := s.fw.types },
    sec := { s.sec with sessions := [] },
    pwr := { s.pwr with marksDone := true, tested := true, clearFrom := none } }
  let s := s.fwBoot false
  let s := if s.sec.removals.isEmpty then s else forEach s.sec.removals (fun x s => s.tenantTryFree x.1) s
  (s.runCores [0]).setPhase 2

/-- The management port that the sampled straps leave out (R400). -/
def mgmtUnselected (straps : BitVec 4) : BitVec 2 :=
  if straps.getLsbD 2 then (if straps.getLsbD 1 then 1 else 2) else 0

/-- A power-on or pin reset begins (R405, R531, Table 18.8): what survives are the fuses, the boot flash with its firmware
banks and records, Cold data, and the levels of the pins. -/
def State.coldReset (s : State) (straps : BitVec 4) (power : Bool) : State :=
  let n : State := { State.reset with
    tier := { TierSt.reset with cold := s.tier.cold, mapped := s.tier.mapped, journal := s.tier.journal, trays := s.tier.trays, located := s.tier.located,
                                coldCap := s.tier.coldCap },
    sec := { SecSt.reset with svnMin := s.sec.svnMin, edRoot := s.sec.edRoot, mlRoot := s.sec.mlRoot,
                              variant := s.sec.variant, stepLetter := s.sec.stepLetter, stepDigit := s.sec.stepDigit,
                              serial := s.sec.serial, edIdent := s.sec.edIdent.fused, mlIdent := s.sec.mlIdent.fused },
    lanes := { LanesSt.reset with lsrFltN := s.lanes.lsrFltN, straps := straps, pwrGood := s.lanes.pwrGood, test := s.lanes.test,
                                  mgmtHeld := mgmtUnselected straps ||| (if power then 0 else s.lanes.mgmtHeld),
                                  thermTripN := power || s.lanes.thermTripN },
    fw := { FwSt.reset with types := s.fw.types },
    pwr := { PwrSt.reset with half0 := s.pwr.half0, half1 := s.pwr.half1, sensors := s.pwr.sensors },
    net := { NetSt.reset with wire := s.net.wire },
    free := s.free, pending := s.pending }
  ((n.wv .ctlStraps straps.toNat).fwBoot true).setPhase 1

/-- RESET (R537 to R541): its completion is posted before the reset begins. -/
def State.cmdReset (s : State) (c : Cmd) : State :=
  s.command c 0x60 0 fun r s =>
    let a := c.arg0.toNat
    let kind := bits a 3 0
    let target := bits a 25 16
    let out := s.scds.length < 32
    if a ≠ kind + fld target 16 then s.complete r .formatUnsupported
    else match kind with
      | 1 => (s.complete r .ok).latchNext .resetWarm
      | 2 =>
        if 32 ≤ target ∨ out ∨ (s.due.any fun d => match d.2 with | .resetScd _ => true | _ => false) = true then
          s.complete r .formatUnsupported
        else (s.complete r .ok).latchNext (.resetScd (BitVec.ofNat 5 target))
      | 3 =>
        let t : Tenant := BitVec.ofNat 10 target
        if s.plannedTenant t ≠ .active then s.complete r .tenantGone
        else (s.complete r .ok).latchNext (.tenantReset t)
      | _ => s.complete r .formatUnsupported

/-- A latched reset begins (R537). -/
def State.resetApply (s : State) (d : Due) : State :=
  match d with
  | .resetWarm => s.warmReset
  | .resetScd k => s.scdReset k
  | .tenantReset t => s.tenantApply (.tenantReset t)
  | _ => s

/-! ### Power states -/

/-- A firmware TYPE is PENDING, ACTIVATING or TRIAL. -/
def State.fwBusy (s : State) : Bool := s.fw.types.any fun e => decide (2 ≤ e.2.st)

/-- What forbids L2 (R543). -/
def State.l2Refused (s : State) : Bool :=
  (s.instances .dirAgent).any (fun x => bitAt (s.get x) 31) || !s.openCtxs.isEmpty ||
  s.tier.ext.any (fun e => e.2.form == 2 && (e.2.st == 1 || e.2.st == 2 || e.2.st == 3)) ||
  s.sec.tenants.any (fun e => e.2.st == .retiring) || s.sec.slots.any (fun e => e.2.st == .scrubbing) ||
  s.sec.grants.any (fun e => e.2.st == .zeroing || e.2.st == .revoking || e.2.st == .scrubbing) || s.fwBusy

/-- PWR_STATE (R542 to R544). -/
def State.cmdPwrState (s : State) (c : Cmd) : State :=
  s.command c 0x61 0 fun r s =>
    let level := bits c.arg0.toNat 1 0
    if c.arg0.toNat ≠ level ∨ 2 ≤ s.pstate then s.complete r .formatUnsupported
    else if (level = 2 ∧ s.l2Refused = true) ∨ (level = 3 ∧ s.fwBusy = true) then s.complete r .formatUnsupported
    else (s.complete r .ok).latchNext (.power level)

/-- SHUTDOWN (R551). -/
def State.cmdShutdown (s : State) (c : Cmd) : State :=
  s.command c 0x62 0 fun r s =>
    if 2 ≤ s.pstate then s.complete r .formatUnsupported else (s.complete r .ok).latchNext .shutdown

/-- The stroke by which work in flight has ended (R544). -/
def State.drainBy (s : State) : Nat := s.time.stroke + s.rf .lmtTmo 15 0 + 2

/-- A latched power state begins (R542, R544). -/
def State.powerApply (s : State) (level : Nat) : State :=
  if level < 2 then s.wf .ctlBringup 25 24 level
  else
    let s := s.wf .ctlBringup 31 31 0
    { s with pwr := { s.pwr with target := some (level, s.drainBy) } }

/-- A latched shutdown begins (R551): as R544, with PHASE 0x40 and every LSR_EN low. -/
def State.shutdownApply (s : State) : State :=
  let s := (s.wf .ctlBringup 31 31 0).setPhase 0x40
  let s := forUpto 16 (fun u s => s.dieDown u) s
  { s with pwr := { s.pwr with target := some (4, s.drainBy) } }

/-- Work in flight has ended (R544, R551). -/
def State.drained (s : State) : State :=
  match s.pwr.target with
  | none => s
  | some (2, _) => s.powerDown 2 0x20
  | some (3, _) => s.powerDown 3 0x30
  | some _ => ({ s with pwr := { s.pwr with target := none } }).setPhase 0x41

/-- The exit to L0 begins (R545): from L2 with phase 0x04, from L3 with phase 0x02. PSTATE names the state left until Ready. -/
def State.powerExit (s : State) : State :=
  if s.pwr.trip || s.phase < 0x20 || 0x42 < s.phase then s
  else if s.pstate = 2 then
    ({ s with pwr := { s.pwr with marksDone := true, tested := true } }).setPhase 4
  else if s.pstate = 3 then
    ((({ s with pwr := { s.pwr with marksDone := false, tested := true } }).runCores [0])).setPhase 2
  else s

/-- A write of CTL_PWRREQ (R545): TARGET 0b01 to 0b11 and RSV bits are discarded under R9. -/
def State.pwrreq (s : State) (w : Nat) : State := if w = 0 then s.powerExit else s

/-! ### The self-test record (R553 to R555) -/

/-- What the device signs of a record (Table 18.10): header, then the results from byte 0x040 on. -/
def State.recordBody (s : State) (source bootno : Nat) (results : List Byte) : List Byte :=
  padTo 0x200 (leBytes 4 0x46575354 ++ leBytes 2 1 ++ leBytes 1 source ++ leBytes 1 0 ++ leBytes 4 bootno ++ leBytes 4 0 ++
    leBytes 8 (if s.time.ptp = 0 then 0 else s.time.ptp.toNat) ++ leBytes 8 s.time.stroke ++ leBytes 4 s.ctlId ++
    leBytes 4 s.ctlStep ++ leBytes 24 0 ++ padTo 0x1C0 results)

/-- A record as the device writes it (Table 18.10): its body, signed with both DeviceID keys (R554). -/
def State.recordBytes (s : State) (source bootno : Nat) (results : List Byte) : List Byte :=
  let b := s.recordBody source bootno results
  padTo 0x1000 (b ++ padTo 64 (Config.ed25519Sign s.sec.edIdent.device.priv b) ++
    padTo 3309 (Config.mldsaSign s.sec.mlIdent.device.priv b))

def State.half (s : State) (second : Bool) : FlashHalf := if second then s.pwr.half1 else s.pwr.half0
def State.setHalf (s : State) (second : Bool) (h : FlashHalf) : State :=
  { s with pwr := if second then { s.pwr with half1 := h } else { s.pwr with half0 := h } }

/-- BOOTNO of this run's stamp; 0 before phase 0x03 stamped a half. -/
def State.bootno (s : State) : Nat :=
  match s.pwr.runHalf with
  | some b => (s.half b).stamp.getD 0
  | none => 0

/-- A record is written to the half of this run, while FRST_N is high (R407). -/
def State.recordWrite (s : State) (source : Nat) (results : List Byte) : List Byte × State :=
  let rec_ := s.recordBytes source s.bootno results
  match s.pwr.runHalf with
  | none => (rec_, s)
  | some b =>
    let h := s.half b
    if !s.lanes.frstN then (rec_, s)
    else (rec_, s.setHalf b (if source = 0 then { h with shut := some rec_ } else { h with boot := some rec_ }))

/-! ### Rows -/

/-- TEMPERATURE_SAMPLE (R526): what the sensors show, as this stroke reads it and every later one until the next row (log
entry 82); after a trip no domain reads sensors. -/
def execTemperatureSample (x : Sensors) (s : State) : Host.Outcome State Fault Refusal :=
  .next (if s.pwr.trip then s else s.sample x)

/-- POWER_ON_RESET (R531): FRST_N rises after power-up. -/
def execPowerOnReset (straps : BitVec 4) (s : State) : Host.Outcome State Fault Refusal := .next (s.coldReset straps true)

/-- PIN_RESET (R531): FRST_N rises after at least 1 ms low with PWR_GOOD high. -/
def execPinReset (straps : BitVec 4) (s : State) : Host.Outcome State Fault Refusal := .next (s.coldReset straps false)

/-- Outputs are released, and the I3C target is silent and loses its dynamic address (R406, R410). -/
def State.release (s : State) : State :=
  let s := s.portsDown
  { s with lanes := { s.lanes with i3cAddr := none, ppsOut := false } }

/-- FRST_N_ASSERT (R406, R407, R410). -/
def execFrstNAssert (s : State) : Host.Outcome State Fault Refusal :=
  let s := s.release
  .next { s with lanes := { s.lanes with frstN := false } }

/-- PWR_GOOD_CHANGE (R406, R410, R525): loss of power ends every operation in flight. -/
def execPwrGoodChange (high : Bool) (s : State) : Host.Outcome State Fault Refusal :=
  let s : State := if high then s else (s.release.quiesce.wf .ctlBringup 31 29 0).setPhase 0
  .next { s with lanes := { s.lanes with pwrGood := high } }

/-- The command of a RESET or PWR_STATE row, with the kind or level that the row names. -/
def Cmd.withLow (c : Cmd) (hi v : Nat) : Cmd := { c with arg0 := BitVec.ofNat 64 (setBits c.arg0.toNat hi 0 v) }

def execResetWarm (c : Cmd) (s : State) : Host.Outcome State Fault Refusal := .next (s.cmdReset (Cmd.withLow c 3 1))
def execResetScd (c : Cmd) (s : State) : Host.Outcome State Fault Refusal := .next (s.cmdReset (Cmd.withLow c 3 2))
def execResetTenant (c : Cmd) (s : State) : Host.Outcome State Fault Refusal := .next (s.cmdReset (Cmd.withLow c 3 3))

def execPwrStateL0 (c : Cmd) (s : State) : Host.Outcome State Fault Refusal := .next (s.cmdPwrState (Cmd.withLow c 1 0))
def execPwrStateL1 (c : Cmd) (s : State) : Host.Outcome State Fault Refusal := .next (s.cmdPwrState (Cmd.withLow c 1 1))
def execPwrStateL2 (c : Cmd) (s : State) : Host.Outcome State Fault Refusal := .next (s.cmdPwrState (Cmd.withLow c 1 2))
def execPwrStateL3 (c : Cmd) (s : State) : Host.Outcome State Fault Refusal := .next (s.cmdPwrState (Cmd.withLow c 1 3))

/-- PWRREQ_EXIT (R545): a write of CTL_PWRREQ. -/
def execPwrreqExit (w : Word) (s : State) : Host.Outcome State Fault Refusal := .next (s.pwrreq w.toNat)

def execShutdown (c : Cmd) (s : State) : Host.Outcome State Fault Refusal := .next (s.cmdShutdown c)

end Sys2Proof.Machine
end

