-- ==== Sys2Proof/Machine/Bringup.lean ====
section
/-! DEFINITION. Bring-up (R531 to R536), the marks of the self-test record (R553 to R556), and its completion. -/

namespace Sys2Proof.Machine

/-! ### Halts and failed images -/

/-- Bring-up halts (R535). -/
def State.bringHalt (s : State) (reason : Nat) : State := (s.wf .ctlBringup 23 16 reason).setPhase 0xE0

/-- The image type that a core runs (Table 17.1). -/
def coreType (c : Nat) : Nat :=
  if c = 0 then 1 else if c ≤ 4 then 2 else if c ≤ 8 then 3 else if c ≤ 10 then 4 else if c ≤ 18 then 5 else 6

/-- An image failed a check (R441). -/
def State.imageFailed (s : State) (x : PhaseEnd) : State :=
  let s := s.wv .secBootstat (fld 1 30 + fld x.imgType.toNat 16 + fld x.imgCheck.toNat 8)
  (s.alert 2).bringHalt 1

/-! ### Marks (R553, R555, R556) -/

/-- The valid record with the highest BOOTNO, a shutdown record before a boot-test one, and the half that holds it. -/
def State.bestRecord (s : State) : Option (List Byte × Bool) :=
  let of (b : Bool) : List (Nat × List Byte × Bool) :=
    ((s.half b).shut.toList.map fun r => (2 * leAt r 8 4 + 1, r, b)) ++ ((s.half b).boot.toList.map fun r => (2 * leAt r 8 4, r, b))
  ((of false ++ of true).foldl (fun best x => match best with
    | none => some x
    | some y => if y.1 < x.1 then some x else some y) none).map fun x => x.2

/-- CTL_STREC.STATE (R555): 0 FRESH, 1 STALE, 2 INVALID, 3 ABSENT. -/
def State.strecState (s : State) : Nat :=
  let h0 := s.pwr.half0
  let h1 := s.pwr.half1
  let fresh (h : FlashHalf) : Bool := match h.stamp, h.shut with
    | some n, some r => leAt r 8 4 == n
    | _, _ => false
  let top := decide (h1.stamp.getD 0 ≤ h0.stamp.getD 0)
  let newest := if top then h0 else h1
  let other := if top then h1 else h0
  if fresh newest then 0
  else if other.shut.isSome then 1
  else if h0.boot.isSome || h0.shut.isSome || h1.boot.isSome || h1.shut.isSome then
    if (s.bestRecord).isSome then 1 else 2
  else 3

/-- The half that holds the record from which the marks held were taken. -/
def State.marksHalf (s : State) : Option Bool :=
  match s.pwr.marks with
  | none => none
  | some r =>
    let holds (h : FlashHalf) : Bool := h.shut == some r || h.boot == some r
    if holds s.pwr.half0 then some false else if holds s.pwr.half1 then some true else none

/-- The half this run erases and stamps (R553). -/
def State.pickHalf (s : State) : Bool :=
  match s.marksHalf with
  | some b => !b
  | none =>
    match s.pwr.half0.stamp, s.pwr.half1.stamp with
    | none, _ => false
    | _, none => true
    | some a, some b => decide (b < a)

/-- The run's half is erased and stamped (R553), while FRST_N is high (R407). -/
def State.stampHalf (s : State) : State :=
  if !s.lanes.frstN then s
  else
    let b := s.pickHalf
    let n := max (s.pwr.half0.stamp.getD 0) (s.pwr.half1.stamp.getD 0) + 1
    let s := s.setHalf b { stamp := some n, boot := none, shut := none }
    { s with pwr := { s.pwr with runHalf := some b } }

/-- Failed channels of one die (Table 18.11): the lowest failed lane of a group takes a good spare, the others are FAILED. -/
def State.markDie (s : State) (u lanes spares : Nat) : State :=
  let groups := if u < 16 then 4 else 2
  let per := if u < 16 then 8 else 16
  forUpto groups (fun g s =>
    let bad := (List.range 32).filter fun l => l / per == g && bitAt lanes l
    let s := if bitAt spares g then s.wf .laneSpare 30 30 1 u g else s
    match bad with
    | [] => s
    | l :: ls =>
      let s := if bitAt spares g then s.wf .laneLane 28 28 1 u l
        else ((s.wf .laneSpare 31 31 1 u g).wf .laneSpare 4 0 l u g).wf .laneLane 29 29 1 u l
      forEach ls (fun l s => s.wf .laneLane 28 28 1 u l) s) s

/-- The marks of a record are applied (R556). -/
def State.applyMarks (s : State) (r : List Byte) : State :=
  let misc := leAt r 0xC8 4
  let mids := (List.range 8).foldl (fun v m => if bitAt misc m then v ||| (7 <<< (3 * m)) else v) 0
  let s := forUpto 2 (fun i s => if bitAt misc (12 + i) then s.mgmtDown (portM0 + i) else s) s
  let s := s.wv .ctlScdout (leAt r 0xC0 4)
  let s := s.wv .ctlStkout (fld (bits misc 9 8) 24 + bits (leAt r 0xC4 4 ||| mids) 23 0)
  let s := forUpto 16 (fun u s => s.markDie u (leAt r (0x100 + 8 * u) 4) (leAt r (0x104 + 8 * u) 1 % 16)) s
  forUpto 4 (fun u s => s.markDie (16 + u) (leAt r (0x180 + 8 * u) 4) (leAt r (0x184 + 8 * u) 1 % 4)) s

/-- An SCD marked out of service: its homes and ports go to its substitute (R556). -/
def State.marksOut (s : State) : State :=
  match (List.range 32).filter (fun k => bitAt (s.rv .ctlScdout) k) with
  | [k] =>
    { s with pwr := { s.pwr with substituted := [BitVec.ofNat 5 k], portSub := [BitVec.ofNat 5 k] } }
  | _ => s

/-- What halts bring-up among the marks (R535): the reason, if any. -/
def State.markHalt (s : State) (r : Option (List Byte)) : Option Nat :=
  let misc := (r.map fun b => leAt b 0xC8 4).getD 0
  if 2 ≤ 32 - s.scds.length then some 2
  else if s.rf .ctlStkout 25 24 = 3 then some 3
  else if bits misc 11 10 ≠ 0 then some 4
  else none

/-- Phase 0x03: record half stamped, STATE set, marks taken and applied. After an exit from L3 the marks held stay. -/
def State.phase3 (s : State) : State :=
  let st := s.strecState
  let best := s.bestRecord
  let keep := s.pstate == 3
  let marks := if keep then s.pwr.marks else best.map fun x => x.1
  let s : State := { s with pwr := { s.pwr with marksDone := true, marks := marks } }
  let s := s.stampHalf.wf .ctlStrec 31 30 st
  let s := if st = 0 then s else s.alert 5
  let s := match marks, keep with
    | some r, false => (s.applyMarks r).marksOut
    | _, _ => s
  match s.markHalt (if keep then none else marks) with
  | some reason => s.bringHalt reason
  | none => s

/-! ### The phases (Table 18.5) -/

/-- Phase 0x04 ends: control region and ring pair 0 are initialised. -/
def State.phase4 (s : State) : State :=
  let s := if (s.ring 0).isSome then s else s.setRing 0 Ring.pair0
  (s.wf .ctlBringup 30 30 1).setPhase 5

/-- Phase 0x05 ends: tenant 0 is ACTIVE and bound to the management ports (R501). -/
def State.phase5 (s : State) : State :=
  let s := if (s.tenant 0).st = .active then s else s.tenantCreate 0 0
  let s := s.wvNow .secBind (fld 1 31 + fld 640 10) 0 0xFFFE
  let s := s.wvNow .secBind (fld 1 31 + fld 641 10) 0 0xFFFF
  s.setPhase 6

/-- SEQ_ORIGIN. -/
def State.origin (s : State) : Nat := s.rv .seqOriginHi * 2 ^ 32 + s.rv .seqOriginLo

/-- The stroke count takes a value (R52): what waits for a cy moves with it. -/
def State.setClock (s : State) (stroke cy : Nat) : State :=
  let old := s.now
  let new := 1536 * stroke + cy
  let timed := s.timed.map fun e => (new + (e.1 - old), e.2)
  { s with time := { s.time with stroke := stroke, cy := cy }, timed := timed }

/-- The age of the record from which marks were taken, in seconds (R555). -/
def State.recordAge (s : State) (ptp : Nat) : Nat :=
  match s.pwr.marks with
  | some r =>
    let t := leAt r 0x10 8
    if t = 0 ∨ ptp < t then 0xFFFFFFF else min 0xFFFFFFF ((ptp - t) / 1000000000)
  | none => 0xFFFFFFF

/-- Phase 0x06 ends: the alignment step of R52, and LOCKED. -/
def State.phase6 (s : State) (ptp : Nat) : State :=
  let d := ptp - s.origin
  let s := s.setClock (d / 1024) (d % 1024 * 1536 / 1024)
  let s : State := { s with time := { s.time with ptp := BitVec.ofNat 64 ptp, aligned := true } }
  let s := (s.wf .seqAlign 31 31 1).wf .ctlStrec 27 0 (s.recordAge ptp)
  s.setPhase 7

/-- CTL_NEARMAP at the end of bring-up (R232). -/
def State.nearMap (s : State) : State :=
  let f := ceilDiv s.coldCapacity (8 * 2 ^ 40)
  s.wv .ctlNearmap (fld (1535 - f) 8 + f)

/-- Phase 0x07 ends: the skip mask holds what R527 gives, READY (R531), on the 31-tile layout with one SCD out of service (R535). -/
def State.phase7 (s : State) : State :=
  let s := s.nearMap.maskWrite
  let s := s.wf .ctlBringup 25 24 0
  let s := (s.wf .ctlBringup 31 31 1).setPhase 0x10
  let s := if s.fab.map.isSome then s.expectAll else s
  if s.scds.length < 32 then s.installTiles true else s

/-- Alias keys are derived once after each power-on or pin reset. -/
def State.aliasesOnce (s : State) : State :=
  if s.sec.edIdent = s.sec.edIdent.fused then s.deriveAliases else s

/-- A bring-up phase ends (R531); in phase 0x02 the alias keys are derived (R442) unless they were kept
(Table 18.8), and only the cores of a failed image's type stay
stopped (R441). Phases 0x03 and 0x04 begin together: of two ends in PHASE 0x04 the first is that of 0x03. -/
def State.phaseEnd (s : State) (x : PhaseEnd) : State :=
  match s.phase with
  | 1 => if x.ok then (s.runCores [0]).setPhase 2 else s.imageFailed x
  | 2 =>
    if x.ok then
      let s := (s.aliasesOnce.runCores ((List.range 20).map (· + 1))).wv .secBootstat (fld 1 31)
      s.setPhase 4
    else if x.imgType = 1 then s.imageFailed x
    else
      (s.aliasesOnce.runCores (((List.range 20).map (· + 1)).filter fun c => coreType c != x.imgType.toNat)).imageFailed x
  | 4 =>
    if !s.pwr.marksDone then s.phase3
    else if s.lanes.straps.getLsbD 0 && !s.pwr.tested then s
    else match s.markHalt none with
      | some reason => s.bringHalt reason
      | none => s.phase4
  | 5 => s.phase5
  | 6 => if x.ok then s.phase6 x.ptp.toNat else s
  | 7 => s.phase7
  | _ => s

/-- LOCKED is still 0 at 10,000 ms (R534): phase 0x06 ends on the last PTP time of day, or on stroke 0. -/
def State.alignTimeout (s : State) : State :=
  if s.phase ≠ 6 ∨ s.rf .seqAlign 31 31 = 1 then s
  else
    let d := s.time.ptp.toNat - s.origin
    let s := if s.time.ptp = 0 then s.setClock 0 0 else s.setClock (d / 1024) (d % 1024 * 1536 / 1024)
    let s : State := { s with time := { s.time with aligned := true } }
    ((s.alert 0).wf .ctlStrec 27 0 (s.recordAge s.time.ptp.toNat)).setPhase 7

/-- Self-tests end (R536, R551, R552): of a shutdown, the record is written and the device enters L3; of a boot with FULLTEST,
their results replace the stored marks. -/
def State.selfTested (s : State) (results : List Byte) : State :=
  if s.phase = 0x41 then
    let (_, s) := s.recordWrite 0 results
    s.powerDown 3 0x42
  else if s.phase = 4 ∧ s.lanes.straps.getLsbD 0 = true ∧ s.pwr.marksDone = true ∧ s.pwr.tested = false then
    let (r, s) := s.recordWrite 1 results
    let s : State := { s with pwr := { s.pwr with marks := some r, tested := true, substituted := [], portSub := [] } }
    let s := s.keepRegs fun a => !(isReg .laneSpare a || isReg .laneLane a)
    let s := (s.applyMarks r).marksOut
    match s.markHalt (some r) with
    | some reason => s.bringHalt reason
    | none => s
  else s

/-! ### Rows -/

/-- BRINGUP_PHASE_END (R531). -/
def execBringupPhaseEnd (x : PhaseEnd) (s : State) : Host.Outcome State Fault Refusal := .next (s.phaseEnd x)

/-- ALIGNMENT_TIMEOUT (R534). -/
def execAlignmentTimeout (s : State) : Host.Outcome State Fault Refusal := .next s.alignTimeout

/-- SELF_TEST_COMPLETE (R552): the operand is the record's content from byte 0x040 on. -/
def execSelfTestComplete (x : List Byte) (s : State) : Host.Outcome State Fault Refusal := .next (s.selfTested x)

end Sys2Proof.Machine
end

