-- ==== Sys2Proof/Machine/Regs.lean ====
section
/-! DEFINITION. The management registers as software reaches them: what each read returns, which writes R9 discards, and what
the accepted ones do (20_register_index.md, R7 to R9, R38, R580 to R583, and the rules of each register). -/

namespace Sys2Proof.Machine

/-! ### Reads -/

def TenSt.code : TenSt → Nat
  | .free => 0 | .active => 1 | .retiring => 2

def SlotSt.code : SlotSt → Nat
  | .empty => 0 | .loaded => 1 | .suspended => 2 | .retiring => 3 | .scrubbing => 4

def SegSt.code : SegSt → Nat
  | .verifying => 1 | .ready => 2 | .disabled => 3

/-- Bits of units that the variant lacks (R38). -/
def State.absentBits (s : State) (x : RegRef) : Nat :=
  if !s.noDelta then 0
  else match x.reg with
    | .lmtTenpol => 4
    | .scdDcxmap | .scdDcspill | .scdDcquant | .scdDcrawtx => 2 ^ 32 - 1
    | .ctlWdtstat => if x.i = 9 ∨ x.i = 10 then 2 ^ 32 - 1 else 0
    | .ctlFwstat => if x.i = 4 then 2 ^ 32 - 1 else 0
    | _ => 0

/-- SEQ_SEGDESC_A and SEQ_SEGDESC_B (Tables 3.15, 3.16). -/
def State.segdescA (s : State) (i : Nat) : Nat :=
  match s.seg.find i with
  | some g => fld g.st.code 30 + fld g.image.tenant.toNat 16 + g.image.no.toNat
  | none => 0
def State.segdescB (s : State) (i : Nat) : Nat :=
  match s.seg.find i with
  | some g => fld (b2n g.pendRepl) 31 + fld (b2n g.image.fret31.isSome) 30 + fld g.image.len 16 + g.image.fretN
  | none => 0

/-- FAB_INDEX (Table 16.7). -/
def State.fabIndexReg (s : State) : Nat :=
  match s.fabIndex with
  | some i => fld (((s.mapOr.devs[i]?).map fun d => d.stage).getD 0) 30 + i
  | none => 0

/-- The council slot of a device, 7 when it has none. -/
def State.councilSlot (s : State) (d : Option Dword) : Nat :=
  match d with
  | some d => if s.council.contains d then s.council.idxOf d else 7
  | none => 7

/-- FAB_COUNCIL (Table 16.7). -/
def State.councilReg (s : State) : Nat :=
  let live := (List.range s.council.length).foldl (fun v i => match s.council[i]? with
    | some d => if s.liveMember d then v + 2 ^ i else v
    | none => v) 0
  fld (s.councilSlot s.manager) 8 + fld (s.councilSlot (some s.serial)) 5 + live % 32

/-- FAB_MAPSTAT (Table 16.7); SYNC is stored. -/
def State.mapstatReg (s : State) : Nat :=
  let grace := match s.fab.graceUntil with
    | some n => decide (s.time.stroke < n)
    | none => false
  let role := if s.fab.acting then 2 else if s.council.contains s.serial then 1 else 0
  fld (b2n s.fab.pend.isSome) 31 + fld (b2n grace) 30 + fld (s.rf .fabMapstat 29 29) 29 + fld role 27 +
    ((s.fab.pend.map fun c => c.epoch.toNat).getD 0)

/-- The pending, or else the last, capo point. -/
def State.capoReg (s : State) : Nat :=
  match s.fab.pend with
  | some c => c.capo
  | none => (s.fab.map.map fun m => m.capo).getD 0

/-- Granules that await zero-fill or scrub (SEC_SCRUB). -/
def State.scrubPend (s : State) : Nat :=
  ((s.sec.grants.filter fun e => e.2.st == .zeroing || e.2.st == .scrubbing).map fun e => e.2.len).sum

/-- The value of a register whose fields show other state of the device. -/
def State.derived (s : State) (x : RegRef) : Option Nat :=
  match x.reg with
  | .ctlId => some s.ctlId
  | .ctlStep => some s.ctlStep
  | .seqStrokeLo => some s.time.stroke
  | .seqSlotsched => some (setBits (s.get x) 30 30 (b2n s.time.slotAt.isSome))
  | .seqSegdescA => some (s.segdescA x.i)
  | .seqSegdescB => some (s.segdescB x.i)
  | .scdTile => some (fld (b2n s.scd.layout31) 5 + s.tile (BitVec.ofNat 5 x.unit))
  | .scdScinvCmd => some (fld (b2n (s.mem.inval.any fun e => e.byReg && e.k.toNat == x.unit)) 30)
  | .dirOcc => some (countIf (fun e => (s.home (128 * e.1)).toNat == x.unit && e.2.st != .i) s.coh.entries)
  | .qosPortstat => some (fld (b2n (s.net.barrier.find x.i).isSome) 17 + s.used (.planned x.i))
  | .qosSvcStat => some (s.used (.svc x.i x.j))
  | .lanePstat =>
    let p := unitFirst x.unit + x.i
    some (fld (b2n (s.portUp p)) 31 + fld (b2n (s.portActive p)) 30)
  | .pheLsrctl => some (setBits (s.get x) 30 30 (b2n (!s.lanes.lsrFltN.getLsbD x.unit)))
  | .secTen =>
    let t := s.tenant (BitVec.ofNat 10 x.i)
    some (fld t.st.code 30 + t.epoch.toNat)
  | .secKslot =>
    let k := s.slot x.i
    some (fld k.st.code 29 + min k.sample (2 ^ 24 - 1))
  | .secGrantocc => some s.sec.grants.length
  | .secScrub => some s.scrubPend
  | .fabSerialLo => some s.serial.toNat
  | .fabSerialHi => some (s.serial.toNat / 2 ^ 32)
  | .fabIndex => some s.fabIndexReg
  | .fabMapstat => some s.mapstatReg
  | .fabCapoLo => some s.capoReg
  | .fabCapoHi => some (s.capoReg / 2 ^ 32)
  | .fabCouncil => some s.councilReg
  | .ctlFwstat => some (fld (s.fwType x.i).st 29 + fld (b2n (s.fwType x.i).scommit) 28)
  | .ctlScdout => some (s.get x ||| s.pwr.lostScd.toNat)
  | .ctlStkout => some (s.get x ||| s.pwr.lostStack.toNat ||| fld s.pwr.lostSeq.toNat 24)
  | _ => none

/-- What a read of a register returns; write-only and RSV fields read zero. -/
def State.regValue (s : State) (x : RegRef) : Nat :=
  (((s.derived x).getD (s.get x)) % 2 ^ 32) &&& (2 ^ 32 - 1 - s.absentBits x)

/-- A read, with the latch of R53. -/
def State.regRead (s : State) (x : RegRef) : Nat × State :=
  (s.regValue x, if x.reg = .seqStrokeLo then s.wv .seqStrokeHi (s.time.stroke / 2 ^ 32) else s)

/-- The die instance of an address is out of service (R582). -/
def State.dieOut (s : State) (a : Nat) : Bool :=
  match blockOf a with
  | some (.scd, u, _) => s.scdOut (BitVec.ofNat 5 u)
  | some (.mid, u, _) => s.pwr.lostMid.getLsbD u
  | some (.lane, u, _) => s.pwr.lostLane.getLsbD u
  | _ => false

/-! ### Writes that R9 discards -/

/-- A value in some field that its table marks reserved. -/
def RegRef.reservedValue (x : RegRef) (w : Nat) : Bool :=
  match x.reg with
  | .seqAlign => bits w 17 16 == 3
  | .seqSlotsched => bits w 6 0 == 0 || decide (64 < bits w 6 0) || (bitAt w 31 && bitAt w 28)
  | .scdRcxCfg =>
    let op := bits w 29 28
    let fmt := bits w 27 24
    fmt == 5 || decide (0xB ≤ fmt) || (op == 3 && fmt != 0 && fmt != 9) || (bitAt w 19 && op != 0) || bits w 22 21 != 0
  | .scdRcxLen => bits w 17 0 == 0
  | .scdScinvLen | .dirSwLen | .fabHowinLen => bits w 23 0 == 0
  | .lmtCfg => bits w 15 0 == 0
  | .lmtIpcfg => bits w 23 16 == 0 || decide (57 ≤ bits w 5 0)
  | .lmtTmo => bits w 31 16 == 0 || bits w 15 0 == 0
  | .lmtRgCfg =>
    bits w 26 24 == 0 || bits w 23 20 == 0 || bits w 19 12 == 0 || bits w 6 0 == 0 || decide (97 ≤ bits w 6 0)
  | .lmtRgMin => bits w 15 0 == 0
  | .lmtProle => (List.range 16).any fun k => bits w (2 * k + 1) (2 * k) == 3
  | .qosQprofB => decide (9 ≤ bits w 20 17)
  | .qosMirA => decide (640 ≤ bits w 25 16 ∨ 17 ≤ bits w 4 0)
  | .qosSmpSize | .ctlLogSize | .ctlEvtSize => decide (bits w 4 0 < 4 ∨ 16 < bits w 4 0)
  | .qosPortcfg => bits w 31 28 == 0
  | .qosSubA => decide (640 ≤ bits w 21 12 ∨ 0xC00 ≤ bits w 11 0)
  | .qosSubB => bits w 31 24 == 0
  | .qosSvcCfg => bits w 13 6 == 0
  | .laneSwapcfg => bits w 15 0 == 0
  | .secBind => decide (642 ≤ bits w 19 10)
  | .fabCfg => bits w 31 24 == 0 || bits w 15 0 == 0
  | .ctlWdtcfg => bits w 15 0 == 0
  | .ctlPwrreq => bits w 1 0 != 0
  | _ => false

/-- The state with a register at a written value that acts already. -/
def State.wouldBe (s : State) (x : RegRef) (w : Nat) : State :=
  let t := s.put x (x.merge (s.get x) w)
  { t with acts := [] }

/-- A change raises the reserved cells of some SCD above its buffer (R366). -/
def State.overReserved (s t : State) : Bool :=
  (List.range 32).any fun k =>
    let n := t.reservedCells (BitVec.ofNat 5 k)
    decide (98304 < n) && decide (s.reservedCells (BitVec.ofNat 5 k) < n)

/-- Two valid subscribers name one port and key (R362). -/
def State.subTwice (s : State) (i : Nat) : Bool :=
  s.subs.any fun y => y.1 == i && s.subs.any fun z => z.1 != i && z.2 == y.2

/-- A meter holds CIR above PIR, or an empty bucket (R380). -/
def State.meterBad (s : State) (m : Nat) : Bool :=
  decide (s.rf .qosMetPir 15 0 0 m < s.rf .qosMetCir 15 0 0 m) || s.rf .qosMetBurst 31 16 0 m == 0 ||
  s.rf .qosMetBurst 15 0 0 m == 0

/-- A sample ring of the present size at base `a` lies inside the control region (R385). -/
def State.smpFits (s : State) (a : Nat) : Bool := inControl a (384 * 2 ^ s.rf .qosSmpSize 4 0)
/-- The low half of the sample ring's base. -/
def State.smpLo (s : State) : Nat := s.rf .qosSmpBaseLo 31 7 * 128
/-- The high half of the sample ring's base. -/
def State.smpHi (s : State) : Nat := s.rf .qosSmpBaseHi 24 0 * 2 ^ 32
/-- The register value after a write of one of the sample ring's registers is refused (R385, log entry 26, DEDUCED: a half
of the base is judged with the other half at a value of the control region, since no ring stands between the two writes). -/
def State.smpRefused (s : State) (x : Reg) : Bool :=
  match x with
  | .qosSmpBaseLo => !s.smpFits (0x17F * 2 ^ 32 + s.smpLo)
  | .qosSmpBaseHi => !s.smpFits (s.smpHi + 0xC0000000)
  | _ => !s.smpFits (s.smpHi + s.smpLo)
/-- The log ring lies inside the control region (R514). -/
def State.logInside (s : State) : Bool := inControl s.logBase (64 * 2 ^ s.rf .ctlLogSize 4 0)
/-- The event ring lies inside the control region (R578). -/
def State.evtInside (s : State) : Bool := inControl s.evtBase (64 * 2 ^ s.rf .ctlEvtSize 4 0)

/-- An enabled handoff window reaches outside user near (Table 16.7). -/
def State.howinBad (s : State) (j : Nat) : Bool :=
  s.rf .fabHowinCfg 31 31 0 j == 1 &&
  decide (s.rf .ctlNearmap 23 8 * 2 ^ 30 <
    s.rf .fabHowinHi 8 0 0 j * 2 ^ 32 + s.rf .fabHowinLo 31 12 0 j * 4096 + 4096 * s.rf .fabHowinLen 23 0 0 j)

/-- CANCEL comes in time (R59). -/
def State.cancelInTime (s : State) : Bool :=
  match s.time.slotAt with
  | some n => decide (s.now + 64 < 1536 * n)
  | none => false

/-- DIR_AGENT names a port off the electrical octets, or one that another valid entry of the SCD names (R293). -/
def State.agentBad (s : State) (x : RegRef) (w : Nat) : Bool :=
  bitAt w 31 &&
  (decide (bits w 9 0 < 512 ∨ 640 ≤ bits w 9 0) ||
   (List.range 32).any fun i =>
     i != x.i && s.rf .dirAgent 31 31 x.unit i == 1 && s.rf .dirAgent 9 0 x.unit i == bits w 9 0)

/-- A rule of the register's own discards the write in this state. -/
def State.writeRefused (s : State) (x : RegRef) (w : Nat) : Bool :=
  let t := s.wouldBe x w
  match x.reg with
  | .seqSlotentS | .seqSlotschedAtLo | .seqSlotschedAtHi => s.time.slotAt.isSome
  | .seqSlotsched => (bitAt w 31 && s.time.slotAt.isSome) || (bitAt w 28 && !s.cancelInTime)
  | .scdRcxCfg | .scdRcxBuf | .scdRcxLen | .scdRcxOwn | .scdRcxSig | .scdRcxLocal =>
    s.rcxState (BitVec.ofNat 5 x.unit) x.i == rcxOpen
  | .scdScinvLo | .scdScinvHi | .scdScinvLen | .scdScinvCmd => s.mem.inval.any fun e => e.byReg && e.k.toNat == x.unit
  | .dirAgent => s.agentBad x w
  | .qosRqprof | .qosQprofA | .qosPortcfg | .qosSvcCfg | .laneOctcfg => s.overReserved t
  | .qosSubA => t.subTwice x.i || s.overReserved t
  | .qosMetCir | .qosMetPir | .qosMetBurst => t.meterBad x.i
  | .qosSmpBaseLo | .qosSmpBaseHi | .qosSmpSize =>
    (List.range 16).any (fun i => s.rf .qosMirA 31 31 0 i == 1) || t.smpRefused x.reg
  | .ctlLogBaseLo | .ctlLogBaseHi | .ctlLogSize => !t.logInside
  | .ctlEvtBaseLo | .ctlEvtBaseHi | .ctlEvtSize => !t.evtInside
  | .lmtTenpol => bits w 1 0 != 0 && !s.loaded (wireSlot (BitVec.ofNat 10 x.i))
  | .fabHowinLo | .fabHowinHi | .fabHowinLen | .fabHowinCfg => t.howinBad x.i
  | _ => false

/-! ### What accepted writes do -/

/-- An armed schedule becomes active (R56). -/
def State.slotActivate (s : State) : State :=
  if s.time.slotAt.isNone then s
  else
    let n := s.rf .seqSlotsched 6 0
    let s := forUpto n (fun i s => s.wv .seqSlotentA (s.rv .seqSlotentS 0 i) 0 i) s
    let s : State := { s with time := { s.time with slotAt := none } }
    s.wf .seqSlotsched 22 16 n

/-- ARM (R56, R57). -/
def State.slotArm (s : State) : State :=
  let at_ := s.rv .seqSlotschedAtHi * 2 ^ 32 + s.rv .seqSlotschedAtLo
  let late := decide (1536 * at_ ≤ s.now + 64)
  let n := if late then s.boundary else at_
  let s := if late then s.wf .seqSlotsched 29 29 1 else s
  ({ s with time := { s.time with slotAt := some n } }).latch n .slotSchedule

/-- CANCEL (R59). -/
def State.slotCancel (s : State) : State :=
  { s with time := { s.time with slotAt := none }, due := s.due.filter fun d => d.2 != .slotSchedule }

/-- A write of SEQ_SLOTSCHED (R56 to R59): SHADOW_LEN is kept while a schedule is armed. -/
def State.slotschedWrite (s : State) (x : RegRef) (w : Nat) : State :=
  let v := if s.time.slotAt.isSome then setBits w 6 0 (bits (s.get x) 6 0) else w
  let s := s.putNow x v
  if bitAt w 28 then s.slotCancel else if bitAt w 31 then s.slotArm else s

/-- GO of SCD_SCINV_CMD (R289): the range is queued for the maintenance window of this stroke or the next. -/
def State.scinvGo (s : State) (k : Scd) : State :=
  let lo := (s.rv .scdScinvHi k.toNat * 2 ^ 32 + s.rf .scdScinvLo 31 7 k.toNat * 128) / 128
  let n := if s.time.cy < 1408 then s.time.stroke else s.time.stroke + 1
  { s with mem := { s.mem with inval := s.mem.inval ++ [⟨k, lo, s.rf .scdScinvLen 23 0 k.toNat, n, true⟩] } }

/-- The counters of Table 7.4. -/
def runAheadCounters : List Reg := [.scdRalspec, .scdRalsq, .scdRalcmb, .scdGteraops, .scdGtepfx, .scdGtepsq]

/-- CLR of SCD_RACLR (R229). -/
def State.raClear (s : State) (k : Scd) : State := forEach runAheadCounters (fun r s => s.wv r 0 k.toNat) s

/-- Every SCD's buckets of a meter are full (R380). -/
def State.meterFill (s : State) (m : Nat) : State :=
  { s with net := { s.net with meters := s.net.meters.filter fun e => e.1 % 8192 != m } }

/-- The output ports that a mapping register affects (R364): the port of its subscriber; for INGRP, every port that holds a
hierarchy frame of that input port. -/
def State.mapPorts (s : State) (x : RegRef) : List Nat :=
  match x.reg with
  | .qosPortcfg =>
    s.waitingPorts.filter fun p =>
      (s.hierQueues p).any fun q => (s.frames q).any fun f => f.port.toNat == p && f.inPort.toNat == x.i
  | _ => if s.af .qosSubA 31 31 0 x.i = 1 then [s.af .qosSubA 21 12 0 x.i] else []

/-- A change of mapping takes effect, and the ports it affects set BARRIER (R364). -/
def State.mappingApply (s : State) (addr : Nat) (v : Word) : State :=
  match RegRef.locate addr with
  | none => s
  | some x =>
    let before := s.mapPorts x
    let s := s.actOn addr v
    let ports := (before ++ s.mapPorts x).eraseDups
    forEach ports (fun p s =>
      ({ s with net := { s.net with barrier := s.net.barrier.insert p (SMap.get [] s.net.barrier p ++ [s.now]) } }).barrierTry p) s

/-- A write whose change of mapping waits for its boundary (R364). -/
def State.mappingWrite (s : State) (x : RegRef) (w : Nat) : State :=
  let v := x.merge (s.get x) w
  (s.putWaiting x v).latchNext (.mapping x.addr (BitVec.ofNat 32 v))

/-- A write of DIR_AGENT waits for its boundary (R293). -/
def State.agentWrite (s : State) (x : RegRef) (w : Nat) : State :=
  let v := x.merge (s.get x) w
  (s.putWaiting x v).latchNext (.agentWrite (BitVec.ofNat 5 x.unit) (BitVec.ofNat 5 x.i) (BitVec.ofNat 32 v))

/-- HEAD and TAIL of a ring at zero, when its size was written (R385, R514, R578). -/
def State.ringZero (s : State) (x : RegRef) : State :=
  match x.reg with
  | .qosSmpSize => (s.wv .qosSmpHead 0).wv .qosSmpTail 0
  | .ctlLogSize => (s.wv .ctlLogHead 0).wv .ctlLogTail 0
  | .ctlEvtSize => (s.wv .ctlEvtHead 0).wv .ctlEvtTail 0
  | _ => s

/-- An accepted write. -/
def State.regAccept (s : State) (x : RegRef) (w : Nat) : State :=
  let k : Scd := BitVec.ofNat 5 x.unit
  match x.reg with
  | .seqSlotsched => s.slotschedWrite x w
  | .seqSkipctl => s.skipWrite w
  | .scdRcxCmd => s.rcxCommand k x.i (bitAt w 31) (bitAt w 30)
  | .scdRaclr => if bitAt w 0 then s.raClear k else s
  | .scdActr => (s.putNow x w).setCtr k (BitVec.ofNat 9 x.i) (BitVec.ofNat 32 w)
  | .scdScinvCmd => if bitAt w 31 then s.scinvGo k else s
  | .dirAgent => s.agentWrite x w
  | .dirProbeHi => s.probe k w
  | .lmtCfg | .lmtIpcfg | .lmtIpvalid | .lmtIpaddr | .lmtProle | .lmtTenpol | .secBind | .fabCfg | .fabHowinLo
  | .fabHowinHi | .fabHowinLen | .fabHowinCfg | .scdCombctl | .scdSrseedLo | .scdSrseedHi => s.putLater x w
  | .laneOctcfg => s.octcfgWrite x w
  | .pheLsrctl => s.lsrctlWrite x w
  | .qosSubA | .qosSubB | .qosPortcfg => s.mappingWrite x w
  | .qosMetCir | .qosMetPir | .qosMetBurst | .qosMetCtl => (s.putNow x w).meterFill x.i
  | .qosSubShr | .qosSubShb => (s.putNow x w).setTokens x.i 0 0
  | .qosSvcShr | .qosSvcShb => (s.putNow x w).setTokens x.i (1 + x.j) 0
  | .qosMirA =>
    let s := s.putNow x w
    { s with net := { s.net with mirror := s.net.mirror.erase x.i } }
  | .qosSmpSize | .ctlLogSize | .ctlEvtSize => (s.putNow x w).ringZero x
  | .ctlEmerg => (s.putNow x w).levelRise
  | .ctlPwrreq => s.pwrreq w
  | _ => s.putNow x w

/-- R9, or a rule of the register's own, discards the write. -/
def State.discards (s : State) (x : RegRef) (w : Nat) : Bool :=
  (x.rsv &&& w) != 0 || x.reservedValue w || s.writeRefused x w

/-- A write of a register (R7 to R9, R38): discarded, or done as its rules say; bits of absent units are ignored. -/
def State.regWrite (s : State) (x : RegRef) (w : Nat) : State :=
  let w := w &&& (2 ^ 32 - 1 - s.absentBits x)
  if s.discards x w then s else s.regAccept x w

/-- A write that a row names directly: a die out of service takes none (R582). -/
def State.rowWrite (s : State) (x : RegRef) (w : Word) : State :=
  if s.dieOut x.addr then s else s.regWrite x w.toNat

/-! ### Rows -/

/-- SLOTSCHED_ARM (R56): a write of SEQ_SLOTSCHED with ARM 1. -/
def execSlotschedArm (w : Word) (s : State) : Host.Outcome State Fault Refusal :=
  .next (s.rowWrite ⟨.seqSlotsched, 0, 0, 0⟩ (w ||| 0x80000000))
/-- SLOTSCHED_CANCEL (R59): a write of SEQ_SLOTSCHED with CANCEL 1. -/
def execSlotschedCancel (w : Word) (s : State) : Host.Outcome State Fault Refusal :=
  .next (s.rowWrite ⟨.seqSlotsched, 0, 0, 0⟩ (w ||| 0x10000000))
/-- SKIPCTL_MASK_WRITE (R527). -/
def execSkipctlMaskWrite (w : Word) (s : State) : Host.Outcome State Fault Refusal :=
  .next (s.rowWrite ⟨.seqSkipctl, 0, 0, 0⟩ w)
/-- SEQ_STROKE_LO_READ (R53). -/
def execSeqStrokeLoRead (s : State) : Host.Outcome State Fault Refusal :=
  .next (s.regRead ⟨.seqStrokeLo, 0, 0, 0⟩).2
/-- DIR_AGENT_WRITE (R293). -/
def execDirAgentWrite (k : Scd) (i : BitVec 5) (w : Word) (s : State) : Host.Outcome State Fault Refusal :=
  .next (s.rowWrite ⟨.dirAgent, k.toNat, i.toNat, 0⟩ w)

/-- The register of a shaper. -/
def shaperRef : ShaperReg → RegRef
  | .subRate n => ⟨.qosSubShr, 0, n.toNat, 0⟩
  | .subBurst n => ⟨.qosSubShb, 0, n.toNat, 0⟩
  | .svcRate n v => ⟨.qosSvcShr, 0, n.toNat, v.toNat⟩
  | .svcBurst n v => ⟨.qosSvcShb, 0, n.toNat, v.toNat⟩

/-- SHAPER_WRITE (R376). -/
def execShaperWrite (x : ShaperReg) (w : Word) (s : State) : Host.Outcome State Fault Refusal :=
  .next (s.rowWrite (shaperRef x) w)

/-- A register of a meter: 0 CIR, 1 PIR, 2 BURST, 3 CTL. -/
def meterRef (m : BitVec 13) (which : BitVec 2) : RegRef :=
  ⟨match which.toNat with
    | 0 => .qosMetCir
    | 1 => .qosMetPir
    | 2 => .qosMetBurst
    | _ => .qosMetCtl, 0, m.toNat, 0⟩

/-- METER_WRITE (R380). -/
def execMeterWrite (m : BitVec 13) (which : BitVec 2) (w : Word) (s : State) : Host.Outcome State Fault Refusal :=
  .next (s.rowWrite (meterRef m which) w)
/-- MIRROR_SESSION_WRITE (R382). -/
def execMirrorSessionWrite (i : BitVec 4) (w : Word) (s : State) : Host.Outcome State Fault Refusal :=
  .next (s.rowWrite ⟨.qosMirA, 0, i.toNat, 0⟩ w)

/-- The register that a row names among a ring's three. -/
def ringRef (lo hi size : Reg) : RingReg → RegRef
  | .baseLo => ⟨lo, 0, 0, 0⟩
  | .baseHi => ⟨hi, 0, 0, 0⟩
  | .size => ⟨size, 0, 0, 0⟩

/-- SAMPLE_RING_CONFIG_WRITE (R385). -/
def execSampleRingConfigWrite (x : RingReg) (w : Word) (s : State) : Host.Outcome State Fault Refusal :=
  .next (s.rowWrite (ringRef .qosSmpBaseLo .qosSmpBaseHi .qosSmpSize x) w)
/-- LOG_RING_CONFIG_WRITE (R514). -/
def execLogRingConfigWrite (x : RingReg) (w : Word) (s : State) : Host.Outcome State Fault Refusal :=
  .next (s.rowWrite (ringRef .ctlLogBaseLo .ctlLogBaseHi .ctlLogSize x) w)
/-- EVT_RING_CONFIG_WRITE (R578). -/
def execEvtRingConfigWrite (x : RingReg) (w : Word) (s : State) : Host.Outcome State Fault Refusal :=
  .next (s.rowWrite (ringRef .ctlEvtBaseLo .ctlEvtBaseHi .ctlEvtSize x) w)

/-- The register of a mapping. -/
def subMapRef : SubMapReg → RegRef
  | .subA n => ⟨.qosSubA, 0, n.toNat, 0⟩
  | .subB n => ⟨.qosSubB, 0, n.toNat, 0⟩
  | .portcfg p => ⟨.qosPortcfg, 0, p.toNat, 0⟩

/-- SUBSCRIBER_MAP_WRITE (R364). -/
def execSubscriberMapWrite (x : SubMapReg) (w : Word) (s : State) : Host.Outcome State Fault Refusal :=
  let p := match x with
    | .portcfg p => p.toNat
    | _ => 0
  if 640 ≤ p then .refused (.reservedOperand "SUBSCRIBER_MAP_WRITE") else .next (s.rowWrite (subMapRef x) w)

/-- STACK_CACHE_INVALIDATE_GO (R289). -/
def execStackCacheInvalidateGo (k : Scd) (s : State) : Host.Outcome State Fault Refusal :=
  .next (s.rowWrite ⟨.scdScinvCmd, k.toNat, 0, 0⟩ 0x80000000)
/-- RACLR (R229). -/
def execRaclr (k : Scd) (s : State) : Host.Outcome State Fault Refusal :=
  .next (s.rowWrite ⟨.scdRaclr, k.toNat, 0, 0⟩ 1)
/-- OCTCFG_WRITE (R393). -/
def execOctcfgWrite (u : BitVec 5) (o : BitVec 2) (w : Word) (s : State) : Host.Outcome State Fault Refusal :=
  if 20 ≤ u.toNat then .refused (.reservedOperand "OCTCFG_WRITE")
  else .next (s.rowWrite ⟨.laneOctcfg, u.toNat, o.toNat, 0⟩ w)
/-- LSRCTL_EN_WRITE (R403). -/
def execLsrctlEnWrite (n : BitVec 4) (w : Word) (s : State) : Host.Outcome State Fault Refusal :=
  .next (s.rowWrite ⟨.pheLsrctl, n.toNat, 0, 0⟩ w)

/-- I3C_PRIVATE_WRITE (R559): a register address, and optionally four bytes to write. -/
def execI3cPrivateWrite (b : List Byte) (s : State) : Host.Outcome State Fault Refusal :=
  if b.length ≠ 4 ∧ b.length ≠ 8 then .refused (.reservedOperand "I3C_PRIVATE_WRITE")
  else if !s.i3cUp then .next s
  else
    let a := leAt b 0 4
    let s : State := { s with lanes := { s.lanes with i3cReg := some a } }
    if b.length = 8 ∧ i3cReaches a = true then
      match RegRef.locate a with
      | some x => .next (s.regWrite x (leAt b 4 4))
      | none => .next s
    else .next s

end Sys2Proof.Machine
end

