-- ==== Sys2Proof/Machine/Commands.lean ====
section
/-! DEFINITION. The doorbell page's fields, the command rings and the commands on registers and rings (17_firmware_rings.md, R502
to R513; 20_register_index.md, R580 to R582), and what firmware does when it takes a command (R508, R509). -/

namespace Sys2Proof.Machine

/-! ### Register commands -/

/-- REG_READ (R510, R580 to R582). -/
def State.cmdRegRead (s : State) (c : Cmd) : State :=
  s.command c 0x01 0 fun r s =>
    let a := bits c.arg0.toNat 31 0
    if a % 4 ≠ 0 ∨ (blockOf a).isNone then s.complete r .formatUnsupported
    else if s.dieOut a then s.complete r .unitLost
    else match RegRef.locate a with
      | none => s.complete r .ok
      | some x =>
        let v := s.regRead x
        v.2.complete r .ok v.1

/-- REG_WRITE (R510, R580 to R582): RESULT0 is the value read back after the write. -/
def State.cmdRegWrite (s : State) (c : Cmd) : State :=
  s.command c 0x02 0 fun r s =>
    let a := bits c.arg0.toNat 31 0
    if a % 4 ≠ 0 ∨ (blockOf a).isNone then s.complete r .formatUnsupported
    else if s.dieOut a then s.complete r .unitLost
    else match RegRef.locate a with
      | none => s.complete r .ok
      | some x =>
        let v := (s.regWrite x (bits c.arg1.toNat 31 0)).regRead x
        v.2.complete r .ok v.1

/-! ### Rings -/

/-- A new ring of n bytes at a would lie over the doorbell page, another ring, the log ring or the event ring (R511, R575). -/
def State.ringClash (s : State) (a n : Nat) : Bool :=
  overlaps (a, n) (controlBase, 4096) || overlaps (a, n) (s.logBase, 64 * 2 ^ s.rf .ctlLogSize 4 0) ||
  overlaps (a, n) (s.evtBase, 64 * 2 ^ s.rf .ctlEvtSize 4 0) ||
  s.fw.rings.any fun e => overlaps (a, n) (e.2.cring, 64 * 2 ^ e.2.n) || overlaps (a, n) (e.2.pring, 32 * 2 ^ e.2.n)

/-- RING_CREATE (R511, R509). -/
def State.cmdRingCreate (s : State) (c : Cmd) : State :=
  s.command c 0x03 0 fun r s =>
    let q := bits c.arg0.toNat 3 0
    let n := bits c.arg0.toNat 11 8
    let cr := c.arg1.toNat
    let pr := c.arg2.toNat
    let cn := 64 * 2 ^ n
    let pn := 32 * 2 ^ n
    if q = 0 ∨ n < 4 ∨ 12 < n then s.complete r .formatUnsupported
    else if (inControl cr cn && inControl pr pn) = false then s.complete r .noGrant
    else if (s.ring q).isSome ∨ cr % cn ≠ 0 ∨ pr % pn ≠ 0 ∨ s.ringClash cr cn = true ∨ s.ringClash pr pn = true ∨
        overlaps (cr, cn) (pr, pn) = true then s.complete r .formatUnsupported
    else (s.setRing q { n := n, cring := cr, pring := pr, cdb := 0, chead := 0, pdb := 0, ctail := 0 }).complete r .ok

/-- Ring q has commands that are not completed. -/
def State.ringBusy (s : State) (q : Nat) (g : Ring) : Bool :=
  g.chead != g.cdb || s.fw.running.any fun x => x.q.toNat == q

/-- RING_DELETE (R511). -/
def State.cmdRingDelete (s : State) (c : Cmd) : State :=
  s.command c 0x04 0 fun r s =>
    let q := bits c.arg0.toNat 3 0
    match s.ring q with
    | none => s.complete r .formatUnsupported
    | some g =>
      if q = 0 ∨ s.ringBusy q g = true then s.complete r .formatUnsupported
      else ({ s with fw := { s.fw with rings := s.fw.rings.erase q } }).complete r .ok

/-! ### Doorbells -/

/-- Any doorbell write ends L2 (Table 18.7). -/
def State.doorbell (s : State) : State := if s.pstate = 2 then s.powerExit else s

/-- A write of CDB[q] (R504, R506, R512). -/
def State.cdbWrite (s : State) (q v : Nat) : State :=
  let s := s.doorbell
  match s.ring q with
  | none => s.bump .ctlDberr
  | some g =>
    let ahead := wrap32 (v + 2 ^ 32 - g.chead)
    if 2 ^ g.n < ahead ∨ ahead < wrap32 (g.cdb + 2 ^ 32 - g.chead) then s.bump .ctlDberr
    else
      let s := s.setRing q { g with cdb := v }
      if s.ready then s else s.trace 1 2 0x1003 [q, v]

/-- A write of PDB[q] (R507, R512): the count is taken as written. -/
def State.pdbWrite (s : State) (q v : Nat) : State :=
  let s := s.doorbell
  match s.ring q with
  | none => s.bump .ctlDberr
  | some g => s.setRing q { g with pdb := v }

/-! ### Taking a command -/

/-- The command of a ring entry (Table 17.3). -/
def entryCmd (q : BitVec 4) (b : List Byte) : Cmd :=
  { q := q, cmdid := BitVec.ofNat 32 (leAt b 4 4), fence := bitAt (leAt b 2 1) 0, arg0 := BitVec.ofNat 64 (leAt b 8 8),
    arg1 := BitVec.ofNat 64 (leAt b 0x10 8), arg2 := BitVec.ofNat 64 (leAt b 0x18 8),
    buf := BitVec.ofNat 64 (leAt b 0x20 8), buflen := BitVec.ofNat 32 (leAt b 0x28 4) }

/-- The zero fields of a ring entry are zero (R509). -/
def entryZeros (b : List Byte) : Bool := decide (leAt b 2 1 < 2) && leAt b 3 1 == 0 && leAt b 0x2C 20 == 0

/-- A command that R509 refuses: its OPCODE is reserved or a zero field is not zero. -/
def State.cmdBad (s : State) (c : Cmd) (opcode : Nat) : State :=
  let r := Cmd.running c opcode
  (s.start r).complete r .formatUnsupported

/-- Bytes of buffer that each extent command needs (Table 17.5). -/
def extNeed (opcode : Nat) : Nat := match opcode with
  | 0x20 | 0x21 => 64
  | 0x25 => 1
  | _ => 0

/-- Run the command of an OPCODE of Table 17.5. -/
def State.runOpcode (s : State) (c : Cmd) (opcode : Nat) : State :=
  match opcode with
  | 0x01 => s.cmdRegRead c
  | 0x02 => s.cmdRegWrite c
  | 0x03 => s.cmdRingCreate c
  | 0x04 => s.cmdRingDelete c
  | 0x10 => s.cmdSegLoad c
  | 0x11 => s.cmdSegUnload c
  | 0x12 => s.cmdSegDisable c
  | 0x20 | 0x21 | 0x22 | 0x23 | 0x24 | 0x25 | 0x26 | 0x27 => s.extCommand c opcode (extNeed opcode)
  | 0x28 => s.command c 0x28 0 fun r s => s.baseReg r c
  | 0x29 => s.command c 0x29 0 fun r s => s.baseDrop r c
  | 0x30 => s.cmdTenantCreate c
  | 0x31 => s.cmdTenantRemove c
  | 0x32 => s.cmdKeyRotate c
  | 0x33 => s.cmdGrantSet c
  | 0x34 => s.cmdGrantGet c
  | 0x35 => s.cmdGrantRevoke c
  | 0x36 => s.cmdSpdm c
  | 0x40 => s.cmdMapGet c
  | 0x41 => s.cmdFabKey c
  | 0x50 => s.cmdFwStage c
  | 0x51 => s.cmdFwCommit c
  | 0x52 => s.cmdFwActivate c
  | 0x60 => s.cmdReset c
  | 0x61 => s.cmdPwrState c
  | 0x62 => s.cmdShutdown c
  | _ => s.cmdBad c opcode

/-- Completions that commands under way owe to ring q, that of a deferred activation among them (R507, R509, R520). -/
def State.owed (s : State) (q : Nat) : Nat :=
  countIf (fun (r : Running) => r.q.toNat == q) s.fw.running + countIf (fun (e : Nat × FwType) => match e.2.waiting with
    | some r => !s.fw.running.contains r && (if (s.ring r.q.toNat).isSome then r.q.toNat else 0) == q
    | none => false) s.fw.types

/-- The completion ring of q is full, counting what is owed to it (R507, assumption 40). -/
def State.pringFull (s : State) (q : Nat) (g : Ring) : Bool :=
  let used := wrap32 (g.ctail + 2 ^ 32 - g.pdb)
  decide (used ≤ 2 ^ g.n ∧ 2 ^ g.n ≤ used + s.owed q)

/-- Ring q holds a command that firmware may start now (R504, R507, R508). -/
def State.takeable (s : State) (q : Nat) : Bool :=
  match s.ring q with
  | none => false
  | some g =>
    let fence := bitAt (leAt (s.ctlRead (g.cring + 64 * (g.chead % 2 ^ g.n)) 64) 2 1) 0
    s.ready && !s.managersHeld && g.chead != g.cdb && !s.pringFull q g &&
    !(fence && s.fw.running.any fun x => x.q.toNat == q)

/-- The ring whose command starts next, in round-robin order of q (R508). -/
def State.nextTake (s : State) : Option Nat :=
  ((List.range 16).map fun i => (s.fw.nextRing + i) % 16).find? s.takeable

/-- Firmware takes the next command of ring q. -/
def State.take (s : State) (q : Nat) : State :=
  match s.ring q with
  | none => s
  | some g =>
    let b := s.ctlRead (g.cring + 64 * (g.chead % 2 ^ g.n)) 64
    let c := entryCmd (BitVec.ofNat 4 q) b
    let opcode := leAt b 0 2
    let s := s.setRing q { g with chead := wrap32 (g.chead + 1) }
    let s : State := { s with fw := { s.fw with nextRing := (q + 1) % 16 } }
    if entryZeros b then s.runOpcode c opcode else s.cmdBad c opcode

/-! ### Rows -/

def execRegRead (c : Cmd) (s : State) : Host.Outcome State Fault Refusal := .next (s.cmdRegRead c)
def execRegWrite (c : Cmd) (s : State) : Host.Outcome State Fault Refusal := .next (s.cmdRegWrite c)
def execRingCreate (c : Cmd) (s : State) : Host.Outcome State Fault Refusal := .next (s.cmdRingCreate c)
def execRingDelete (c : Cmd) (s : State) : Host.Outcome State Fault Refusal := .next (s.cmdRingDelete c)

/-- CDB_WRITE (R506). -/
def execCdbWrite (q : BitVec 4) (v : Word) (s : State) : Host.Outcome State Fault Refusal :=
  .next (s.cdbWrite q.toNat v.toNat)
/-- PDB_WRITE (R507, R512). -/
def execPdbWrite (q : BitVec 4) (v : Word) (s : State) : Host.Outcome State Fault Refusal :=
  .next (s.pdbWrite q.toNat v.toNat)

/-- COMMAND_TAKE (R508): ring q's turn in the round robin, else nothing. -/
def execCommandTake (q : BitVec 4) (s : State) : Host.Outcome State Fault Refusal :=
  .next (if s.nextTake = some q.toNat then s.take q.toNat else s)

/-- LOG_ENTRY_WRITE (R513 to R515): a trace point of a core of Table 17.1, in a group that is not reserved. -/
def execLogEntryWrite (e : TracePoint) (s : State) : Host.Outcome State Fault Refusal :=
  if 21 ≤ e.core.toNat ∨ 0x6000 ≤ e.number.toNat ∨ 5 < e.args.length then .refused (.reservedOperand "LOG_ENTRY_WRITE")
  else .next (s.trace e.core.toNat e.level.toNat e.number.toNat (e.args.map BitVec.toNat))

/-- EVENT_RECORD_WRITE (R575): the oldest latched record. -/
def execEventRecordWrite (s : State) : Host.Outcome State Fault Refusal := .next s.eventWrite

end Sys2Proof.Machine
end

