-- ==== Sys2Proof/Machine/Parse.lean ====
section
/-! DEFINITION. The parser: what becomes of a frame that a lane or a management port delivers (R321 to R331, R341, R347, R358,
R377 to R382, R399, R416 to R419, R432 to R435, R454), and the doorbell page (R502). -/

namespace Sys2Proof.Machine

/-! ### Packets -/

/-- What the parser finds in an IP frame with at most one 802.1Q tag: its tag, addresses, DSCP and ECN, and where its UDP header
begins, if it is an unfragmented UDP packet as R321 wants it. -/
structure Packet where
  v4 : Bool
  vlan : Option (BitVec 16)
  src : BitVec 128
  dst : BitVec 128
  dscp : Nat
  ecn : Nat
  udp : Option Nat
  deriving DecidableEq, Repr

/-- The 802.1Q tag of a frame. -/
def frameTag (b : List Byte) : Option (BitVec 16) :=
  if beAt b 12 2 = 0x8100 then some (BitVec.ofNat 16 (beAt b 14 2)) else none

/-- The IP packet of a frame. -/
def packetOf (b : List Byte) : Option Packet :=
  let tag := frameTag b
  let off := if tag.isSome then 18 else 14
  let et := beAt b (off - 2) 2
  if et = 0x86DD ∧ off + 40 ≤ b.length then
    let tc := beAt b off 2 / 16 % 256
    some { v4 := false, vlan := tag, src := BitVec.ofNat 128 (beAt b (off + 8) 16), dst := BitVec.ofNat 128 (beAt b (off + 24) 16),
           dscp := tc / 4, ecn := tc % 4,
           udp := if beAt b (off + 6) 1 = 17 ∧ off + 48 ≤ b.length then some (off + 40) else none }
  else if et = 0x0800 ∧ off + 20 ≤ b.length then
    let tc := beAt b (off + 1) 1
    let mapped (n : Nat) : BitVec 128 := BitVec.ofNat 128 (0xFFFF * 2 ^ 32 + n)
    let whole := beAt b off 1 % 16 = 5 ∧ beAt b (off + 6) 2 % 2 ^ 14 = 0
    some { v4 := true, vlan := tag, src := mapped (beAt b (off + 12) 4), dst := mapped (beAt b (off + 16) 4), dscp := tc / 4,
           ecn := tc % 4,
           udp := if beAt b (off + 9) 1 = 17 ∧ whole ∧ off + 28 ≤ b.length then some (off + 20) else none }
  else none

/-- The UDP checksum of a packet is good (R325): verified when it is not zero; zero only on IPv4. -/
def udpSumOk (x : Packet) (u : List Byte) : Bool :=
  if beAt u 6 2 = 0 then x.v4
  else
    let n := beAt u 4 2
    fold16 (wordSum (pseudoHeader x.v4 x.src x.dst 17 n) + wordSum (u.take n)) == 65535

/-- The management address (R322): fe80::/64 with the device serial, bit 57 inverted. -/
def State.mgmtIp (s : State) : BitVec 128 := BitVec.ofNat 128 (0xFE80 * 2 ^ 112) + (s.serial ^^^ (1#64 <<< 57)).setWidth 128

/-- An address of the device, as R321 and R322 take it on a port. -/
def State.ownIp (s : State) (p : Nat) (ip : BitVec 128) : Bool :=
  (List.range 16).any (fun i => bitAt (s.av .lmtIpvalid) i && s.ipEntry i == ip) || (decide (640 ≤ p) && ip == s.mgmtIp)

/-! ### The LMT header (Table 11.2) -/

structure Hdr where
  ver : Nat
  opc : Nat
  flags : Nat
  status : Nat
  ct : Nat
  tepoch : Nat
  mepoch : Nat
  reqid : Nat
  rkey : Nat
  opid : Nat
  fidx : Nat
  nfrm : Nat
  len : Nat
  addr : Nat
  ctr : Nat
  hint : Nat
  arg : Nat
  deriving DecidableEq, Repr

def hdrOf (b : List Byte) : Hdr :=
  { ver := beAt b 0 1, opc := beAt b 1 1, flags := beAt b 2 1, status := beAt b 3 1, ct := beAt b 4 2, tepoch := beAt b 6 2,
    mepoch := beAt b 8 2, reqid := beAt b 0xA 2, rkey := beAt b 0xC 4, opid := beAt b 0x10 4, fidx := beAt b 0x14 1,
    nfrm := beAt b 0x15 1, len := beAt b 0x16 2, addr := beAt b 0x18 8, ctr := beAt b 0x20 2, hint := beAt b 0x22 2,
    arg := beAt b 0x24 4 }

def Hdr.rsp (h : Hdr) : Bool := bitAt h.flags 7
def Hdr.enc (h : Hdr) : Bool := bitAt h.flags 6
def Hdr.cmp (h : Hdr) : Bool := bitAt h.flags 5
def Hdr.ece (h : Hdr) : Bool := bitAt h.flags 4
def Hdr.cls (h : Hdr) : Nat := bits h.ct 15 13
def Hdr.tenant (h : Hdr) : Tenant := BitVec.ofNat 10 h.ct

/-- Extension bytes of a message (Table 11.4): a response carries none. -/
def Hdr.extLen (h : Hdr) : Nat :=
  if h.rsp then 0 else match h.opc with
    | 4 | 7 | 8 => 16
    | 9 => 8
    | _ => 0

/-- Bytes of the UDP datagram that a header announces (R325). -/
def Hdr.udpLen (h : Hdr) : Nat := 8 + 40 + h.extLen + h.len + (if h.enc then 16 else 0)

/-- A coherence opcode. -/
def Hdr.coh (h : Hdr) : Bool := decide (0x10 ≤ h.opc ∧ h.opc ≤ 0x1F)

/-- A class that Tables 10.3 and 11.4 give a request. -/
def Hdr.classOk (h : Hdr) : Bool :=
  if h.coh then h.cls == (if h.opc < 0x19 then 0 else 1)
  else match h.opc with
    | 5 | 6 => h.cls == 2 || h.cls == 4
    | 8 => h.cls == 5
    | _ => h.cls == 2

/-- Opcodes whose payload is a range of data (R331). -/
def Hdr.ranged (h : Hdr) : Bool := h.opc == 2 || h.opc == 3 || h.opc == 5 || h.opc == 9

/-- A range that R331 allows. -/
def rangeOk (a n : Nat) : Bool := decide (a % 4 = 0 ∧ n % 4 = 0 ∧ 4 ≤ n ∧ n ≤ 4096)

/-- The extension of a contribution line keeps Table 11.6. -/
def redExtOk (ext : List Byte) : Bool :=
  let kind := beAt ext 4 1
  decide (kind ≤ 2) && beAt ext 6 2 == 0 &&
  (if kind = 2 then beAt ext 8 4 == 0 else beAt ext 0xC 4 == 0)

/-- What R325 checks of a request before its payload is known: Tables 11.2 to 11.4 and the rule of its opcode. -/
def Hdr.requestOk (h : Hdr) (ext : List Byte) : Bool :=
  h.status == 0 && !h.ece && h.classOk &&
  (h.ctr == 0 || h.opc == 3 || h.opc == 5 || h.opc == 9 || !bitAt h.ctr 15) &&
  (h.hint == 0 || h.opc == 2 || h.opc == 3 || h.opc == 5) &&
  (h.nfrm == 1 || h.opc == 2 || h.opc == 3 || h.opc == 5) &&
  (!h.cmp || h.ranged) &&
  (if h.coh then
     h.addr % 128 == 0 &&
     h.len == (if h.opc = 0x13 ∨ h.opc = 0x14 ∨ h.opc = 0x18 ∨ h.opc = 0x1A then 128
               else if h.opc = 0x19 ∧ h.len = 128 then 128 else 0) &&
     (if h.opc = 0x19 then decide (1 ≤ h.arg ∧ h.arg ≤ 4) else h.arg == 0)
   else match h.opc with
     | 1 | 6 => h.len == 0 && rangeOk h.addr h.arg
     | 2 | 3 | 5 => h.cmp || rangeOk h.addr h.len
     | 9 => (h.cmp || rangeOk h.addr h.len) && decide (beAt ext 2 1 < 4) && beAt ext 3 5 == 0
     | 4 =>
       let w := bits h.arg 7 0
       let op := bits h.arg 23 16
       h.len == 0 && h.arg == 65536 * op + w && (w == 4 || w == 8) && decide (1 ≤ op ∧ op ≤ 11) && (op != 11 || w == 4) &&
       h.addr % w == 0
     | 7 => h.len == 0 && beAt ext 6 2 == 0
     | 8 => decide (h.addr < 8192) && h.arg == 0 && redExtOk ext
     | _ => false)

/-- The most data that a response of an opcode carries (Table 11.4, R329, R331). -/
def Hdr.respMax (h : Hdr) : Nat :=
  match h.opc with
  | 1 | 6 | 0x21 => 4096
  | 4 | 7 => 8
  | 0x20 => 32
  | _ => 0

/-- What R325 checks of a response: no CTR, no HINT, NFRM and LEN of its opcode (R331, Table 11.4); it carries a code of Table 0.4, class 3 (R329), and an opcode that is answered (R341). -/
def Hdr.responseOk (h : Hdr) : Bool :=
  (Status.ofCode h.status).isSome && h.cls == 3 && !h.cmp && h.ctr == 0 && h.hint == 0 &&
  (h.nfrm == 1 || h.opc == 2 || h.opc == 3 || h.opc == 5 || h.opc == 0x22) && decide (h.len ≤ h.respMax) &&
  (decide (1 ≤ h.opc ∧ h.opc ≤ 9) || decide (0x20 ≤ h.opc ∧ h.opc ≤ 0x23))

/-- The checks of R325 that need no payload. -/
def Hdr.ok (h : Hdr) (ext : List Byte) : Bool :=
  h.ver == 1 && h.flags % 16 == 0 && bits h.ct 12 10 == 0 && decide (1 ≤ h.nfrm ∧ h.nfrm ≤ 16) && decide (h.fidx < h.nfrm) &&
  decide (h.len ≤ 4096) && decide (h.addr < 2 ^ 57) && !bitAt h.ctr 14 && bits h.hint 14 5 == 0 &&
  (if h.rsp then h.responseOk else h.requestOk ext)

/-! ### Compressed payloads (R432 to R434) -/

/-- One block of a frame's range: its address, its bytes or delta bytes, and the base it is a delta of. -/
structure Block where
  addr : Nat
  data : List Byte
  base : Option (BitVec 16 × Word)
  deriving DecidableEq, Repr

/-- Delta bytes of an XMAP body: the map's set places take the bytes that follow it, in order. -/
def xmapBytes (map : Nat) : Nat → Nat → List Byte → List Byte
  | 0, _, _ => []
  | n + 1, j, bs =>
    if map.testBit j then bs.headD 0 :: xmapBytes map n (j + 1) (bs.drop 1) else 0 :: xmapBytes map n (j + 1) bs

/-- One record at the head of a payload: the block it encodes and the bytes it takes. -/
def blockOf1 (a : Nat) (b : List Byte) : Option (Block × Nat) :=
  let n := beAt b 1 1 + 1
  let base := (BitVec.ofNat 16 (beAt b 2 2), BitVec.ofNat 32 (beAt b 4 4))
  if b.length < 8 then none
  else match beAt b 0 1 with
    | 0 => if b.length < 8 + n then none else some (⟨a, sub b 8 n, none⟩, 8 + n)
    | 1 =>
      let map := leAt b 8 32
      let ones := countIf (fun i => map.testBit i) (List.range 256)
      if n ≠ 256 ∨ b.length < 40 + ones then none else some (⟨a, xmapBytes map 256 0 (b.drop 40), some base⟩, 40 + ones)
    | 2 => if n ≠ 256 then none else some (⟨a, List.replicate 256 0, some base⟩, 8)
    | _ => none

/-- The records of a payload, from an address on. -/
def blocksOf : Nat → Nat → List Byte → Option (List Block)
  | 0, _, _ => none
  | fuel + 1, a, b =>
    if b.isEmpty then some []
    else match blockOf1 a b with
      | none => none
      | some (x, n) => (blocksOf fuel (a + x.data.length) (b.drop n)).map fun xs => x :: xs

/-- The blocks keep the 256 B division of a range that ends at `e`. -/
def divided (e : Nat) (xs : List Block) : Bool :=
  xs.all fun x => x.data.length == min (256 - x.addr % 256) (e - x.addr)

/-- The blocks of a compressed payload; none when R434 discards the frame. -/
def recordsOf (a : Nat) (b : List Byte) : Option (List Block) :=
  match blocksOf 4096 a b with
  | none => none
  | some xs =>
    let n := (xs.map fun x => x.data.length).sum
    if rangeOk a n && divided (a + n) xs then some xs else none

/-! ### Line pieces (R331) -/

/-- The kind of request an opcode names; none for what only a home or a device sends. -/
def Hdr.kind (h : Hdr) (ext : List Byte) : Option ReqKind :=
  match h.opc with
  | 1 => some .load | 2 => some .store | 3 => some .pstore | 5 => some .put | 6 => some .get | 7 => some .publish
  | 4 => ([AtomicOp.fadd, .fand, .for_, .fxor, .fmins, .fmaxs, .fminu, .fmaxu, .swap, .cas, .faddf].find?
      fun o => o.code == bits h.arg 23 16).map ReqKind.atomic
  | 8 => ([RedKind.dense, .sparse, .done].find? fun k => k.code == beAt ext 4 1).map ReqKind.red
  | 9 => some .retr
  | 0x10 => some .rdS | 0x11 => some .rdX | 0x12 => some .upg | 0x13 => some .wb | 0x14 => some .wbKeep
  | 0x1A => some .pushData | 0x1B => some .ack | 0x1C => some .ackWbpend | 0x1D => some .stashAck | 0x1E => some .stashNak
  | _ => none

/-- The 128 B pieces of [a, a + n), each with the bytes of `bs` that fall on it. -/
def framePieces (base : Option (BitVec 16 × Word)) : Nat → Nat → Nat → List Byte → List (Nat × Nat × List Byte × Option (BitVec 16 × Word))
  | 0, _, _, _ => []
  | fuel + 1, a, n, bs =>
    if n = 0 then []
    else
      let m := min n (128 - a % 128)
      (a, m, bs.take m, base) :: framePieces base fuel (a + m) (n - m) (bs.drop m)

/-- The pieces of a request: address, bytes, payload, base. -/
def Hdr.pieces (h : Hdr) (payload : List Byte) (blocks : List Block) :
    List (Nat × Nat × List Byte × Option (BitVec 16 × Word)) :=
  match h.opc with
  | 1 | 6 => framePieces none 64 h.addr h.arg []
  | 2 | 3 | 5 | 9 => blocks.flatMap fun x => framePieces x.base 64 x.addr x.data.length x.data
  | 4 => [(h.addr, bits h.arg 7 0, [], none)]
  | 7 => [(h.addr, 16, [], none)]
  | 8 => [(h.addr, payload.length, payload, none)]
  | _ => [(h.addr, 128, payload, none)]

/-- Where the answer to a packet goes (R323). -/
def Packet.ret (x : Packet) (sport : Nat) : RetPath :=
  { ip := x.src, udp := BitVec.ofNat 16 sport, dstIp := x.dst, v4 := x.v4, vlan := x.vlan }

/-- The line requests of a frame, in ascending address order. -/
def State.requestsOf (s : State) (p : Nat) (h : Hdr) (ext payload : List Byte) (blocks : List Block) (ret : RetPath)
    (ce : Bool) : List Req :=
  match h.kind ext with
  | none => []
  | some kind =>
    let ps := h.pieces payload blocks
    let one (e : Nat × (Nat × Nat × List Byte × Option (BitVec 16 × Word))) : Req :=
      ⟨kind, { cls := BitVec.ofNat 3 h.cls, tenant := h.tenant, tepoch := BitVec.ofNat 16 h.tepoch,
               mepoch := BitVec.ofNat 16 h.mepoch, reqid := BitVec.ofNat 16 h.reqid, rkey := BitVec.ofNat 32 h.rkey,
               opid := BitVec.ofNat 32 h.opid, fidx := BitVec.ofNat 8 h.fidx, nfrm := BitVec.ofNat 8 h.nfrm,
               arg := BitVec.ofNat 32 h.arg, addr := BitVec.ofNat 57 e.2.1, len := BitVec.ofNat 8 e.2.2.1, data := e.2.2.2.1,
               cmp := h.cmp, base := e.2.2.2.2, ext := ext, ctr := BitVec.ofNat 16 h.ctr, hint := BitVec.ofNat 16 h.hint,
               port := BitVec.ofNat 10 p, first := e.1 == 0, last := e.1 + 1 == ps.length, spread := false, ce := ce,
               enc := h.enc, internal := false, ret := ret }⟩
    let xs := ((List.range ps.length).zip ps).map one
    let home : Scd := BitVec.ofNat 5 (bits h.ctr 13 9)
    let spread := xs.any fun x => s.pieceHome x != home
    xs.map fun x => { x with r := { x.r with spread := spread } }

/-! ### The doorbell page (R502) -/

/-- Bytes 0x000 to 0x1FF of the page (Table 17.2). -/
def State.pageBytes (s : State) : List Byte :=
  let status := s.rf .ctlBringup 30 30 + 2 * s.rf .ctlBringup 31 31
  let fields (q : Nat) : List Byte := match s.ring q with
    | none => leBytes 16 0
    | some g => leBytes 4 g.cdb ++ leBytes 4 g.chead ++ leBytes 4 g.pdb ++ leBytes 4 g.ctail
  padTo 0x100 (leBytes 4 s.ctlId ++ leBytes 4 s.ctlStep ++ leBytes 4 (s.rv .secBootstat) ++ leBytes 4 status ++
    leBytes 2 (s.tenant 0).epoch.toNat ++ leBytes 2 s.mapEpoch.toNat) ++ (List.range 16).flatMap fields

/-- CTL-A serves an access to the page: the only ones it accepts are aligned loads of 4 or 8 B and 4 B stores to CDB and PDB. -/
def State.pageServe (s : State) (x : Req) : State :=
  let off := x.r.addr.toNat - controlBase
  let n := x.r.len.toNat
  let done (s : State) (st : Status) (data : List Byte) : State := s.sendResponse 0 x.kind.opc x.r st data
  let whole := x.r.first && x.r.last
  match x.kind with
  | .load =>
    if whole && (n == 4 || n == 8) && off % n == 0 && decide (off + n ≤ 0x200) then done s .ok (sub s.pageBytes off n)
    else done s .noGrant []
  | .store | .pstore =>
    if whole && x.r.nfrm == 1 && n == 4 && decide (0x100 ≤ off ∧ off < 0x200) && off % 8 == 0 then
      let q := (off - 0x100) / 16
      let v := leNat x.r.data
      done (if off % 16 = 0 then s.cdbWrite q v else s.pdbWrite q v) .ok []
    else done s .noGrant []
  | _ => s.answer 0 x none .noGrant

/-! ### Hand-over -/

/-- A line request reaches the request queue of its home; the sender answers for an SCD that is lost (R570). -/
def State.deliver (s : State) (k : Scd) (x : Req) (yellow : Bool) : State :=
  if s.scdOut k then s.answer ((s.owner x.r.port.toNat).getD k) x none .unitLost else s.enqueueReq k x yellow

/-- A parsed line request goes to its home SCD: at once on the SCD that parsed it, else over the crossbar (R28, Table 2.7). On
the management ports, CTL-A serves the doorbell page and answers for the control region before CRAVAIL (R502, R503). -/
def State.route (s : State) (p : Nat) (x : Req) (yellow : Bool) : State :=
  let a := x.r.addr.toNat
  let control := !x.kind.isRed && decide (controlBase ≤ a ∧ a < nearTop)
  if 640 ≤ p ∧ control = true ∧ a < controlBase + 4096 then s.pageServe x
  else if 640 ≤ p ∧ control = true ∧ s.rf .ctlBringup 30 30 = 0 then s.answer 0 x none .notReady
  else
    let k := s.pieceHome x
    if p < 640 && s.owner p == some k then s.deliver k x yellow else s.after (s.now + 24) (.enqueue k x yellow)

/-- A tray's answer goes to the home SCD of the request it answers, over the crossbar when another SCD parsed it. -/
def State.trayArrive (s : State) (p : Nat) (r : TrayResp) : State :=
  let home : Option Scd := match s.fwdOf r.tenant r.opid with
    | some w => (match w.kind with
      | .request op => (s.findOp op).map fun o => o.k
      | _ => none)
    | none => none
  match home with
  | some k => if s.owner p == some k then s.trayResponse r else s.after (s.now + 24) (.tray r)
  | none => s.trayResponse r

/-! ### Decryption (R416, R419, R454) -/

/-- The payload of a frame in the clear: under the wire key, or while a KEY_ROTATE's old key retires, under that one. -/
def State.openPayload (s : State) (p : Nat) (h : Hdr) (aad sealed : List Byte) : Option (List Byte) :=
  let n := lmtNonce h.rsp (s.role p == 1) h.opc h.reqid h.opid h.fidx h.addr
  match gcmOpen (s.slot (wireSlot h.tenant)).key n aad sealed with
  | some b => some b
  | none =>
    let old := s.slot (spareSlot h.tenant)
    if old.st = .retiring then gcmOpen old.key n aad sealed else none

/-! ### Class, meter, mirror -/

/-- The class of a switched frame (R358). -/
def State.switchedClass (s : State) (b : List Byte) : Nat :=
  match packetOf b with
  | some x => let i := x.dscp
    bits (s.rf .qosDscpmap 23 0 0 (i / 8)) (3 * (i % 8) + 2) (3 * (i % 8))
  | none =>
    match frameTag b with
    | some t => let j := t.toNat / 2 ^ 13
      bits (s.rf .qosPcpmap 23 0) (3 * j + 2) (3 * j)
    | none => s.rf .qosPcpmap 26 24

/-- Metering and ingress sampling of a frame of L bytes (R377 to R379, R382): none when the meter drops it, else its
colour. -/
def State.police (s : State) (p cls : Nat) (b : List Byte) : Option Nat × State :=
  if 640 ≤ p then (some 3, s)
  else match s.owner p with
    | none => (none, s)
    | some k =>
      let l := b.length + 4
      let sel := s.rv .qosMetsel 0 p cls
      let m := bits sel 12 0
      let dei := match frameTag b with
        | some t => t.getLsbD 12
        | none => false
      let c := if bitAt sel 31 then s.meterColour k m l dei else (3, s)
      let s := c.2
      let drop := c.1 == 2 && s.rf .qosMetCtl 1 1 0 m == 0
      let mark := c.1 == 1 || (c.1 == 2 && !drop)
      let s := if drop then s.bump .qosDropmet else if mark then s.bump .qosMarkmet else s
      let s := s.mirror 0 p cls k c.1 drop p 0xFFFF l b
      (if drop then none else some c.1, s)

/-! ### Frames by kind -/

/-- An LMT frame for the device. -/
def State.parseLmt (s : State) (p : Nat) (x : Packet) (b : List Byte) (u : Nat) : State :=
  let d := b.drop u
  let n := beAt d 4 2
  let h := hdrOf (d.drop 8)
  let ext := sub d 48 h.extLen
  let aad := sub d 8 (40 + h.extLen)
  let carried := sub d (48 + h.extLen) (n - (48 + h.extLen))
  let framed := decide (48 ≤ n ∧ n ≤ d.length) && n == h.udpLen && udpSumOk x d
  if !(framed && h.ok ext) then s.bump .lmtBadhdr
  else if h.enc && !s.loaded (wireSlot h.tenant) then s.bump .lmtRetdrop
  else match (if h.enc then s.openPayload p h aad carried else some carried) with
    | none => s.bump .lmtTagdrop
    | some payload =>
      let blocks := if h.cmp then recordsOf h.addr payload else some [⟨h.addr, payload, none⟩]
      let sparse := !h.rsp && h.opc == 8 && beAt ext 4 1 == 1
      let redLen := if h.rsp || h.opc != 8 then true
        else if sparse then sparseLen (beAt ext 5 1) payload
        else payload.length == (if beAt ext 4 1 = 0 then 128 else 0)
      match blocks with
      | none => s.bump .lmtBadhdr
      | some blocks =>
        if !redLen then s.bump .lmtBadhdr
        else
          let s := if h.cmp then s.bump .lmtCmprx else s
          match s.police p h.cls b with
          | (none, s) => s
          | (some colour, s) =>
            let mark := colour == 1 || colour == 2
            if h.rsp then
              s.trayArrive p { tenant := h.tenant, opid := BitVec.ofNat 32 h.opid, addr := BitVec.ofNat 57 h.addr, status := BitVec.ofNat 8 h.status,
                               data := payload, ece := h.ece }
            else
              let xs := s.requestsOf p h ext payload blocks (x.ret (beAt d 0 2)) (x.ecn == 3 || mark)
              forEach xs (fun r s => s.route p r mark) s

/-- A fabric-protocol frame for the device (Table 16.2). -/
def State.parseFabric (s : State) (b : List Byte) (u : Nat) : State :=
  let d := b.drop u
  let n := beAt d 4 2
  let h := sub d 8 32
  let len := beAt h 0xE 2
  let nonce := BitVec.ofNat 96 (beNat (sub h 4 8 ++ sub h 0x18 4))
  let clear : Option (List Byte) := match s.fab.key with
    | some k => if decide (n ≤ d.length) && n == 8 + 32 + len + 16 && beAt h 0 1 == 1 && decide (len ≤ 4096) then
        gcmOpen k nonce h (sub d 40 (len + 16)) else none
    | none => none
  let m : FabMsg := { fidx := BitVec.ofNat 8 (beAt h 2 1), nfrm := BitVec.ofNat 8 (beAt h 3 1), serial := BitVec.ofNat 64 (beAt h 4 8),
                      epoch := BitVec.ofNat 16 (beAt h 0xC 2), capo := BitVec.ofNat 64 (beAt h 0x10 8),
                      seq := BitVec.ofNat 32 (beAt h 0x18 4), chunk := BitVec.ofNat 32 (beAt h 0x1C 4),
                      payload := clear.getD [], tagOk := clear.isSome }
  s.fabMessage (beAt h 1 1) m

/-- The flow of a plain frame: class, addresses and UDP ports of an IP packet (R474), the Ethernet header of any other frame. -/
def plainFlow (cls : Nat) (b : List Byte) : List Byte :=
  match packetOf b with
  | some x => flowBytes cls x.src x.dst (match x.udp with
    | some u => beBytes 4 (beAt b u 4)
    | none => [])
  | none => [0] ++ beBytes 1 cls ++ b.take (if (frameTag b).isSome then 18 else 14)

/-- A plain frame is switched to the port that the forwarding tables give (R360, R474). -/
def State.switchFrame (s : State) (p cls : Nat) (b : List Byte) (colour : Nat) : State :=
  match s.forwardTo (plainFlow cls b) with
  | none => s
  | some out =>
    if 640 ≤ out.toNat then s
    else
      let mark := colour == 1 || colour == 2
      let f : Frame := { port := out, cls := cls, size := b.length + 12, body := .plain b, dest := 0, src := 0, udp := 0, v4 := false,
                         vlan := frameTag b, tenant := none, fwd := none, key := some (0x400 + s.af .qosPortcfg 9 0 0 p),
                         inPort := BitVec.ofNat 10 p, ce := false, yellow := mark, enq := 0, colour := colour }
      let ce := match packetOf b with
        | some x => x.ecn == 3 || (mark && f.ect)
        | none => false
      let f := { f with ce := ce }
      if s.owner p == s.owner out.toNat then s.enqueueFrame f else s.after (s.now + 24) (.frame f)

/-- CTL-A answers ARP or a Neighbor Solicitation for one of its addresses on a management port (R322, R399). -/
def State.solicited (s : State) (p : Nat) (ip : BitVec 128) (who : RetPath) : State :=
  if !s.portUp p || !s.ownIp p ip then s
  else
    s.enqueueFrame { port := BitVec.ofNat 10 p, cls := 6, size := if who.v4 then 72 else if who.vlan.isSome then 102 else 98, body := .neighbor ip, dest := who.ip,
                     src := ip, udp := 0, v4 := who.v4, vlan := who.vlan, tenant := none, fwd := none, key := none,
                     inPort := 0x3FF, ce := false, yellow := false, enq := 0 }

/-- The address that an ARP request or a Neighbor Solicitation asks for, and who asks. PRESUMED (log entry 84): the layouts are
those of RFC 826 and RFC 4861. -/
def solicitation (b : List Byte) : Option (BitVec 128 × RetPath) :=
  let tag := frameTag b
  let off := if tag.isSome then 18 else 14
  let et := beAt b (off - 2) 2
  let mapped (n : Nat) : BitVec 128 := BitVec.ofNat 128 (0xFFFF * 2 ^ 32 + n)
  let back (v4 : Bool) (ip : BitVec 128) : RetPath := { ip := ip, udp := 0, dstIp := 0, v4 := v4, vlan := tag }
  if et = 0x0806 ∧ off + 28 ≤ b.length ∧ beAt b off 8 = 0x0001080006040001 then
    some (mapped (beAt b (off + 24) 4), back true (mapped (beAt b (off + 14) 4)))
  else if et = 0x86DD ∧ off + 64 ≤ b.length ∧ beAt b (off + 6) 1 = 58 ∧ beAt b (off + 40) 1 = 135 then
    some (BitVec.ofNat 128 (beAt b (off + 48) 16), back false (BitVec.ofNat 128 (beAt b (off + 8) 16)))
  else none

/-- Where the PTP message of a frame begins: Ethernet, or UDP ports 319 and 320. PRESUMED (log entry 84): IEEE 1588-2019. -/
def ptpAt (b : List Byte) : Option Nat :=
  let off := if (frameTag b).isSome then 18 else 14
  if beAt b (off - 2) 2 = 0x88F7 then some off
  else (packetOf b).bind fun x => x.udp.bind fun u =>
    if beAt b (u + 2) 2 = 319 ∨ beAt b (u + 2) 2 = 320 then some (u + 8) else none

/-- A frame on M0 or M1 that is no LMT frame: ARP, Neighbor Solicitation and PTP are accepted, every other discarded (R399).
The time of day of a PTP Sync or Follow_Up is its originTimestamp; the phase that CTL-A measures with it is no part of the
frame, and PTP_MESSAGE carries it (log entry 84). -/
def State.mgmtFrame (s : State) (p : Nat) (b : List Byte) : State :=
  match solicitation b with
  | some (ip, who) => s.solicited p ip who
  | none =>
    match ptpAt b with
    | some u =>
      let kind := beAt b u 1 % 16
      if (kind = 0 ∨ kind = 8) ∧ u + 44 ≤ b.length ∧ s.ptpOnM1 = (p == portM1) then
        { s with time := { s.time with ptp := BitVec.ofNat 64 (beAt b (u + 34) 6 * 1000000000 + beAt b (u + 40) 4) } }
      else s
    | none => s

/-- A frame has been parsed. -/
def State.parse (s : State) (p : Nat) (f : RxFrame) : State :=
  let b := f.bytes
  let mine (x : Packet) (port : Nat) : Option Nat := match x.udp with
    | some u => if s.ownIp p x.dst && beAt b (u + 2) 2 == port then some u else none
    | none => none
  let lmt := (packetOf b).bind fun x => (mine x (s.av .lmtCfg)).map fun u => (x, u)
  match lmt with
  | some (x, u) => s.parseLmt p x b u
  | none =>
    if 640 ≤ p then s.mgmtFrame p b
    else if s.ready = false then s
    else
      let cls := s.switchedClass b
      match s.police p cls b with
      | (none, s) => s
      | (some colour, s) =>
        match (packetOf b).bind (fun x => mine x (s.af .fabCfg 15 0)) with
        | some u => s.parseFabric b u
        | none => s.switchFrame p cls b colour

/-! ### Rows -/

/-- A frame reaches the parser of the SCD that owns its port, or CTL-A (R321, R347): discarded on a port that is down or whose
SCD is lost, counted when its FCS is bad or a codeword could not be corrected (R389), else parsed within 40 cy. -/
def State.receive (s : State) (p : Nat) (f : RxFrame) : State :=
  if !s.portUp p || (decide (p < 640) && (s.owner p).isNone) then s
  else
    let u := portUnit p
    let i := portIndex p
    let s := if p < 640 then (s.bump .lanePfeccor f.fecCor u i).bump .lanePfecunc f.fecUnc u i else s
    if !f.fcsOk || f.fecUnc != 0 then (if p < 640 then s.bump .lanePrxfcs 1 u i else s)
    else (if p < 640 then s.bump .lanePrxfrm 1 u i else s).after (s.now + 40) (.parse (BitVec.ofNat 10 p) f)

/-- FRAME_RECEIVE (R321). -/
def execFrameReceive (p : Port) (f : RxFrame) (s : State) : Host.Outcome State Fault Refusal :=
  if 642 ≤ p.toNat then .refused (.reservedOperand "FRAME_RECEIVE") else .next (s.receive p.toNat f)

/-- NEIGHBOR_SOLICITATION (R322, R399): CTL-A answers for its addresses on M0 and M1. -/
def execNeighborSolicitation (p : Port) (ip : BitVec 128) (who : RetPath) (s : State) : Host.Outcome State Fault Refusal :=
  if p.toNat ≠ portM0 ∧ p.toNat ≠ portM1 then .refused (.reservedOperand "NEIGHBOR_SOLICITATION")
  else .next (s.solicited p.toNat ip who)

end Sys2Proof.Machine
end

