-- ==== Sys2Proof/Machine/Drain.lean ====
section
/-! DEFINITION. Key-slot drain counters (R468): which slot each operation and frame counts toward, and the sample that every
maintenance window takes. -/

namespace Sys2Proof.Machine

/-- The slot that an access of an address counts toward, as a list; empty for an access that uses no tenant key (R468). -/
def State.accessSlot (s : State) (k : Scd) (t : Tenant) (a : Nat) : List Nat :=
  match s.region a with
  | .userNear => [s.granuleSlot t a]
  | .mapped =>
    match s.extentAt k a with
    | some (_, e) => if e.form = 4 then [s.granuleSlot t e.target] else [memSlot t]
    | none => []
  | _ => []

/-- Slots of a request-lane operation and of the followers combined with it, each from its own admission on. -/
def State.opSlots (s : State) (o : LaneOp) : List Nat :=
  let own := if o.path = .refusal then []
    else s.accessSlot o.k o.req.r.tenant (if o.eff = 0 then o.req.r.addr.toNat else o.eff)
  own ++ o.followers.flatMap fun f => s.accessSlot o.k f.1.r.tenant f.1.r.addr.toNat

/-- Slots of a buffered write whose operation has already been answered. -/
def State.bufSlots (s : State) (w : WBuf) : List Nat :=
  if s.lane.ops.any (fun (o : LaneOp) => o.id == w.id) then []
  else (w.writes.head?.map fun e => s.accessSlot w.k w.tenant e.1).getD []

/-- Slots of an engine operation: each slot of the ranges it reads and writes, once. -/
def State.engSlots (s : State) (o : EngOp) : List Nat :=
  ((o.reads ++ o.writes).flatMap fun x =>
    if x.2 = 0 then [] else s.accessSlot o.k o.tenant x.1 ++ s.accessSlot o.k o.tenant (x.1 + x.2 - 1)).eraseDups

/-- Slots of a transaction: that of the line's granule. -/
def State.txnSlots (s : State) (t : Txn) : List Nat := s.accessSlot t.k t.cause.1 (128 * t.line)

/-- Slots of a request whose entry lookup has not ended; the operation of a load that waits counts by itself. -/
def State.lookupSlots (s : State) (e : Nat × Timed) : List Nat :=
  match e.2 with
  | .lookup k x => (match x.kind with
    | .load _ => []
    | _ => s.accessSlot k x.req.r.tenant (128 * x.line))
  | _ => []

/-- A frame that arrived under a wire key and is not decrypted yet. -/
def rxSlots (e : Nat × Timed) : List Nat :=
  match e.2 with
  | .parse _ f =>
    match (packetOf f.bytes).bind fun p => p.udp with
    | none => []
    | some u =>
      let h := hdrOf (f.bytes.drop (u + 8))
      if Hdr.enc h then [wireSlot (Hdr.tenant h)] else []
  | _ => []

/-- A frame encrypted under a wire key whose egress has not ended (its last byte leaves 96 cy and its transfer time after
egress start). -/
def State.txSlots (s : State) (x : Sent) : List Nat :=
  match x.frame.body with
  | .lmt m =>
    if m.enc && !x.lost && decide (s.now < x.at_ + 96 + ceilDiv (12 * x.frame.size) (s.portRate x.frame.port.toNat)) then
      [wireSlot m.tenant]
    else []
  | _ => []

/-- The slot of every operation and frame that uses a key, one entry each. -/
def State.keysInUse (s : State) : List Nat :=
  s.lane.ops.flatMap s.opSlots ++ s.mem.wbuf.flatMap s.bufSlots ++ s.eng.ops.flatMap s.engSlots ++
    s.coh.txns.flatMap s.txnSlots ++ (s.tier.jobs.map fun (j : TierJob) => memSlot (s.granuleTenant (s.extent j.x).aux)) ++
    s.timed.flatMap rxSlots ++ s.timed.flatMap s.lookupSlots ++ s.net.wire.flatMap s.txSlots

/-- The sample of a slot: its count, and for a RETIRING slot how many samples in a row have read zero since the stroke from
which they count. -/
def KeySlot.sampled (k : KeySlot) (stroke n : Nat) : KeySlot :=
  { k with sample := n, zeros := if k.st = .retiring ∧ k.fromStroke ≤ stroke ∧ n = 0 then k.zeros + 1 else 0 }

/-- The maintenance window samples every slot that is not EMPTY. -/
def State.drainSample (s : State) : State :=
  let used := s.keysInUse
  let f (i : Nat) (k : KeySlot) : KeySlot := KeySlot.sampled k s.time.stroke (countIf (fun j => j == i) used)
  { s with sec := { s.sec with slots := s.sec.slots.remap KeySlot.fresh f } }

end Sys2Proof.Machine
end

