-- ==== Sys2Proof/Machine/Clock.lean ====
section
/-! DEFINITION. The stroke (02_stroke.md): what the device does of its own accord on each cy, and the rows that name its
windows. One step of an empty command queue is one cy; a row that names a window or a chord lets the clock run until then
(assumption 1). -/

namespace Sys2Proof.Machine

/-! ### Events of a fixed cy -/

/-- A result lands in its destination (R76, R80). -/
def State.landApply (s : State) (x : Landing) : State :=
  match x with
  | .vec k r mask val => s.setV k r ((s.vreg k r &&& ~~~mask) ||| (val &&& mask))
  | .sca k r val => s.setS k r val
  | .prd k r val => s.setP k r val
  | .idx k r val => s.setX k r val
  | .flu k r mode mask val => s.setV k r (fluLand mode (s.vreg k r) mask val)
  | .query k array q dim fmt es => s.landQuery k array q dim fmt es
  | .score k array acc es fmt bad issue dim qs => s.landScore k array acc es fmt bad issue dim qs
  | .tileClr k array acc => s.landTileClr k array acc
  | .merge k st cands keep dir fmt => s.landMerge k st cands keep dir fmt
  | .rankClr k st => s.landRankClr k st
  | .store ws => (s.bankWrite ws).patchReads ws

/-- A lane write reaches its bank (R276, R587): its counter advances on the cy that Table 9.2 gives, and a line to be stashed
is offered (R317). -/
def State.bankReach (s : State) (id : Nat) : State :=
  match s.mem.wbuf.find? (fun (w : WBuf) => w.id == id) with
  | none => s
  | some w =>
    let s := s.bankCommit id true
    let s := match w.counter with
      | some (t, j, c, n) => s.ctrAddAt (max t s.now) j c n
      | none => s
    match w.writes.head? with
    | none => s
    | some (a, _) => s.stashWrite w.k a w.stash (w.tenant, w.epoch)

/-- A line of an engine operation has been read; an access of a not-fixed delay is then closed (R141). -/
def State.captureLine (s : State) (id line : Nat) : State :=
  let open_ : Bool := match s.eng_ id with
    | some o => o.due.isNone
    | none => false
  let s := s.engCapture id line
  if open_ then s.engDone id else s

/-- An event whose cy has come. -/
def State.timedApply (s : State) (e : Timed) : State :=
  match e with
  | .land x => s.landApply x
  | .bank id => s.bankReach id
  | .count k c n => s.ctrAdd k c n
  | .respond k op => s.respond k op
  | .enqueue k req y => s.deliver k req y
  | .engine _ op => s.engComplete op
  | .bitmap _ op => s.engBitmap op
  | .snoop k txn a => s.snoopHand k txn a
  | .homeEnd k txn => s.homeEvent k txn
  | .meet a n => s.correct a n
  | .lookup k x => s.lookupEnds k x
  | .restart k req g c => s.laneRestart k req g c
  | .drop k f late => s.dropHand k f late
  | .forward k op => s.forward k op
  | .frame f => s.enqueueFrame f
  | .tile _ op => s.engTile op
  | .sector _ op ws => s.engSector op ws
  | .pages _ op => s.engPages op
  | .takeEngine _ op => s.engTake op
  | .engLine k op g => s.engLines k op g
  | .pageRead x p => s.pageRead x p
  | .pageFill x p a n data => s.pageFill x p a n data
  | .flushDone x => s.flushEnd x
  | .maskBit a k taken => s.maskBit a k taken
  | .capture _ op line => s.captureLine op line
  | .unheard worker => s.unheard worker
  | .ppsLow => { s with lanes := { s.lanes with ppsOut := false } }
  | .parse p f => s.parse p.toNat f
  | .tray r => s.trayResponse r
  | .ftlGo id => s.ftlGo id

/-- Events of one cy that the model runs before the next cy; more than any cy of the hardware has. -/
def eventFuel : Nat := 1048576

/-- Run the events whose cy has come, in order, with those that they add for the same cy. -/
def runTimed : Nat → State → State
  | 0, s => s
  | n + 1, s =>
    match s.timed with
    | [] => s
    | (t, e) :: rest => if t ≤ s.now then runTimed n (({ s with timed := rest } : State).timedApply e) else s

/-! ### Changes latched for a stroke -/

/-- A latched change takes effect. -/
def State.dueApply (s : State) (d : Due) : State :=
  match d with
  | .act a v => s.actOn a v
  | .slotSchedule => s.slotActivate
  | .ctxOpen k i => s.ctxOpen k i.toNat
  | .ctxReopen k i => s.ctxReopen k i.toNat
  | .agentWrite k i v => s.agentApply k i v
  | .extApply x e => s.extApply x e
  | .extState x st => s.extState x st
  | .baseApply b v => s.baseApply b v
  | .octet u o v => s.octetApply u o v
  | .mapping a v => s.mappingApply a v
  | .tenantCreate t h => s.tenantApply (.tenantCreate t h)
  | .tenantRemove t => s.tenantApply (.tenantRemove t)
  | .tenantReset t => s.tenantApply (.tenantReset t)
  | .keyRotate t => s.keyRotate t
  | .grantSet g e => s.grantApply g e
  | .grantRevoke g => s.grantRevoke g
  | .capo => s.capoApply
  | .segReady no => s.segReady no
  | .segReplace g => s.segReplace g
  | .segRemove no => s.segRemove no
  | .segDisable no => s.segDisable no
  | .resetWarm => s.resetApply .resetWarm
  | .resetScd k => s.resetApply (.resetScd k)
  | .substitute k => s.substitute k
  | .remap k => s.remap k
  | .handback k => s.handbackStart k
  | .scdReturn k => s.scdReturn k
  | .power level => s.powerApply level
  | .shutdown => s.shutdownApply

/-- A reset of the device, an SCD or its power, which begins once every other change of its stroke has taken effect. -/
def Due.last : Due → Bool
  | .resetWarm | .resetScd _ | .power _ | .shutdown => true
  | _ => false

/-- Whether the change at the front of what a stroke applies can be taken: a change that a reset before it discarded cannot. -/
def State.dueTake (s : State) (d : Nat × Due) : State :=
  if s.due.contains d then ({ s with due := dropFirst (fun e => e == d) s.due } : State).dueApply d.2 else s

/-- Every change latched for this stroke or an earlier one takes effect, in the order of acceptance, resets last (R46, R537). -/
def State.duesApply (s : State) : State :=
  let now := s.due.filter fun d => decide (d.1 ≤ s.time.stroke)
  let s := forEach (now.filter fun d => !d.2.last) (fun d s => s.dueTake d) s
  forEach (now.filter fun d => d.2.last) (fun d s => s.dueTake d) s

/-! ### cy 0 -/

/-- Alert causes that persist are set again (R558). -/
def State.alertsAgain (s : State) : State :=
  let s := if s.rf .secBootstat 31 30 = 1 then s.alert 2 else s
  let s := if s.lanes.lsrFltN ≠ 0xFFFF then s.alert 1 else s
  if s.rf .ctlEmerg 31 30 ≠ 0 then s.alert 4 else s

/-- The generators of stochastic rounding (R198). -/
def State.reseedAll (s : State) : State :=
  let seedOf (k : Scd) : Dword := BitVec.ofNat 64 (s.av .scdSrseedHi k.toNat * 2 ^ 32 + s.av .scdSrseedLo k.toNat)
  let gen := s.scds.foldl (fun m k => m.insert k.toNat (reseed (seedOf k) s.time.stroke (s.tile k))) s.scd.gen
  { s with scd := { s.scd with gen := gen } }

/-- Whether a stroke is one of the resynchronization strokes of a SEQ failover (R30). -/
def State.resyncing (s : State) : Bool :=
  match s.time.resyncUntil with
  | some m => decide (s.time.stroke ≤ m)
  | none => false

/-- The stroke runs, or it is skipped under the mask, which SEQ_SKIPCNT counts, or for resynchronization (R60, R61, Table 2.6). -/
def State.skipDecide (s : State) : State :=
  let r := s.resyncing
  let s := if s.time.nextSkipped && !r then s.bump .seqSkipcnt else s
  { s with time := { s.time with skipped := s.time.nextSkipped || r, resyncUntil := if r then s.time.resyncUntil else none } }

/-- Strokes that a zero-fill or scrub pass takes (R465 gives the latest one). -/
def passStrokes : Nat := 16384

/-- Zero-fill and scrub passes that are complete (R465). -/
def State.passesEnd (s : State) : State :=
  forEach s.sec.grants (fun e s =>
    if s.time.stroke < e.2.revokeAt + passStrokes then s
    else match e.2.st with
      | .zeroing => s.zeroFilled e.1
      | .scrubbing => s.grantScrubbed e.1
      | _ => s) s

/-- Grant entries, key slots and tenants go on as far as they can (Tables 15.5, 15.7, 15.10; R465, R468, R493). -/
def State.securityStep (s : State) : State :=
  let s := s.revokeTimeouts
  let s := forEach (s.sec.grants.filter fun e => e.2.st == .revoking) (fun e s => s.grantSettle e.1) s
  let s := s.passesEnd
  let s := forEach (s.sec.slots.filter fun e => e.2.st == .retiring && decide (4 ≤ e.2.zeros)) (fun e s => s.slotDrained e.1) s
  let s := forEach (s.sec.slots.filter fun e => e.2.st == .scrubbing) (fun e s => s.slotScrubbed e.1) s
  forEach (s.sec.tenants.filter fun e => e.2.st == .retiring) (fun e s => s.tenantTryFree (BitVec.ofNat 10 e.1)) s

/-- The grace period has ended (R481). -/
def State.graceStep (s : State) : State :=
  match s.fab.graceUntil with
  | some g => if g ≤ s.time.stroke then { s with fab := { s.fab with graceUntil := none } } else s
  | none => s

/-- Timeouts of contexts, tray forwards, coherence domains, held Cold writes. -/
def State.timeouts (s : State) : State := s.ctxTimeouts.fwdTimeouts.domainTimeouts.coldTimeouts

/-- Extent-table and grant-table entries that hold an uncorrectable word are rewritten within 4 strokes of being found: on every
stroke n with n mod 4 = 0 (Table 19.1; DESIGN CHOICE, assumption 97). -/
def State.tableRepair (s : State) : State :=
  if s.time.stroke % 4 = 0 then
    { s with sec := { s.sec with badGrant := [] }, tier := { s.tier with bad := [] } }
  else s

/-- Firmware's work by the stroke: loads, disabled segments, event records, samples, fabric protocol, activations. -/
def State.firmwareStep (s : State) : State :=
  let s := s.loadsDue.segCleanups.eventsDue
  let s := forUpto s.net.samples.length (fun _ s => s.sampleWrite) s
  s.tableRepair.heartbeats.silences.graceStep.fwStep

/-- Work in flight has ended in a power transition (R544, R551). -/
def State.powerStep (s : State) : State :=
  match s.pwr.target with
  | some (_, n) => if n ≤ s.time.stroke then s.drained else s
  | none => s

/-- cy 0 of a stroke. -/
def State.strokeBegin (s : State) : State :=
  let s : State := { s with fw := { s.fw with evOnce := [] }, scd := { s.scd with reported := 0 } }
  let s := s.skipDecide.alertsAgain.duesApply
  let s := s.timeouts.securityStep.firmwareStep.flashIdent
  s.sensorsRead.sparesCarry.powerStep.reseedAll.chooseSegment

/-! ### cy 1408: the maintenance window (R41, R134, R289) -/

/-- Queued stack-cache invalidations whose window has come are applied (R289). -/
def State.invalApply (s : State) : State :=
  let now := s.mem.inval.filter fun e => decide (e.stroke ≤ s.time.stroke)
  let hit (l : Nat) : Bool := now.any fun e => s.home (128 * l) == e.k && decide (e.first ≤ l ∧ l < e.first + e.lines)
  { s with mem := { s.mem with scache := s.mem.scache.keep (fun l _ => !hit l) } }

/-- The maintenance window ends: invalidations that it applied are pending no longer (R289). -/
def State.invalEnd (s : State) : State :=
  { s with mem := { s.mem with inval := s.mem.inval.filter fun e => !decide (e.stroke ≤ s.time.stroke) } }

/-- Registers show the sample of this window: error counters and arrival counters (Table 2.1). -/
def State.sampleRegs (s : State) : State :=
  let s : State := { s with regs := s.live.foldl (fun m e => SMap.set 0 m e.1 e.2) s.regs }
  let s := forEach (s.instances .scdActr) (fun x s =>
    s.put x (s.ctr (BitVec.ofNat 5 x.unit) (BitVec.ofNat 9 x.i)).toNat) s
  forEach s.scd.ctr (fun e s => s.wv .scdActr e.2.toNat (e.1 / 512) (e.1 % 512)) s

/-- cy 1408: combining tables are cleared, invalidations applied, drain counters sampled, losses recorded (R41, R134, R567). -/
def State.maintenance (s : State) : State := s.clearEntries.invalApply.drainSample.lossesRecord

/-! ### cy 1472: the turnaround (R60, R79, R343) -/

/-- What does not outlive a stroke in the SCDs: registers, tiles, rank states (R79) and query buffers (R170). -/
def State.filesClear (s : State) : State :=
  { s with scd := { s.scd with v := [], s := [], p := [], x := [], tiles := [], ranks := [], queries := [], tainted := 0 } }

/-- cy 1472: the maintenance window's SRAM rewrites are done, register files are cleared, flows are updated, and the mask decides on the next stroke. -/
def State.turnaround (s : State) : State :=
  let s := s.sramRewrite.invalEnd.filesClear.flowsUpdate
  { s with time := { s.time with nextSkipped := bitAt (s.rf .seqSkipctl 7 0) ((s.time.stroke + 1) % 8) } }

/-! ### Refresh windows and the drone (R237, R240 to R243) -/

/-- The bank whose refresh window begins on the current cy (R237). -/
def State.refreshBank (s : State) : Option Nat :=
  if s.time.cy % 48 = 0 then some (2 * (s.time.cy / 48) + s.time.stroke % 2) else none

/-- The drone of a MID reads its 2 KiB of every bank-g window it owns, sixteen rows of it: it corrects and writes back single-bit
errors (R240), and counts and records each uncorrectable word (R241). -/
def State.dronePatrol (s : State) (m g : Nat) : State :=
  let step := s.rf .midDronepos 12 0 m
  let mine (a : Nat) : Bool :=
    decide (a < nearTop) && stackOf a / 3 == m && !s.stackOut (stackOf a) && bankOf a == g && rowOf a / 16 == step
  let fixed := s.mem.soft.filter fun e => mine (4 * e.1)
  let s := { s with mem := { s.mem with soft := s.mem.soft.filter fun e => !mine (4 * e.1) } }
  let s := if fixed.isEmpty then s else s.bump .midDronece fixed.length m
  forEach (s.mem.uncorr.filter fun e => mine (4 * e.1)) (fun e s =>
    (s.bump .midDroneue 1 m).event 0x0011 1 kindMid m [4 * e.1]) s

/-- After the window of the last bank the drone moves on; a pass over every step is complete (R240, R243). -/
def State.droneStep (s : State) (m : Nat) : State :=
  let step := s.rf .midDronepos 12 0 m
  let (v, s) := s.drawFree
  let s := (s.wf .midDronepos 12 0 ((step + 1) % 8192) m).wf .midDronepos 31 30 (v.toNat % 3) m
  if step = 8191 then s.bump .midDronepass 1 m else s

/-- The refresh window of a bank begins: the drones that are enabled patrol it. -/
def State.refreshBegin (s : State) : State :=
  match s.refreshBank with
  | none => s
  | some g =>
    forUpto 8 (fun m s =>
      if s.pwr.lostMid.getLsbD m || s.rf .midDronectl 0 0 m == 0 then s
      else
        let s := s.dronePatrol m g
        if g = 63 then s.droneStep m else s) s

/-! ### One cy -/

/-- The core clock stands still, or no domain with a sequencer is powered: before bring-up, in L3 (reached by L3_ENTER or
SHUTDOWN), after a trip, with FRST_N or PWR_GOOD low. -/
def State.asleep (s : State) : Bool :=
  s.phase == 0 || s.phase == 0x30 || s.phase == 0x42 || s.phase == 0xF0 || !s.lanes.frstN || !s.lanes.pwrGood

/-- Chords issue while the control region is available, from the alignment step on (R531: no request is served before it). -/
def State.chordsOn (s : State) : Bool := s.rf .ctlBringup 30 30 == 1 && s.time.aligned

/-- What a window's first cy brings. Registers are sampled once the advances of cy 1408 have been applied (R283). -/
def State.windowWork (s : State) : State :=
  if s.time.cy = 1408 then s.maintenance
  else if s.time.cy = 1409 then s.sampleRegs
  else if s.time.cy = 1472 then s.turnaround
  else s

/-- Token gains on absolute cys that are multiples of 15 (R372, R378). -/
def State.gains (s : State) : State :=
  if s.now % 15 = 0 then (s.shaperGain 1).meterGain 1 else s

/-- The chord of the current cy (R42). -/
def State.issueNow (s : State) : State :=
  if s.time.cy < 1408 ∧ s.chordsOn = true then s.chordIssue s.time.cy else s

/-- Everything the device does on the current cy, in order: the stroke's beginning, results and events that fall on it, window
functions, tokens, refresh, the chord, and egress (R66: what reaches a queue on a cy can leave on it). -/
def State.cyWork (s : State) : State :=
  let s := if s.time.cy = 0 then s.strokeBegin else s
  let s := runTimed eventFuel s
  let s := s.windowWork.gains.refreshBegin.issueNow
  let s := runTimed eventFuel s
  s.handbackStep.paceAll.egressAll

/-- The clock counts one cy (R41). -/
def TimeSt.tick (t : TimeSt) : TimeSt :=
  if t.cy + 1 < 1536 then { t with cy := t.cy + 1 } else { t with cy := 0, stroke := t.stroke + 1 }

/-- One cy passes. -/
def State.advance (s : State) : State :=
  if s.asleep then s else ({ s with time := s.time.tick } : State).cyWork

/-- n cys pass. -/
def State.run : Nat → State → State
  | 0, s => s
  | n + 1, s => s.advance.run n

/-- Cys until cy c of a stroke is reached again: 1 to 1,536. -/
def State.until (s : State) (c : Nat) : Nat := if s.time.cy < c then c - s.time.cy else 1536 + c - s.time.cy

/-! ### Rows -/

/-- STROKE_BEGIN (R46): the clock runs to the next cy 0. -/
def execStrokeBegin (s : State) : Host.Outcome State Fault Refusal := .next (State.run (s.until 0) s)

/-- CHORD_ISSUE (R42): the clock runs to the next cy c, on which chord c issues. -/
def execChordIssue (c : BitVec 11) (s : State) : Host.Outcome State Fault Refusal :=
  if c.toNat < 1408 then .next (State.run (s.until c.toNat) s) else .refused (.reservedOperand "CHORD_ISSUE")

/-- MAINTENANCE_WINDOW (R41): the clock runs to the next cy 1408. -/
def execMaintenanceWindow (s : State) : Host.Outcome State Fault Refusal := .next (State.run (s.until 1408) s)

/-- TURNAROUND (R60): the clock runs to the next cy 1472. -/
def execTurnaround (s : State) : Host.Outcome State Fault Refusal := .next (State.run (s.until 1472) s)

/-- Cys until the next absolute cy that is a multiple of 15. -/
def State.untilGain (s : State) : Nat := 15 - s.now % 15

/-- SHAPER_TOKEN_GAIN (R372): the clock runs to the next gain. -/
def execShaperTokenGain (s : State) : Host.Outcome State Fault Refusal := .next (State.run s.untilGain s)

/-- METER_TOKEN_GAIN (R378): the clock runs to the next gain. -/
def execMeterTokenGain (s : State) : Host.Outcome State Fault Refusal := .next (State.run s.untilGain s)

/-- Cys until the refresh window of a bank begins again: 1 to 3,072 (R237). -/
def State.untilRefresh (s : State) (g : Nat) : Nat :=
  (1536 * (g % 2) + 48 * (g / 2) + 3071 - s.now % 3072) % 3072 + 1

/-- REFRESH_WINDOW (R237): the clock runs to the beginning of the bank's window, and the stack named is the one its drone has
patrolled last. -/
def execRefreshWindow (stack : BitVec 5) (_pchan bank : BitVec 6) (s : State) : Host.Outcome State Fault Refusal :=
  if stack.toNat < 24 then
    let s := State.run (s.untilRefresh bank.toNat) s
    let m := stack.toNat / 3
    .next (if s.asleep || s.pwr.lostMid.getLsbD m || s.rf .midDronectl 0 0 m == 0 then s
      else s.wf .midDronepos 31 30 (stack.toNat % 3) m)
  else .refused (.reservedOperand "REFRESH_WINDOW")

end Sys2Proof.Machine
end

