-- ==== Sys2Proof/Machine/Moments.lean ====
section
/-! DEFINITION. Rows that name what the device does of its own accord at a moment that the spec fixes: cy 0 of the stroke for
which a change is latched (R46, R47), the end of a path of Table 2.7, the end of a timeout or of a count of strokes (R48). A row
hastens nothing: before its moment it lets the clock run until then, and the device does it on that cy; what is due by now and
still stands is done now; where nothing of the kind is pending it changes nothing (assumption 3). -/

namespace Sys2Proof.Machine

/-! ### Moments -/

/-- Do something whose moment is absolute cy t. -/
def State.atMoment (s : State) (t : Nat) (f : State → State) : State :=
  if t ≤ s.now then f s else State.run (t - s.now) s

/-- The first latched change that satisfies a test takes effect, on cy 0 of the stroke for which it is latched (R46). -/
def State.atDue (s : State) (p : Due → Bool) : State :=
  match s.due.find? fun e => p e.2 with
  | some d => s.atMoment (1536 * d.1) fun s => s.dueTake d
  | none => s

/-- The first timed event that satisfies a test takes place, on its cy. -/
def State.atTimed (s : State) (p : Timed → Bool) : State :=
  match s.timed.find? fun e => p e.2 with
  | some e => s.atMoment e.1 fun s => (s.cancel p).timedApply e.2
  | none => s

/-- Do something whose moment is cy 0 of a stroke. -/
def State.atStroke (s : State) (n : Option Nat) (f : State → State) : State :=
  match n with
  | some n => s.atMoment (1536 * n) f
  | none => s

/-- The clock runs while a test holds, at most n cys. -/
def State.runWhile (p : State → Bool) : Nat → State → State
  | 0, s => s
  | n + 1, s => if p s then State.runWhile p n s.advance else s

/-! ### Strokes, segments, tiles -/

/-- SLOT_SCHEDULE_ACTIVATE (R56, R57). -/
def execSlotScheduleActivate (s : State) : Host.Outcome State Fault Refusal := .next (s.atDue fun d => d == .slotSchedule)

/-- SEGMENT_READY (R100). -/
def execSegmentReady (seg : SegNo) (s : State) : Host.Outcome State Fault Refusal := .next (s.atDue fun d => d == .segReady seg)

/-- A latched replacement of a segment. -/
def replaceDue (seg : SegNo) : Due → Bool
  | .segReplace g => g.no == seg
  | _ => false

/-- SEGMENT_REPLACE (R101). -/
def execSegmentReplace (seg : SegNo) (s : State) : Host.Outcome State Fault Refusal := .next (s.atDue (replaceDue seg))

/-- SEGMENT_REMOVE (R102). -/
def execSegmentRemove (seg : SegNo) (s : State) : Host.Outcome State Fault Refusal := .next (s.atDue fun d => d == .segRemove seg)

/-- SEGMENT_DISABLE_APPLY (R547). -/
def execSegmentDisableApply (seg : SegNo) (s : State) : Host.Outcome State Fault Refusal :=
  .next (s.atDue fun d => d == .segDisable seg)

/-- A latched change of the tiles after an SCD loss. -/
def remapDue : Due → Bool
  | .remap _ => true
  | _ => false

/-- SCD_LOSS_REMAP (R571): the latched remap takes effect. -/
def execScdLossRemap (s : State) : Host.Outcome State Fault Refusal := .next (s.atDue remapDue)

/-- TILE_REMAP (R104, R571): the 31-tile layout is installed with the remap of a lost SCD. -/
def execTileRemap (s : State) : Host.Outcome State Fault Refusal :=
  .next (match s.due.find? fun e => remapDue e.2 with
    | some d => s.atMoment (1536 * d.1) fun s => s.installTiles true
    | none => s)

/-- SEQ_RESYNC_COMPLETE (R30): the survivor drives all SCDs, once the resynchronization strokes have passed. -/
def execSeqResyncComplete (s : State) : Host.Outcome State Fault Refusal :=
  .next (s.atStroke (s.time.resyncUntil.map (· + 1)) fun s => { s with time := { s.time with resyncUntil := none } })

/-! ### Contexts -/

/-- CONTEXT_OPEN (R124): an armed context opens. -/
def execContextOpen (k : Scd) (i : BitVec 8) (s : State) : Host.Outcome State Fault Refusal :=
  .next (s.atDue fun d => d == .ctxOpen k i)

/-- CONTEXT_REOPEN (R124): a completed AUTO context opens its next generation. -/
def execContextReopen (k : Scd) (i : BitVec 8) (s : State) : Host.Outcome State Fault Refusal :=
  .next (s.atDue fun d => d == .ctxReopen k i)

/-- CONTEXT_TIMEOUT (R124): an OPEN context that no line has completed by its timeout fails with TIMEOUT. -/
def execContextTimeout (k : Scd) (i : BitVec 8) (s : State) : Host.Outcome State Fault Refusal :=
  .next (s.atStroke ((s.ctx k i.toNat).opened.map fun a => a + s.rcxTimeout k i.toNat) fun s => s.ctxTimeout k i.toNat)

/-! ### The request lanes and the directory -/

/-- REQUEST_RESPONSE_BUILD (R332): a response is built at the end of its path. -/
def execRequestResponseBuild (k : Scd) (op : Nat) (s : State) : Host.Outcome State Fault Refusal :=
  .next (s.atTimed fun e => e == .respond k op)

/-- SNOOP_RELEASE (R306): a snoop that the sustain window holds is handed to the crossbar. -/
def execSnoopRelease (k : Scd) (txn : Nat) (agent : BitVec 5) (s : State) : Host.Outcome State Fault Refusal :=
  .next (s.atTimed fun e => e == .snoop k txn agent)

/-- HOME_READ_COMPLETE (R305): the home read or push of a transaction ends. -/
def execHomeReadComplete (k : Scd) (txn : Nat) (s : State) : Host.Outcome State Fault Refusal :=
  .next (s.atTimed fun e => e == .homeEnd k txn)

/-- The stroke at whose cy 0 a snoop of a transaction times out (R318, R348). -/
def State.snoopExpires (s : State) (k : Scd) (txn : Nat) (agent : BitVec 5) : Option Nat :=
  (s.coh.txns.find? fun t => t.id == txn && t.k == k).bind fun t =>
    (t.snoops.find? fun y => y.agent == agent && y.open_ s.now).map fun y => y.hand / 1536 + s.rf .lmtTmo 15 0

/-- DOMAIN_TIMEOUT (R318). -/
def execDomainTimeout (k : Scd) (txn : Nat) (agent : BitVec 5) (s : State) : Host.Outcome State Fault Refusal :=
  .next (s.atStroke (s.snoopExpires k txn agent) fun s => s.domainTimeout k txn agent)

/-- TRAY_FORWARD_TIMEOUT (R349): a forward ends without its answer. -/
def execTrayForwardTimeout (fwd : Nat) (s : State) : Host.Outcome State Fault Refusal :=
  .next (match s.lane.fwd.find? fun (w : Fwd) => w.id == fwd with
    | some w => s.atMoment (1536 * (w.stroke + s.rf .lmtTmo 15 0)) fun s => s.fwdTimeout w
    | none => s)

/-- GOVERNED_FRAME_RELEASE (R345): the oldest paced frame of a flow joins its queue, on its flow's NEXT. -/
def execGovernedFrameRelease (flow : BitVec 13) (s : State) : Host.Outcome State Fault Refusal :=
  .next (if s.net.pacing.any fun x => x.1 == flow.toNat then
      s.atMoment (if s.paceReady flow.toNat then 0 else (s.flow flow.toNat).next) fun s => s.paceRelease flow.toNat
    else s)

/-! ### Engines -/

/-- GTE_BITMAP_READ (R223): the bitmap of a run-ahead gather is read. -/
def execGteBitmapRead (k : Scd) (op : Nat) (s : State) : Host.Outcome State Fault Refusal :=
  .next (s.atTimed fun e => e == .bitmap k op)

/-- ENGINE_OP_COMPLETE (R140, R143). -/
def execEngineOpComplete (k : Scd) (op : Nat) (s : State) : Host.Outcome State Fault Refusal :=
  .next (s.atTimed fun e => e == .engine k op)

/-- ENGINE_CARRIED_START (R589): a delayed operation takes its engine. -/
def execEngineCarriedStart (k : Scd) (op : Nat) (s : State) : Host.Outcome State Fault Refusal :=
  .next (s.atTimed fun e => e == .takeEngine k op)

/-- An operation of SCD k is held by others (R273). -/
def State.engHeld (s : State) (k : Scd) (id : Nat) : Bool :=
  s.eng.ops.any fun (o : EngOp) => o.id == id && o.k == k && !o.begun && !o.holders.isEmpty

/-- Cys for which a row waits for operations of a delay that is not fixed: 65,536 strokes, more than any timeout of R348. -/
def holdFuel : Nat := 1536 * 65536

/-- ENGINE_HOLD_RELEASE (R273): the clock runs until the last holder of an operation has completed. -/
def execEngineHoldRelease (k : Scd) (op : Nat) (s : State) : Host.Outcome State Fault Refusal :=
  .next (State.runWhile (fun s => s.engHeld k op) holdFuel s)

/-! ### Memory tiers -/

/-- A latched descriptor of an extent. -/
def descriptorDue (x : Nat) : Due → Bool
  | .extApply i _ => i == x
  | _ => false

/-- EXTENT_DESCRIPTOR_APPLY (R250): an accepted descriptor takes effect. -/
def execExtentDescriptorApply (x : BitVec 14) (s : State) : Host.Outcome State Fault Refusal := .next (s.atDue (descriptorDue x.toNat))

/-- FAR_CACHED_FILL_COMPLETE (R252): a fill that has every page makes its extent VALID. -/
def execFarCachedFillComplete (x : BitVec 14) (s : State) : Host.Outcome State Fault Refusal :=
  .next (s.atDue fun d => d == .extState x.toNat 2)

/-- FLUSH_COMPLETE (R256). -/
def execFlushComplete (x : BitVec 14) (s : State) : Host.Outcome State Fault Refusal := .next (s.atTimed fun e => e == .flushDone x.toNat)

/-- EVICT_COMPLETE (R252): an eviction that found nothing dirty makes its extent UNBACKED. -/
def execEvictComplete (x : BitVec 14) (s : State) : Host.Outcome State Fault Refusal :=
  .next (s.atDue fun d => d == .extState x.toNat 0)

/-- COLD_WRITE_HOLD_TIMEOUT (R269): a held Cold write completes with TIMEOUT. -/
def execColdWriteHoldTimeout (op : Nat) (s : State) : Host.Outcome State Fault Refusal :=
  .next (match s.ftlOp op with
    | some f => if f.heldFor.isSome then s.atMoment (1536 * (f.stroke + s.rf .lmtTmo 15 0)) fun s => s.ftlEnd f .timeout else s
    | none => s)

/-- A latched registration or drop of a base. -/
def baseDue (b : Nat) : Due → Bool
  | .baseApply i _ => i == b
  | _ => false

/-- BASE_APPLY (R420): a registration or drop takes effect. -/
def execBaseApply (b : BitVec 12) (s : State) : Host.Outcome State Fault Refusal := .next (s.atDue (baseDue b.toNat))

/-! ### Security -/

/-- TENANT_EPOCH_ADVANCE (R447, R448): the next latched change of the tenant takes effect. -/
def execTenantEpochAdvance (t : Tenant) (s : State) : Host.Outcome State Fault Refusal := .next (s.atDue (epochDue t))

/-- KEY_SLOT_DRAINED (R468): a RETIRING slot whose last four samples read zero is drained at the next cy 0. -/
def execKeySlotDrained (k : BitVec 12) (s : State) : Host.Outcome State Fault Refusal :=
  .next (if (s.slot k.toNat).zeros < 4 then s
    else if s.time.cy = 0 then s.slotDrained k.toNat
    else State.run (1536 - s.time.cy) s)

/-- A latched GRANT_SET of an entry. -/
def grantDue (g : Nat) : Due → Bool
  | .grantSet i _ => i == g
  | _ => false

/-- GRANT_ACTIVATE (Table 15.10): an accepted GRANT_SET takes effect. -/
def execGrantActivate (g : BitVec 16) (s : State) : Host.Outcome State Fault Refusal := .next (s.atDue (grantDue g.toNat))

/-- REVOKE_TIMEOUT (R493): DOMAIN + 2 strokes after the revoke took effect. -/
def execRevokeTimeout (g : BitVec 16) (s : State) : Host.Outcome State Fault Refusal :=
  .next (if (s.grant g.toNat).st = .revoking then
      s.atMoment (1536 * ((s.grant g.toNat).revokeAt + s.rf .lmtTmo 15 0 + 2)) fun s => s.revokeExpire g.toNat
    else s)

/-! ### The fabric protocol -/

/-- Strokes between two HEARTBEATs of this device (R476). -/
def State.heartbeatStrokes (s : State) : Nat := if s.council.contains s.serial then 8 else 64

/-- HEARTBEAT_SEND (R476): the clock runs to the next stroke on which the device sends HEARTBEAT. -/
def execHeartbeatSend (s : State) : Host.Outcome State Fault Refusal :=
  .next (if s.fab.map.isNone then s
    else State.run (1536 * (s.heartbeatStrokes - s.time.stroke % s.heartbeatStrokes) - s.time.cy) s)

/-- The stroke at whose cy 0 a device or a port has been silent for LIVE strokes (R483, assumption 98). -/
def State.silentAt (s : State) (x : Silent) : Option Nat :=
  let live := s.af .fabCfg 31 24
  match x with
  | .device serial => (s.fab.heard.find serial.toNat).map fun n => n + live + (if s.council.contains serial then 0 else 64)
  | .port p => (s.lanes.downAt.find p.toNat).map fun n => n + live

/-- LIVENESS_EXPIRY (R483). -/
def execLivenessExpiry (who : Silent) (s : State) : Host.Outcome State Fault Refusal :=
  .next (s.atStroke (s.silentAt who) fun s => (s.silent who).managerCheck)

/-- CAPO_APPLY (R480, R482). -/
def execCapoApply (s : State) : Host.Outcome State Fault Refusal := .next (s.atDue fun d => d == .capo)

/-- GRACE_END (R485). -/
def execGraceEnd (s : State) : Host.Outcome State Fault Refusal := .next (s.atStroke s.fab.graceUntil fun s => s.graceStep)

/-! ### Firmware, ports, power -/

/-- FW_ACTIVATION_RETRY (R516, R520): 64 strokes with no emergency in effect have passed. -/
def execFwActivationRetry (y : BitVec 3) (s : State) : Host.Outcome State Fault Refusal :=
  .next (s.atStroke (s.fwType y.toNat).retryAt fun s => s.fwRetry y.toNat)

/-- A latched write of an octet's mode. -/
def octetDue (u o : Nat) : Due → Bool
  | .octet v p _ => v == u && p == o
  | _ => false

/-- OCTET_MODE_APPLY (R393). -/
def execOctetModeApply (u : BitVec 5) (o : BitVec 2) (s : State) : Host.Outcome State Fault Refusal :=
  .next (s.atDue (octetDue u.toNat o.toNat))

/-- SPARE_SWAP_COMPLETE (R396): the link partner relocks now, and the port comes up at cy 0 of stroke n + 4, or of the first
stroke after the partner relocked. -/
def execSpareSwapComplete (u : BitVec 5) (g : BitVec 2) (s : State) : Host.Outcome State Fault Refusal :=
  .next (match s.lanes.retrain.find? fun x => x.unit == u.toNat && x.spare == g.toNat with
    | some x =>
      let n := x.relock.getD s.time.stroke
      (s.relocked x).atMoment (1536 * max x.from_ (n + 1)) fun s => s.spareSwapped { x with relock := some n }
    | none => s)

/-- UNIT_LOSS_RECORD (R567, R570): losses are recorded on cy 1408. -/
def execUnitLossRecord (s : State) : Host.Outcome State Fault Refusal :=
  .next (if s.pwr.detected.isEmpty then s else if s.time.cy = 1408 then s.lossesRecord else State.run (s.until 1408) s)

/-- SCD_HANDBACK_START (R540). -/
def execScdHandbackStart (k : Scd) (s : State) : Host.Outcome State Fault Refusal := .next (s.atDue fun d => d == .handback k)

/-- SCD_RETURN_TO_SERVICE (R539, R540): at cy 0 of the stroke that the reset gives. -/
def execScdReturnToService (k : Scd) (s : State) : Host.Outcome State Fault Refusal :=
  .next (match s.pwr.resetScd with
    | some (j, _, r) => if j = k then s.atMoment (1536 * r) fun s => s.scdReturn k else s
    | none => s)

/-- EMERGENCY_LEVEL_FALL (R528). -/
def execEmergencyLevelFall (s : State) : Host.Outcome State Fault Refusal := .next (s.atStroke s.fallsAt fun s => s.levelFall)

/-- A latched RESET. -/
def resetDue : Due → Bool
  | .resetWarm | .resetScd _ | .tenantReset _ => true
  | _ => false

/-- RESET_BEGIN (R537): the first latched reset begins. -/
def execResetBegin (s : State) : Host.Outcome State Fault Refusal := .next (s.atDue resetDue)

/-- No operation is in flight: lanes, directory, engines, jobs and commands of firmware. -/
def State.workDone (s : State) : Bool :=
  s.lane.ops.isEmpty && s.lane.held.isEmpty && s.lane.fwd.isEmpty && s.coh.txns.isEmpty && s.eng.ops.isEmpty &&
  s.tier.jobs.isEmpty && s.tier.ftl.isEmpty && s.mem.wbuf.isEmpty && s.lane.queues.isEmpty &&
  !s.timed.any (fun e => match e.2 with
    | .lookup _ _ | .restart _ _ _ _ => true
    | _ => false)

/-- LOW_POWER_DRAIN_COMPLETE (R544, R551): work in flight has ended, by stroke b + DOMAIN + 2 at the latest. -/
def execLowPowerDrainComplete (s : State) : Host.Outcome State Fault Refusal :=
  .next (match s.pwr.target with
    | some (_, n) => if s.workDone then s.drained else s.atMoment (1536 * n) fun s => s.drained
    | none => s)

end Sys2Proof.Machine
end

