-- ==== Sys2Proof/Machine/Dispatch.lean ====
section
/-! DEFINITION. The dispatcher: one arm per constructor of `Instr`, each one direct call of the command's meaning. -/

namespace Sys2Proof.Machine

/-- The effect of a command on everything but the queue of waiting commands. -/
def exec (i : Instr) (s : State) : Host.Outcome State Fault Refusal :=
  match i with
  | .strokeBegin => Sys2Proof.Machine.execStrokeBegin s
  | .chordIssue c => Sys2Proof.Machine.execChordIssue c s
  | .maintenanceWindow => Sys2Proof.Machine.execMaintenanceWindow s
  | .turnaround => Sys2Proof.Machine.execTurnaround s
  | .slotScheduleActivate => Sys2Proof.Machine.execSlotScheduleActivate s
  | .slotschedArm w => Sys2Proof.Machine.execSlotschedArm w s
  | .slotschedCancel w => Sys2Proof.Machine.execSlotschedCancel w s
  | .skipctlMaskWrite w => Sys2Proof.Machine.execSkipctlMaskWrite w s
  | .seqStrokeLoRead => Sys2Proof.Machine.execSeqStrokeLoRead s
  | .ptpMessage m1 time offset => Sys2Proof.Machine.execPtpMessage m1 time offset s
  | .seqResyncComplete => Sys2Proof.Machine.execSeqResyncComplete s
  | .queueSlot k mask => Sys2Proof.Machine.execQueueSlot k mask s
  | .requestResponseBuild k op => Sys2Proof.Machine.execRequestResponseBuild k op s
  | .add k f => Sys2Proof.Machine.execAdd k f s
  | .sub k f => Sys2Proof.Machine.execSub k f s
  | .addi k f => Sys2Proof.Machine.execAddi k f s
  | .mul k f => Sys2Proof.Machine.execMul k f s
  | .and k f => Sys2Proof.Machine.execAnd k f s
  | .or k f => Sys2Proof.Machine.execOr k f s
  | .xor k f => Sys2Proof.Machine.execXor k f s
  | .shl k f => Sys2Proof.Machine.execShl k f s
  | .shr k f => Sys2Proof.Machine.execShr k f s
  | .sar k f => Sys2Proof.Machine.execSar k f s
  | .min k f => Sys2Proof.Machine.execMin k f s
  | .max k f => Sys2Proof.Machine.execMax k f s
  | .movi k f => Sys2Proof.Machine.execMovi k f s
  | .shli k f => Sys2Proof.Machine.execShli k f s
  | .fget k f => Sys2Proof.Machine.execFget k f s
  | .cntr k f => Sys2Proof.Machine.execCntr k f s
  | .vext k f => Sys2Proof.Machine.execVext k f s
  | .pand k f => Sys2Proof.Machine.execPand k f s
  | .por k f => Sys2Proof.Machine.execPor k f s
  | .pxor k f => Sys2Proof.Machine.execPxor k f s
  | .pandn k f => Sys2Proof.Machine.execPandn k f s
  | .pnot k f => Sys2Proof.Machine.execPnot k f s
  | .pset k f => Sys2Proof.Machine.execPset k f s
  | .pclr k f => Sys2Proof.Machine.execPclr k f s
  | .pany k f => Sys2Proof.Machine.execPany k f s
  | .pcmp k f => Sys2Proof.Machine.execPcmp k f s
  | .pcnt k f => Sys2Proof.Machine.execPcnt k f s
  | .pfirst k f => Sys2Proof.Machine.execPfirst k f s
  | .pfromv k f => Sys2Proof.Machine.execPfromv k f s
  | .ldv k f => Sys2Proof.Machine.execLdv k f s
  | .lds k f => Sys2Proof.Machine.execLds k f s
  | .ldx k f => Sys2Proof.Machine.execLdx k f s
  | .ldp k f => Sys2Proof.Machine.execLdp k f s
  | .stv k f => Sys2Proof.Machine.execStv k f s
  | .sts k f => Sys2Proof.Machine.execSts k f s
  | .stp k f => Sys2Proof.Machine.execStp k f s
  | .radd k f => Sys2Proof.Machine.execRadd k f s
  | .rmax k f => Sys2Proof.Machine.execRmax k f s
  | .rmin k f => Sys2Proof.Machine.execRmin k f s
  | .racc k f => Sys2Proof.Machine.execRacc k f s
  | .rwacc k f => Sys2Proof.Machine.execRwacc k f s
  | .rfma k f => Sys2Proof.Machine.execRfma k f s
  | .rarg k f => Sys2Proof.Machine.execRarg k f s
  | .ramax k f => Sys2Proof.Machine.execRamax k f s
  | .rgtopk k f => Sys2Proof.Machine.execRgtopk k f s
  | .rcvt k f => Sys2Proof.Machine.execRcvt k f s
  | .rmxq k f => Sys2Proof.Machine.execRmxq k f s
  | .rsplat k f => Sys2Proof.Machine.execRsplat k f s
  | .rnzm k f => Sys2Proof.Machine.execRnzm k f s
  | .fSet k f => Sys2Proof.Machine.execFSet k f s
  | .fAnd k f => Sys2Proof.Machine.execFAnd k f s
  | .fOr k f => Sys2Proof.Machine.execFOr k f s
  | .gidx k f => Sys2Proof.Machine.execGidx k f s
  | .glin k f => Sys2Proof.Machine.execGlin k f s
  | .gpage k f => Sys2Proof.Machine.execGpage k f s
  | .gbag k f => Sys2Proof.Machine.execGbag k f s
  | .gteBitmapRead k op => Sys2Proof.Machine.execGteBitmapRead k op s
  | .dqld k f => Sys2Proof.Machine.execDqld k f s
  | .dscore k f => Sys2Proof.Machine.execDscore k f s
  | .dout k f => Sys2Proof.Machine.execDout k f s
  | .dclr k f => Sys2Proof.Machine.execDclr k f s
  | .rkmrg k f => Sys2Proof.Machine.execRkmrg k f s
  | .rkmrgp k f => Sys2Proof.Machine.execRkmrgp k f s
  | .rkout k f => Sys2Proof.Machine.execRkout k f s
  | .rkclr k f => Sys2Proof.Machine.execRkclr k f s
  | .mcopy k f => Sys2Proof.Machine.execMcopy k f s
  | .msend k f => Sys2Proof.Machine.execMsend k f s
  | .mred k f => Sys2Proof.Machine.execMred k f s
  | .mdone k f => Sys2Proof.Machine.execMdone k f s
  | .engineOpComplete k op => Sys2Proof.Machine.execEngineOpComplete k op s
  | .engineHoldRelease k op => Sys2Proof.Machine.execEngineHoldRelease k op s
  | .engineCarriedStart k op => Sys2Proof.Machine.execEngineCarriedStart k op s
  | .frameReceive p f => Sys2Proof.Machine.execFrameReceive p f s
  | .neighborSolicitation p ip who => Sys2Proof.Machine.execNeighborSolicitation p ip who s
  | .load r => Sys2Proof.Machine.execLoad r s
  | .store r => Sys2Proof.Machine.execStore r s
  | .pstore r => Sys2Proof.Machine.execPstore r s
  | .put r => Sys2Proof.Machine.execPut r s
  | .get r => Sys2Proof.Machine.execGet r s
  | .atomicFadd r => Sys2Proof.Machine.execAtomicFadd r s
  | .atomicFand r => Sys2Proof.Machine.execAtomicFand r s
  | .atomicFor r => Sys2Proof.Machine.execAtomicFor r s
  | .atomicFxor r => Sys2Proof.Machine.execAtomicFxor r s
  | .atomicFmins r => Sys2Proof.Machine.execAtomicFmins r s
  | .atomicFmaxs r => Sys2Proof.Machine.execAtomicFmaxs r s
  | .atomicFminu r => Sys2Proof.Machine.execAtomicFminu r s
  | .atomicFmaxu r => Sys2Proof.Machine.execAtomicFmaxu r s
  | .atomicSwap r => Sys2Proof.Machine.execAtomicSwap r s
  | .atomicCas r => Sys2Proof.Machine.execAtomicCas r s
  | .atomicFaddf r => Sys2Proof.Machine.execAtomicFaddf r s
  | .publish r => Sys2Proof.Machine.execPublish r s
  | .redDenseLine r => Sys2Proof.Machine.execRedDenseLine r s
  | .redSparseLine r => Sys2Proof.Machine.execRedSparseLine r s
  | .redDoneLine r => Sys2Proof.Machine.execRedDoneLine r s
  | .retr r => Sys2Proof.Machine.execRetr r s
  | .rdS r => Sys2Proof.Machine.execRdS r s
  | .rdX r => Sys2Proof.Machine.execRdX r s
  | .upg r => Sys2Proof.Machine.execUpg r s
  | .wb r => Sys2Proof.Machine.execWb r s
  | .wbKeep r => Sys2Proof.Machine.execWbKeep r s
  | .pushData r => Sys2Proof.Machine.execPushData r s
  | .ack r => Sys2Proof.Machine.execAck r s
  | .ackWbpend r => Sys2Proof.Machine.execAckWbpend r s
  | .stashAck r => Sys2Proof.Machine.execStashAck r s
  | .stashNak r => Sys2Proof.Machine.execStashNak r s
  | .snoopRelease k txn agent => Sys2Proof.Machine.execSnoopRelease k txn agent s
  | .homeReadComplete k txn => Sys2Proof.Machine.execHomeReadComplete k txn s
  | .heldRequestReenter k => Sys2Proof.Machine.execHeldRequestReenter k s
  | .domainTimeout k txn agent => Sys2Proof.Machine.execDomainTimeout k txn agent s
  | .dirAgentWrite k n w => Sys2Proof.Machine.execDirAgentWrite k n w s
  | .dirProbe k w => Sys2Proof.Machine.execDirProbe k w s
  | .trayResponse r => Sys2Proof.Machine.execTrayResponse r s
  | .trayForwardTimeout fwd => Sys2Proof.Machine.execTrayForwardTimeout fwd s
  | .governedResponse opid ece => Sys2Proof.Machine.execGovernedResponse opid ece s
  | .governedFrameRelease flow => Sys2Proof.Machine.execGovernedFrameRelease flow s
  | .egressStart p => Sys2Proof.Machine.execEgressStart p s
  | .shaperTokenGain => Sys2Proof.Machine.execShaperTokenGain s
  | .meterTokenGain => Sys2Proof.Machine.execMeterTokenGain s
  | .shaperWrite x w => Sys2Proof.Machine.execShaperWrite x w s
  | .meterWrite m which w => Sys2Proof.Machine.execMeterWrite m which w s
  | .mirrorSessionWrite n w => Sys2Proof.Machine.execMirrorSessionWrite n w s
  | .sampleRingConfigWrite x w => Sys2Proof.Machine.execSampleRingConfigWrite x w s
  | .sampleRecordWrite => Sys2Proof.Machine.execSampleRecordWrite s
  | .subscriberMapWrite x w => Sys2Proof.Machine.execSubscriberMapWrite x w s
  | .barrierClear p => Sys2Proof.Machine.execBarrierClear p s
  | .refreshWindow stack pchan bank => Sys2Proof.Machine.execRefreshWindow stack pchan bank s
  | .stackCacheInvalidateGo k => Sys2Proof.Machine.execStackCacheInvalidateGo k s
  | .raclr k => Sys2Proof.Machine.execRaclr k s
  | .rcxArm k n => Sys2Proof.Machine.execRcxArm k n s
  | .rcxAbort k n => Sys2Proof.Machine.execRcxAbort k n s
  | .contextOpen k n => Sys2Proof.Machine.execContextOpen k n s
  | .contextReopen k n => Sys2Proof.Machine.execContextReopen k n s
  | .contextTimeout k n => Sys2Proof.Machine.execContextTimeout k n s
  | .extSet c => Sys2Proof.Machine.execExtSet c s
  | .extentDescriptorApply x => Sys2Proof.Machine.execExtentDescriptorApply x s
  | .extGet c => Sys2Proof.Machine.execExtGet c s
  | .extFill c => Sys2Proof.Machine.execExtFill c s
  | .farCachedFillComplete x => Sys2Proof.Machine.execFarCachedFillComplete x s
  | .extFlush c => Sys2Proof.Machine.execExtFlush c s
  | .flushComplete x => Sys2Proof.Machine.execFlushComplete x s
  | .extEvict c => Sys2Proof.Machine.execExtEvict c s
  | .evictComplete x => Sys2Proof.Machine.execEvictComplete x s
  | .extDirty c => Sys2Proof.Machine.execExtDirty c s
  | .extReset c => Sys2Proof.Machine.execExtReset c s
  | .coldDiscard c => Sys2Proof.Machine.execColdDiscard c s
  | .ftlWriteAck op => Sys2Proof.Machine.execFtlWriteAck op s
  | .ftlRelocation u => Sys2Proof.Machine.execFtlRelocation u s
  | .ftlGarbageCollection tray freeBlocks blocks => Sys2Proof.Machine.execFtlGarbageCollection tray freeBlocks blocks s
  | .ftlMapRebuildComplete => Sys2Proof.Machine.execFtlMapRebuildComplete s
  | .baseReg c => Sys2Proof.Machine.execBaseReg c s
  | .baseDrop c => Sys2Proof.Machine.execBaseDrop c s
  | .baseApply b => Sys2Proof.Machine.execBaseApply b s
  | .octcfgWrite u o w => Sys2Proof.Machine.execOctcfgWrite u o w s
  | .octetModeApply u o => Sys2Proof.Machine.execOctetModeApply u o s
  | .linkTrainingComplete p => Sys2Proof.Machine.execLinkTrainingComplete p s
  | .laneFault u lane => Sys2Proof.Machine.execLaneFault u lane s
  | .laneSerrWindow u lane count => Sys2Proof.Machine.execLaneSerrWindow u lane count s
  | .spareSwapComplete u g => Sys2Proof.Machine.execSpareSwapComplete u g s
  | .laserFault n => Sys2Proof.Machine.execLaserFault n s
  | .lsrctlEnWrite n w => Sys2Proof.Machine.execLsrctlEnWrite n w s
  | .ppsOutPulse second => Sys2Proof.Machine.execPpsOutPulse second s
  | .i3cPrivateWrite bytes => Sys2Proof.Machine.execI3cPrivateWrite bytes s
  | .i3cAddressAssign a => Sys2Proof.Machine.execI3cAddressAssign a s
  | .tenantCreate c => Sys2Proof.Machine.execTenantCreate c s
  | .tenantRemove c => Sys2Proof.Machine.execTenantRemove c s
  | .tenantEpochAdvance t => Sys2Proof.Machine.execTenantEpochAdvance t s
  | .keyRotate c => Sys2Proof.Machine.execKeyRotate c s
  | .keyload session body => Sys2Proof.Machine.execKeyload session body s
  | .weightResume session t => Sys2Proof.Machine.execWeightResume session t s
  | .spdmMsg c => Sys2Proof.Machine.execSpdmMsg c s
  | .keySlotDrained k => Sys2Proof.Machine.execKeySlotDrained k s
  | .slotScrubComplete k => Sys2Proof.Machine.execSlotScrubComplete k s
  | .grantSet c => Sys2Proof.Machine.execGrantSet c s
  | .grantActivate g => Sys2Proof.Machine.execGrantActivate g s
  | .zeroFillComplete g => Sys2Proof.Machine.execZeroFillComplete g s
  | .grantGet c => Sys2Proof.Machine.execGrantGet c s
  | .grantRevoke c => Sys2Proof.Machine.execGrantRevoke c s
  | .grantInflightZero g => Sys2Proof.Machine.execGrantInflightZero g s
  | .revokeTimeout g => Sys2Proof.Machine.execRevokeTimeout g s
  | .grantScrubComplete g => Sys2Proof.Machine.execGrantScrubComplete g s
  | .heartbeatSend => Sys2Proof.Machine.execHeartbeatSend s
  | .heartbeat m => Sys2Proof.Machine.execHeartbeat m s
  | .livenessExpiry who => Sys2Proof.Machine.execLivenessExpiry who s
  | .propose m => Sys2Proof.Machine.execPropose m s
  | .fabricAck m => Sys2Proof.Machine.execFabricAck m s
  | .commit m => Sys2Proof.Machine.execCommit m s
  | .syncReq m => Sys2Proof.Machine.execSyncReq m s
  | .fabricState m => Sys2Proof.Machine.execFabricState m s
  | .syncData m => Sys2Proof.Machine.execSyncData m s
  | .loss m => Sys2Proof.Machine.execLoss m s
  | .revokeDone m => Sys2Proof.Machine.execRevokeDone m s
  | .capoApply => Sys2Proof.Machine.execCapoApply s
  | .graceEnd => Sys2Proof.Machine.execGraceEnd s
  | .mapGet c => Sys2Proof.Machine.execMapGet c s
  | .fabKey c => Sys2Proof.Machine.execFabKey c s
  | .cdbWrite q v => Sys2Proof.Machine.execCdbWrite q v s
  | .pdbWrite q v => Sys2Proof.Machine.execPdbWrite q v s
  | .commandTake q => Sys2Proof.Machine.execCommandTake q s
  | .regRead c => Sys2Proof.Machine.execRegRead c s
  | .regWrite c => Sys2Proof.Machine.execRegWrite c s
  | .ringCreate c => Sys2Proof.Machine.execRingCreate c s
  | .ringDelete c => Sys2Proof.Machine.execRingDelete c s
  | .segLoad c => Sys2Proof.Machine.execSegLoad c s
  | .segmentLoadComplete seg => Sys2Proof.Machine.execSegmentLoadComplete seg s
  | .segmentReady seg => Sys2Proof.Machine.execSegmentReady seg s
  | .segmentReplace seg => Sys2Proof.Machine.execSegmentReplace seg s
  | .segUnload c => Sys2Proof.Machine.execSegUnload c s
  | .segmentRemove seg => Sys2Proof.Machine.execSegmentRemove seg s
  | .segDisable c => Sys2Proof.Machine.execSegDisable c s
  | .segmentDisableApply seg => Sys2Proof.Machine.execSegmentDisableApply seg s
  | .segDisableCleanup seg => Sys2Proof.Machine.execSegDisableCleanup seg s
  | .tileRemap => Sys2Proof.Machine.execTileRemap s
  | .fwStage c => Sys2Proof.Machine.execFwStage c s
  | .fwCommit c => Sys2Proof.Machine.execFwCommit c s
  | .fwActivate c => Sys2Proof.Machine.execFwActivate c s
  | .fwActivationRetry y => Sys2Proof.Machine.execFwActivationRetry y s
  | .fwActivationComplete y => Sys2Proof.Machine.execFwActivationComplete y s
  | .watchdogExpire core => Sys2Proof.Machine.execWatchdogExpire core s
  | .logEntryWrite e => Sys2Proof.Machine.execLogEntryWrite e s
  | .logRingConfigWrite x w => Sys2Proof.Machine.execLogRingConfigWrite x w s
  | .eventRecordWrite => Sys2Proof.Machine.execEventRecordWrite s
  | .evtRingConfigWrite x w => Sys2Proof.Machine.execEvtRingConfigWrite x w s
  | .powerOnReset straps => Sys2Proof.Machine.execPowerOnReset straps s
  | .pinReset straps => Sys2Proof.Machine.execPinReset straps s
  | .frstNAssert => Sys2Proof.Machine.execFrstNAssert s
  | .pwrGoodChange high => Sys2Proof.Machine.execPwrGoodChange high s
  | .bringupPhaseEnd x => Sys2Proof.Machine.execBringupPhaseEnd x s
  | .alignmentTimeout => Sys2Proof.Machine.execAlignmentTimeout s
  | .temperatureSample x => Sys2Proof.Machine.execTemperatureSample x s
  | .emergencyLevelFall => Sys2Proof.Machine.execEmergencyLevelFall s
  | .resetWarm c => Sys2Proof.Machine.execResetWarm c s
  | .resetScd c => Sys2Proof.Machine.execResetScd c s
  | .resetTenant c => Sys2Proof.Machine.execResetTenant c s
  | .resetBegin => Sys2Proof.Machine.execResetBegin s
  | .scdHandbackStart k => Sys2Proof.Machine.execScdHandbackStart k s
  | .scdReturnToService k => Sys2Proof.Machine.execScdReturnToService k s
  | .pwrStateL0 c => Sys2Proof.Machine.execPwrStateL0 c s
  | .pwrStateL1 c => Sys2Proof.Machine.execPwrStateL1 c s
  | .pwrStateL2 c => Sys2Proof.Machine.execPwrStateL2 c s
  | .pwrStateL3 c => Sys2Proof.Machine.execPwrStateL3 c s
  | .lowPowerDrainComplete => Sys2Proof.Machine.execLowPowerDrainComplete s
  | .pwrreqExit w => Sys2Proof.Machine.execPwrreqExit w s
  | .shutdown c => Sys2Proof.Machine.execShutdown c s
  | .selfTestComplete x => Sys2Proof.Machine.execSelfTestComplete x s
  | .unitLossDetect x cause => Sys2Proof.Machine.execUnitLossDetect x cause s
  | .unitLossRecord => Sys2Proof.Machine.execUnitLossRecord s
  | .scdLossRemap => Sys2Proof.Machine.execScdLossRemap s
  | .tableEntryRepair x => Sys2Proof.Machine.execTableEntryRepair x s
  | .ppsInPulse offset => Sys2Proof.Machine.execPpsInPulse offset s
  | .coldWriteHoldTimeout op => Sys2Proof.Machine.execColdWriteHoldTimeout op s
  | .mgmtLinkLoss m1 => Sys2Proof.Machine.execMgmtLinkLoss m1 s

end Sys2Proof.Machine
end

