-- ==== Sys2Proof/WellFormed.lean ====
section
/-! DEFINITION. Which commands the outside world or the sequencers can present: chord slots that the loader accepts
(Table 3.13), pieces that a parser can split off a frame (R331), messages and numbers within their fields' ranges. -/

namespace Sys2Proof

open Machine

/-- A fabric-protocol message of one frame or a whole number of frames (Table 16.2). -/
def fabOk (m : FabMsg) : Bool := decide (m.fidx.toNat ≤ m.nfrm.toNat)

/-- A unit that the device has. -/
def unitOk : LostUnit → Bool
  | .stack n => decide (n.toNat < 24)
  | _ => true

/-- A subscriber register, or that of one of the 640 ports. -/
def subMapOk : SubMapReg → Bool
  | .portcfg p => decide (p.toNat < 640)
  | _ => true

/-- A command that the hardware can meet. -/
def Instr.wellFormed : Instr → Bool
  | .strokeBegin => true
  | .chordIssue c => decide (c.toNat < 1408)
  | .maintenanceWindow => true
  | .turnaround => true
  | .slotScheduleActivate => true
  | .slotschedArm _ => true
  | .slotschedCancel _ => true
  | .skipctlMaskWrite _ => true
  | .seqStrokeLoRead => true
  | .ptpMessage _ _ _ => true
  | .seqResyncComplete => true
  | .queueSlot _ _ => true
  | .requestResponseBuild _ _ => true
  | .add _ f => scaOk .add f
  | .sub _ f => scaOk .sub f
  | .addi _ f => scaOk .addi f
  | .mul _ f => scaOk .mul f
  | .and _ f => scaOk .and f
  | .or _ f => scaOk .or f
  | .xor _ f => scaOk .xor f
  | .shl _ f => scaOk .shl f
  | .shr _ f => scaOk .shr f
  | .sar _ f => scaOk .sar f
  | .min _ f => scaOk .min f
  | .max _ f => scaOk .max f
  | .movi _ f => scaOk .movi f
  | .shli _ f => scaOk .shli f
  | .fget _ f => scaOk .fget f
  | .cntr _ f => scaOk .cntr f
  | .vext _ f => scaOk .vext f
  | .pand _ f => prdOk .pand f
  | .por _ f => prdOk .por f
  | .pxor _ f => prdOk .pxor f
  | .pandn _ f => prdOk .pandn f
  | .pnot _ f => prdOk .pnot f
  | .pset _ f => prdOk .pset f
  | .pclr _ f => prdOk .pclr f
  | .pany _ f => prdOk .pany f
  | .pcmp _ f => prdOk .pcmp f
  | .pcnt _ f => prdOk .pcnt f
  | .pfirst _ f => prdOk .pfirst f
  | .pfromv _ f => prdOk .pfromv f
  | .ldv _ f => ldOk .ldv f
  | .lds _ f => ldOk .lds f
  | .ldx _ f => ldOk .ldx f
  | .ldp _ f => ldOk .ldp f
  | .stv _ f => stOk .stv f
  | .sts _ f => stOk .sts f
  | .stp _ f => stOk .stp f
  | .radd _ f => rduOk .radd f
  | .rmax _ f => rduOk .rmax f
  | .rmin _ f => rduOk .rmin f
  | .racc _ f => rduOk .racc f
  | .rwacc _ f => rduOk .rwacc f
  | .rfma _ f => rduOk .rfma f
  | .rarg _ f => rduOk .rarg f
  | .ramax _ f => rduOk .ramax f
  | .rgtopk _ f => rduOk .rgtopk f
  | .rcvt _ f => rduOk .rcvt f
  | .rmxq _ f => rduOk .rmxq f
  | .rsplat _ f => rduOk .rsplat f
  | .rnzm _ f => rduOk .rnzm f
  | .fSet _ f => fluOk f
  | .fAnd _ f => fluOk f
  | .fOr _ f => fluOk f
  | .gidx _ f => gteOk .gidx f
  | .glin _ f => gteOk .glin f
  | .gpage _ f => gteOk .gpage f
  | .gbag _ f => gteOk .gbag f
  | .gteBitmapRead _ _ => true
  | .dqld _ f => dxaOk .dqld f
  | .dscore _ f => dxaOk .dscore f
  | .dout _ f => dxaOk .dout f
  | .dclr _ f => dxaOk .dclr f
  | .rkmrg _ f => rkuOk .rkmrg f
  | .rkmrgp _ f => rkuOk .rkmrgp f
  | .rkout _ f => rkuOk .rkout f
  | .rkclr _ f => rkuOk .rkclr f
  | .mcopy _ f => movOk .mcopy f
  | .msend _ f => movOk .msend f
  | .mred _ f => movOk .mred f
  | .mdone _ f => movOk .mdone f
  | .engineOpComplete _ _ => true
  | .engineHoldRelease _ _ => true
  | .engineCarriedStart _ _ => true
  | .frameReceive p _ => decide (p.toNat < 642)
  | .neighborSolicitation p _ _ => decide (640 ≤ p.toNat ∧ p.toNat < 642)
  | .load r => pieceOk .load r
  | .store r => pieceOk .store r
  | .pstore r => pieceOk .pstore r
  | .put r => pieceOk .put r
  | .get r => pieceOk .get r
  | .atomicFadd r => pieceOk (.atomic .fadd) r
  | .atomicFand r => pieceOk (.atomic .fand) r
  | .atomicFor r => pieceOk (.atomic .for_) r
  | .atomicFxor r => pieceOk (.atomic .fxor) r
  | .atomicFmins r => pieceOk (.atomic .fmins) r
  | .atomicFmaxs r => pieceOk (.atomic .fmaxs) r
  | .atomicFminu r => pieceOk (.atomic .fminu) r
  | .atomicFmaxu r => pieceOk (.atomic .fmaxu) r
  | .atomicSwap r => pieceOk (.atomic .swap) r
  | .atomicCas r => pieceOk (.atomic .cas) r
  | .atomicFaddf r => pieceOk (.atomic .faddf) r
  | .publish r => pieceOk .publish r
  | .redDenseLine r => pieceOk (.red .dense) r
  | .redSparseLine r => pieceOk (.red .sparse) r
  | .redDoneLine r => pieceOk (.red .done) r
  | .retr r => pieceOk .retr r
  | .rdS r => pieceOk .rdS r
  | .rdX r => pieceOk .rdX r
  | .upg r => pieceOk .upg r
  | .wb r => pieceOk .wb r
  | .wbKeep r => pieceOk .wbKeep r
  | .pushData r => pieceOk .pushData r
  | .ack r => pieceOk .ack r
  | .ackWbpend r => pieceOk .ackWbpend r
  | .stashAck r => pieceOk .stashAck r
  | .stashNak r => pieceOk .stashNak r
  | .snoopRelease _ _ _ => true
  | .homeReadComplete _ _ => true
  | .heldRequestReenter _ => true
  | .domainTimeout _ _ _ => true
  | .dirAgentWrite _ _ _ => true
  | .dirProbe _ _ => true
  | .trayResponse _ => true
  | .trayForwardTimeout _ => true
  | .governedResponse _ _ => true
  | .governedFrameRelease _ => true
  | .egressStart p => decide (p.toNat < 642)
  | .shaperTokenGain => true
  | .meterTokenGain => true
  | .shaperWrite _ _ => true
  | .meterWrite _ _ _ => true
  | .mirrorSessionWrite _ _ => true
  | .sampleRingConfigWrite _ _ => true
  | .sampleRecordWrite => true
  | .subscriberMapWrite x _ => subMapOk x
  | .barrierClear p => decide (p.toNat < 642)
  | .refreshWindow stack _ _ => decide (stack.toNat < 24)
  | .stackCacheInvalidateGo _ => true
  | .raclr _ => true
  | .rcxArm _ _ => true
  | .rcxAbort _ _ => true
  | .contextOpen _ _ => true
  | .contextReopen _ _ => true
  | .contextTimeout _ _ => true
  | .extSet _ => true
  | .extentDescriptorApply _ => true
  | .extGet _ => true
  | .extFill _ => true
  | .farCachedFillComplete _ => true
  | .extFlush _ => true
  | .flushComplete _ => true
  | .extEvict _ => true
  | .evictComplete _ => true
  | .extDirty _ => true
  | .extReset _ => true
  | .coldDiscard _ => true
  | .ftlWriteAck _ => true
  | .ftlRelocation _ => true
  | .ftlGarbageCollection _ _ _ => true
  | .ftlMapRebuildComplete => true
  | .baseReg _ => true
  | .baseDrop _ => true
  | .baseApply _ => true
  | .octcfgWrite u _ _ => decide (u.toNat < 20)
  | .octetModeApply u _ => decide (u.toNat < 20)
  | .linkTrainingComplete p => decide (p.toNat < 642)
  | .laneFault u _ => decide (u.toNat < 20)
  | .laneSerrWindow u _ _ => decide (u.toNat < 20)
  | .spareSwapComplete u _ => decide (u.toNat < 20)
  | .laserFault _ => true
  | .lsrctlEnWrite _ _ => true
  | .ppsOutPulse _ => true
  | .i3cPrivateWrite b => decide (b.length = 4 ∨ b.length = 8)
  | .i3cAddressAssign _ => true
  | .tenantCreate _ => true
  | .tenantRemove _ => true
  | .tenantEpochAdvance _ => true
  | .keyRotate _ => true
  | .keyload _ _ => true
  | .weightResume _ _ => true
  | .spdmMsg _ => true
  | .keySlotDrained _ => true
  | .slotScrubComplete _ => true
  | .grantSet _ => true
  | .grantActivate _ => true
  | .zeroFillComplete _ => true
  | .grantGet _ => true
  | .grantRevoke _ => true
  | .grantInflightZero _ => true
  | .revokeTimeout _ => true
  | .grantScrubComplete _ => true
  | .heartbeatSend => true
  | .heartbeat m => fabOk m
  | .livenessExpiry _ => true
  | .propose m => fabOk m
  | .fabricAck m => fabOk m
  | .commit m => fabOk m
  | .syncReq m => fabOk m
  | .fabricState m => fabOk m
  | .syncData m => fabOk m
  | .loss m => fabOk m
  | .revokeDone m => fabOk m
  | .capoApply => true
  | .graceEnd => true
  | .mapGet _ => true
  | .fabKey _ => true
  | .cdbWrite _ _ => true
  | .pdbWrite _ _ => true
  | .commandTake _ => true
  | .regRead _ => true
  | .regWrite _ => true
  | .ringCreate _ => true
  | .ringDelete _ => true
  | .segLoad _ => true
  | .segmentLoadComplete _ => true
  | .segmentReady _ => true
  | .segmentReplace _ => true
  | .segUnload _ => true
  | .segmentRemove _ => true
  | .segDisable _ => true
  | .segmentDisableApply _ => true
  | .segDisableCleanup _ => true
  | .tileRemap => true
  | .fwStage _ => true
  | .fwCommit _ => true
  | .fwActivate _ => true
  | .fwActivationRetry y => decide (y.toNat < 7)
  | .fwActivationComplete y => decide (y.toNat < 7)
  | .watchdogExpire core => decide (core.toNat < 21)
  | .logEntryWrite e => decide (e.core.toNat < 21 ∧ e.number.toNat < 0x6000 ∧ e.args.length ≤ 5)
  | .logRingConfigWrite _ _ => true
  | .eventRecordWrite => true
  | .evtRingConfigWrite _ _ => true
  | .powerOnReset _ => true
  | .pinReset _ => true
  | .frstNAssert => true
  | .pwrGoodChange _ => true
  | .bringupPhaseEnd _ => true
  | .alignmentTimeout => true
  | .temperatureSample _ => true
  | .emergencyLevelFall => true
  | .resetWarm _ => true
  | .resetScd _ => true
  | .resetTenant _ => true
  | .resetBegin => true
  | .scdHandbackStart _ => true
  | .scdReturnToService _ => true
  | .pwrStateL0 _ => true
  | .pwrStateL1 _ => true
  | .pwrStateL2 _ => true
  | .pwrStateL3 _ => true
  | .lowPowerDrainComplete => true
  | .pwrreqExit _ => true
  | .shutdown _ => true
  | .selfTestComplete _ => true
  | .unitLossDetect x _ => unitOk x
  | .unitLossRecord => true
  | .scdLossRemap => true
  | .tableEntryRepair _ => true
  | .ppsInPulse _ => true
  | .coldWriteHoldTimeout _ => true
  | .mgmtLinkLoss _ => true

end Sys2Proof
end

