-- ==== Sys2Proof/Safety.lean ====
section
/-! DEFINITION. What a safe run is: commands that the outside world can present, each of which the block takes. -/

namespace Sys2Proof

open Machine

/-- The state that a step answers, none when it stops. -/
def nextOf (o : Host.Outcome State Fault Refusal) : Option State :=
  match o with
  | .next s => some s
  | _ => none

/-- The step stops with a refusal. -/
def refuses (o : Host.Outcome State Fault Refusal) : Bool :=
  match o with
  | .refused _ => true
  | _ => false

/-- A chord slot of a unit that FWL-9620 lacks (R39). -/
def Instr.needsDistance : Instr → Bool
  | .dqld _ _ | .dscore _ _ | .dout _ _ | .dclr _ _ | .rkmrg _ _ | .rkmrgp _ _ | .rkout _ _ | .rkclr _ _ => true
  | _ => false

/-- RA 1 stands on a chord that allows it (R226); no other command has run-ahead. -/
def Machine.State.raTaken (s : State) : Instr → Bool
  | .gidx _ f | .glin _ f | .gpage _ f | .gbag _ f => s.raOk f
  | _ => true

/-- A command that this device takes: well formed, of a unit that the variant has (R39), with run-ahead only where R226 allows it. -/
def Machine.State.takes (s : State) (c : Instr) : Bool := c.wellFormed && !(c.needsDistance && s.noDistance) && s.raTaken c

/-- A step is safe: it answers a next state. -/
def Safe (s : State) : Prop := ∃ t, step s = .next t

end Sys2Proof
end

