-- ==== Sys2Proof/Certificates/Slice0/Obligations.lean ====
section
/-! DEFINITION. The statements for the provers, and the words they are said in. -/

namespace Sys2Proof.Claim

open Sys2Proof Sys2Proof.Machine

/-- SCDk is in service and the slot's gate is true on it: the operation acts (R73, R74). -/
def acts (s : State) (k : Scd) (p : BitVec 7) : Prop := s.scdOut k = false ∧ s.gate k p = true

/-- All 256 bits of a predicate register 1, or all 0. -/
def allBits (p : Prop) [Decidable p] : Mask := if p then BitVec.allOnes 256 else 0

/-- The state after an RDU operation has taken its draws (R197). -/
def drawn (s : State) (op : RduOp) (k : Scd) (f : RduF) : State :=
  { s with scd := { s.scd with gen := SMap.set 1 s.scd.gen k.toNat (draws (rduDraws op f) (SMap.get 1 s.scd.gen k.toNat)).1 } }

/-- The draws an RDU operation takes. -/
def drawList (s : State) (op : RduOp) (k : Scd) (f : RduF) : List Nat :=
  (draws (rduDraws op f) (SMap.get 1 s.scd.gen k.toNat)).2

/-- Element j of V[VA] and of V[VB] of a dense RDU operation, as exact numbers, with their block scales (R112). -/
def numA (s : State) (k : Scd) (f : RduF) (j : Nat) : Machine.Num :=
  let x := if f.sparse && !(s.vreg k f.vc).getLsbD j then Machine.Num.zero
    else numOf f.fmt.toNat (elemAt (fmtWidth f.fmt.toNat) (s.vreg k f.va).toNat j)
  if f.mx then scaleNum (elemAt 8 (s.vreg k f.vc).toNat (j / 32)) x else x

def numB (s : State) (k : Scd) (f : RduF) (j : Nat) : Machine.Num :=
  let x := numOf f.fmt.toNat (elemAt (fmtWidth f.fmt.toNat) (s.vreg k f.vb).toNat j)
  if f.mx then scaleNum (elemAt 8 (s.vreg k f.vc).toNat (256 + j / 32)) x else x

/-- The number is +0 or −0. -/
def isZeroNum : Machine.Num → Bool
  | .fin _ 0 _ => true
  | _ => false

/-- One landing of n elements of width w from element position `first` of a vector register: element i of the part takes
`g i` where `act i` holds. -/
def partLanding (k : Scd) (r : BitVec 6) (w first n : Nat) (act : Nat → Bool) (g : Nat → Nat) : Landing :=
  .vec k r
    (BitVec.ofNat 4096 (packElems w ((List.range n).map fun i => if act i then 2 ^ w - 1 else 0) <<< (w * first)))
    (BitVec.ofNat 4096 (packElems w ((List.range n).map g) <<< (w * first)))

/-- The register files of the SCDs and memory are held in their canonical forms. -/
def canonical (s : State) : Prop :=
  SMap.canon 0 s.mem.bytes = true ∧ SMap.canon 0 s.scd.v = true ∧ SMap.canon 0 s.scd.s = true ∧
  SMap.canon 0 s.scd.p = true ∧ SMap.canon 0 s.scd.x = true

/-- A number of cys after which the clock shows cy c: 1 to 1,536. -/
def cysUntil (s : State) (c : Nat) : Nat := if s.time.cy < c then c - s.time.cy else 1536 + c - s.time.cy

/-- What a row answers whose moment is absolute cy `c` (log entry 3): its effect `u` once that cy has come; before that the clock runs
up to it, and the device does the thing on that cy of its own accord. -/
def momentRow (s : State) (i : Instr) (c : Nat) (u : State) : Prop :=
  (c ≤ s.now → exec i s = .next u) ∧ (s.now < c → exec i s = .next (State.run (c - s.now) s))

/-- Event `e` waits for absolute cy `c`, and no equal event comes before it. -/
def eventAt (s : State) (e : Timed) (c : Nat) : Prop := s.timed.find? (fun x => x.2 == e) = some (c, e)

/-- Change `d` is the first latched one that satisfies `p`; it is latched for stroke `n`. -/
def latchedAt (s : State) (p : Due → Bool) (d : Due) (n : Nat) : Prop := s.due.find? (fun x => p x.2) = some (n, d)

/-- A row that names a latched change: at cy 0 of the stroke for which it is latched, and never before (R46). -/
def latchedRow (s : State) (i : Instr) (p : Due → Bool) : Prop :=
  (∀ d n, latchedAt s p d n → momentRow s i (1536 * n) (({ s with due := dropFirst (fun e => e == (n, d)) s.due } : State).dueApply d)) ∧
  (s.due.find? (fun x => p x.2) = none → exec i s = .next s)

/-- The bits of a slot operation, most significant field first, the 6-bit opcode last (Table 3.10). -/
def slotWord : SlotOp → Nat
  | .qs mask => mask.toNat
  | .sca op f => (f.imm ++ f.sb ++ f.sa ++ f.sd ++ f.pred ++ (match op with
      | .add => 1#6 | .sub => 2#6 | .addi => 3#6 | .mul => 4#6 | .and => 5#6 | .or => 6#6 | .xor => 7#6 | .shl => 8#6
      | .shr => 9#6 | .sar => 10#6 | .min => 11#6 | .max => 12#6 | .movi => 13#6 | .shli => 14#6 | .fget => 15#6
      | .cntr => 16#6 | .vext => 17#6)).toNat
  | .prd op f => (f.imm ++ f.sb ++ f.sa ++ f.pb ++ f.pa ++ f.pd ++ f.pred ++ (match op with
      | .pand => 1#6 | .por => 2#6 | .pxor => 3#6 | .pandn => 4#6 | .pnot => 5#6 | .pset => 6#6 | .pclr => 7#6
      | .pany => 8#6 | .pcmp => 9#6 | .pcnt => 10#6 | .pfirst => 11#6 | .pfromv => 12#6)).toNat
  | .ld op f => (f.imm ++ f.xreg ++ f.fret ++ f.dst ++ f.pred ++ (match op with
      | .ldv => 1#6 | .lds => 2#6 | .ldx => 3#6 | .ldp => 4#6)).toNat
  | .st op f => (f.imm ++ f.xreg ++ f.fret ++ f.src ++ f.pred ++ (match op with
      | .stv => 1#6 | .sts => 2#6 | .stp => 3#6)).toNat
  | .rdu op f => (f.rsv ++ BitVec.ofBool f.sparse ++ BitVec.ofBool f.sat ++ f.rnd ++ BitVec.ofBool f.mx ++ f.ofmt ++ f.fmt ++
      f.sa ++ f.vc ++ f.vb ++ f.va ++ f.vd ++ f.pred ++ (match op with
      | .radd => 1#6 | .rmax => 2#6 | .rmin => 3#6 | .racc => 4#6 | .rwacc => 5#6 | .rfma => 6#6 | .rarg => 7#6
      | .ramax => 8#6 | .rgtopk => 9#6 | .rcvt => 10#6 | .rmxq => 11#6 | .rsplat => 12#6 | .rnzm => 13#6)).toNat
  | .flu op f => (f.rsv ++ f.boff ++ f.vd ++ f.va ++ f.cmp ++ f.fmt ++ f.xreg ++ f.fret ++ f.pred ++ (match op with
      | .fset => 1#6 | .fand => 2#6 | .for_ => 3#6)).toNat
  | .gte op f => (f.rsv ++ f.fmt ++ BitVec.ofBool f.ctren ++ f.ctr ++ BitVec.ofBool f.ra ++ BitVec.ofBool f.bmen ++ f.bmv ++
      f.rowlen ++ f.nrow ++ f.xreg ++ f.idx ++ f.dst ++ f.src ++ f.pred ++ (match op with
      | .gidx => 1#6 | .glin => 2#6 | .gpage => 3#6 | .gbag => 4#6 | _ => 0#6)).toNat
  | .dxa op f => (f.rsv ++ f.sa ++ BitVec.ofBool f.sp24 ++ BitVec.ofBool f.mx ++ f.fmt ++ f.acc ++ f.vd ++ f.vr ++ f.vq ++
      f.pred ++ (match op with
      | .dqld => 1#6 | .dscore => 2#6 | .dout => 3#6 | .dclr => 4#6)).toNat
  | .rku op f => (f.rsv ++ f.st ++ BitVec.ofBool f.dir ++ f.fmt ++ f.k ++ f.vd ++ f.vi ++ f.vs ++ f.pred ++ (match op with
      | .rkmrg => 1#6 | .rkmrgp => 2#6 | .rkout => 3#6 | .rkclr => 4#6)).toNat
  | .mov op f => (f.rsv ++ BitVec.ofBool f.inv ++ BitVec.ofBool f.ctren ++ f.ctr ++ f.len ++ f.yreg ++ f.xreg ++ f.dst ++
      f.src ++ f.pred ++ (match op with
      | .mcopy => 1#6 | .msend => 2#6 | .mred => 3#6 | .mdone => 4#6 | _ => 0#6)).toNat

/-- The slots of Table 3.1 that carry an operation, and the operations of a slot. -/
def slotCarries (n : Nat) : SlotOp → Prop
  | .qs _ => n = 0
  | .sca _ _ => n = 1 ∨ n = 2
  | .prd _ _ => n = 3
  | .ld _ f => n = if f.portB then 5 else 4
  | .st _ _ => n = 6
  | .rdu _ f => n = if f.halfB then 8 else 7
  | .flu _ _ => n = 9
  | .gte op _ => n = 10 ∧ (op = .gidx ∨ op = .glin ∨ op = .gpage ∨ op = .gbag)
  | .dxa _ f => n = 11 + f.array.toNat
  | .rku _ _ => n = 15
  | .mov op _ => n = 16 ∧ (op = .mcopy ∨ op = .msend ∨ op = .mred ∨ op = .mdone)

/-- The row of the opcode table that a slot operation is. -/
def slotRow (k : Scd) : SlotOp → Option Instr
  | .qs mask => some (.queueSlot k mask)
  | .sca .add f => some (.add k f)
  | .sca .sub f => some (.sub k f)
  | .sca .addi f => some (.addi k f)
  | .sca .mul f => some (.mul k f)
  | .sca .and f => some (.and k f)
  | .sca .or f => some (.or k f)
  | .sca .xor f => some (.xor k f)
  | .sca .shl f => some (.shl k f)
  | .sca .shr f => some (.shr k f)
  | .sca .sar f => some (.sar k f)
  | .sca .min f => some (.min k f)
  | .sca .max f => some (.max k f)
  | .sca .movi f => some (.movi k f)
  | .sca .shli f => some (.shli k f)
  | .sca .fget f => some (.fget k f)
  | .sca .cntr f => some (.cntr k f)
  | .sca .vext f => some (.vext k f)
  | .prd .pand f => some (.pand k f)
  | .prd .por f => some (.por k f)
  | .prd .pxor f => some (.pxor k f)
  | .prd .pandn f => some (.pandn k f)
  | .prd .pnot f => some (.pnot k f)
  | .prd .pset f => some (.pset k f)
  | .prd .pclr f => some (.pclr k f)
  | .prd .pany f => some (.pany k f)
  | .prd .pcmp f => some (.pcmp k f)
  | .prd .pcnt f => some (.pcnt k f)
  | .prd .pfirst f => some (.pfirst k f)
  | .prd .pfromv f => some (.pfromv k f)
  | .ld .ldv f => some (.ldv k f)
  | .ld .lds f => some (.lds k f)
  | .ld .ldx f => some (.ldx k f)
  | .ld .ldp f => some (.ldp k f)
  | .st .stv f => some (.stv k f)
  | .st .sts f => some (.sts k f)
  | .st .stp f => some (.stp k f)
  | .rdu .radd f => some (.radd k f)
  | .rdu .rmax f => some (.rmax k f)
  | .rdu .rmin f => some (.rmin k f)
  | .rdu .racc f => some (.racc k f)
  | .rdu .rwacc f => some (.rwacc k f)
  | .rdu .rfma f => some (.rfma k f)
  | .rdu .rarg f => some (.rarg k f)
  | .rdu .ramax f => some (.ramax k f)
  | .rdu .rgtopk f => some (.rgtopk k f)
  | .rdu .rcvt f => some (.rcvt k f)
  | .rdu .rmxq f => some (.rmxq k f)
  | .rdu .rsplat f => some (.rsplat k f)
  | .rdu .rnzm f => some (.rnzm k f)
  | .flu .fset f => some (.fSet k f)
  | .flu .fand f => some (.fAnd k f)
  | .flu .for_ f => some (.fOr k f)
  | .gte .gidx f => some (.gidx k f)
  | .gte .glin f => some (.glin k f)
  | .gte .gpage f => some (.gpage k f)
  | .gte .gbag f => some (.gbag k f)
  | .dxa .dqld f => some (.dqld k f)
  | .dxa .dscore f => some (.dscore k f)
  | .dxa .dout f => some (.dout k f)
  | .dxa .dclr f => some (.dclr k f)
  | .rku .rkmrg f => some (.rkmrg k f)
  | .rku .rkmrgp f => some (.rkmrgp k f)
  | .rku .rkout f => some (.rkout k f)
  | .rku .rkclr f => some (.rkclr k f)
  | .mov .mcopy f => some (.mcopy k f)
  | .mov .msend f => some (.msend k f)
  | .mov .mred f => some (.mred k f)
  | .mov .mdone f => some (.mdone k f)
  | .gte _ _ => none
  | .mov _ _ => none

/-- The register that a register row writes, and the value (the rows fix ARM, CANCEL, GO and CLR). -/
def rowTarget : Instr → Option (RegRef × Word)
  | .slotschedArm w => some (⟨.seqSlotsched, 0, 0, 0⟩, w ||| 0x80000000)
  | .slotschedCancel w => some (⟨.seqSlotsched, 0, 0, 0⟩, w ||| 0x10000000)
  | .skipctlMaskWrite w => some (⟨.seqSkipctl, 0, 0, 0⟩, w)
  | .dirAgentWrite k i w => some (⟨.dirAgent, k.toNat, i.toNat, 0⟩, w)
  | .shaperWrite (.subRate n) w => some (⟨.qosSubShr, 0, n.toNat, 0⟩, w)
  | .shaperWrite (.subBurst n) w => some (⟨.qosSubShb, 0, n.toNat, 0⟩, w)
  | .shaperWrite (.svcRate n v) w => some (⟨.qosSvcShr, 0, n.toNat, v.toNat⟩, w)
  | .shaperWrite (.svcBurst n v) w => some (⟨.qosSvcShb, 0, n.toNat, v.toNat⟩, w)
  | .meterWrite m r w =>
    some (⟨if r = 0 then .qosMetCir else if r = 1 then .qosMetPir else if r = 2 then .qosMetBurst else .qosMetCtl, 0, m.toNat, 0⟩, w)
  | .mirrorSessionWrite n w => some (⟨.qosMirA, 0, n.toNat, 0⟩, w)
  | .sampleRingConfigWrite .baseLo w => some (⟨.qosSmpBaseLo, 0, 0, 0⟩, w)
  | .sampleRingConfigWrite .baseHi w => some (⟨.qosSmpBaseHi, 0, 0, 0⟩, w)
  | .sampleRingConfigWrite .size w => some (⟨.qosSmpSize, 0, 0, 0⟩, w)
  | .logRingConfigWrite .baseLo w => some (⟨.ctlLogBaseLo, 0, 0, 0⟩, w)
  | .logRingConfigWrite .baseHi w => some (⟨.ctlLogBaseHi, 0, 0, 0⟩, w)
  | .logRingConfigWrite .size w => some (⟨.ctlLogSize, 0, 0, 0⟩, w)
  | .evtRingConfigWrite .baseLo w => some (⟨.ctlEvtBaseLo, 0, 0, 0⟩, w)
  | .evtRingConfigWrite .baseHi w => some (⟨.ctlEvtBaseHi, 0, 0, 0⟩, w)
  | .evtRingConfigWrite .size w => some (⟨.ctlEvtSize, 0, 0, 0⟩, w)
  | .subscriberMapWrite (.subA n) w => some (⟨.qosSubA, 0, n.toNat, 0⟩, w)
  | .subscriberMapWrite (.subB n) w => some (⟨.qosSubB, 0, n.toNat, 0⟩, w)
  | .subscriberMapWrite (.portcfg p) w => if p.toNat < 640 then some (⟨.qosPortcfg, 0, p.toNat, 0⟩, w) else none
  | .stackCacheInvalidateGo k => some (⟨.scdScinvCmd, k.toNat, 0, 0⟩, 0x80000000)
  | .raclr k => some (⟨.scdRaclr, k.toNat, 0, 0⟩, 1)
  | .octcfgWrite u o w => if u.toNat < 20 then some (⟨.laneOctcfg, u.toNat, o.toNat, 0⟩, w) else none
  | .lsrctlEnWrite n w => some (⟨.pheLsrctl, n.toNat, 0, 0⟩, w)
  | _ => none

/-- A write reaches a unit in service and no rule discards it. -/
def accepts (s : State) (x : RegRef) (w : Word) : Prop := s.dieOut x.addr = false ∧ s.discards x w.toNat = false

/-- The stored value of a register after a write merges into it, at once. -/
def written (s : State) (x : RegRef) (w : Word) : State :=
  { s with regs := SMap.set x.reset s.regs x.addr (BitVec.ofNat 32 (x.merge (s.get x) w.toNat)) }

/-- A piece dequeued now starts a path of its own: its home SCD is in service, its line holds nothing up (R308), R12 finds no
status, no leader combines it (R133), and its line is no orphan with agents to ask (R564). -/
def served (s : State) (x : Req) (pl : Place) (g : Option Nat) : Prop :=
  let k := s.pieceHome x
  s.scdOut k = false ∧ s.admission k x = (pl, g, .ok) ∧ (s.leader k x s.now = none ∨ s.combinable k x pl = false) ∧
  ∀ a, pl.laneAddr x.r.addr.toNat = some a →
    s.mustHold k x (a / 128) false = false ∧ (s.orphan (a / 128) = false ∨ s.agents k = [])

/-- `o` is the lane operation that the dequeue of `x` at `s` started in `t`: it carries the request and the grant entry it
passed. No register file, counter or byte in a bank has changed, and no cy has passed. -/
def laneStarted (s t : State) (x : Req) (g : Option Nat) (o : LaneOp) : Prop :=
  o ∈ t.lane.ops ∧ o.id = s.lane.nextId + 1 ∧ o.k = s.pieceHome x ∧ o.req = x ∧ o.p = s.now ∧ o.grant = g ∧
  t.scd = s.scd ∧ t.mem.bytes = s.mem.bytes ∧ t.time = s.time ∧ t.seg = s.seg ∧ t.sec.tenants = s.sec.tenants

/-- Its response is built on cy `c`, and it waits for nothing else. -/
def answersAt (t : State) (o : LaneOp) (c : Nat) : Prop :=
  o.due = c ∧ o.waits = false ∧ (c, .respond o.k o.id) ∈ t.timed

/-- The dequeue of `x` at `s` began the entry lookup of its line in `t`, which ends on cy 8 (R303); nothing else has happened yet. -/
def looksUp (s t : State) (x : Req) (kind : LookupKind) (line : Nat) (g : Option Nat) : Prop :=
  (∃ c : Carry, c.t0 = s.now ∧ c.place = s.lane.nextId ∧
    (s.now + 8, .lookup (s.pieceHome x) { kind := kind, line := line, req := x, grant := g, p := s.now, carry := c }) ∈ t.timed) ∧
  t.mem = s.mem ∧ t.scd = s.scd ∧ t.lane.held = s.lane.held ∧ t.coh.entries = s.coh.entries ∧ t.coh.txns = s.coh.txns

/-- At `s` the lookup `x` of SCD k ends, in `t`: the transaction `w` that it opened, and the snoop sent to each agent that is valid (R303,
R306). -/
def snooped (s t : State) (k : Scd) (x : Lookup) (opc : Nat) (kind : TxnKind) (agents : List (BitVec 5)) (w : Txn) : Prop :=
  w ∈ t.coh.txns ∧ w.k = k ∧ w.line = x.line ∧ w.kind = kind ∧ w.req = some x.req ∧ w.start = x.p ∧ w.before = s.dir x.line ∧
  (∀ y ∈ w.snoops, y.opc = opc ∧ y.hand = max (x.p + 16) (s.sustained x.line y.agent) ∧ (y.hand, .snoop w.k w.id y.agent) ∈ t.timed) ∧
  (w.snoops.map fun y => y.agent) = agents.filter (fun a => (s.agentPort w.k a).isSome) ∧
  w.gone = agents.filter (fun a => (s.agentPort w.k a).isNone)

/-- The value after a sub-operation of Table 11.5 on a word of `n` bits: the word, operand A, operand B. -/
def table115 (op : AtomicOp) (n v a b : Nat) : Nat :=
  match op with
  | .fadd => (v + a) % 2 ^ n
  | .fand => v &&& a
  | .for_ => v ||| a
  | .fxor => v ^^^ a
  | .fmins => if toSigned n v ≤ toSigned n a then v else a
  | .fmaxs => if toSigned n a ≤ toSigned n v then v else a
  | .fminu => if v ≤ a then v else a
  | .fmaxu => if a ≤ v then v else a
  | .swap => a
  | .cas => if v = a then b else v
  | .faddf => rduResult fmtFp32 false .nearest ((decodeFloat fmtFp32 v).add (decodeFloat fmtFp32 a))

/-- The row that dequeues a piece. -/
def pieceRow (x : Req) : Instr :=
  match x.kind with
  | .load => .load x.r | .store => .store x.r | .pstore => .pstore x.r | .put => .put x.r | .get => .get x.r
  | .publish => .publish x.r | .retr => .retr x.r
  | .red .dense => .redDenseLine x.r | .red .sparse => .redSparseLine x.r | .red .done => .redDoneLine x.r
  | .atomic .fadd => .atomicFadd x.r | .atomic .fand => .atomicFand x.r | .atomic .for_ => .atomicFor x.r
  | .atomic .fxor => .atomicFxor x.r | .atomic .fmins => .atomicFmins x.r | .atomic .fmaxs => .atomicFmaxs x.r
  | .atomic .fminu => .atomicFminu x.r | .atomic .fmaxu => .atomicFmaxu x.r | .atomic .swap => .atomicSwap x.r
  | .atomic .cas => .atomicCas x.r | .atomic .faddf => .atomicFaddf x.r
  | .rdS => .rdS x.r | .rdX => .rdX x.r | .upg => .upg x.r | .wb => .wb x.r | .wbKeep => .wbKeep x.r
  | .pushData => .pushData x.r | .ack => .ack x.r | .ackWbpend => .ackWbpend x.r | .stashAck => .stashAck x.r
  | .stashNak => .stashNak x.r

/-- A coherence request admitted and not held: its agent, and the grant entry it passed. -/
def cohServed (s : State) (x : Req) (a : BitVec 5) (g : Option Nat) : Prop :=
  let k := s.pieceHome x
  let b := x.r.addr.toNat
  s.scdOut k = false ∧ s.admission k x = (.near b, g, .ok) ∧ s.agentOn k x.r.port.toNat = some a ∧
  s.mustHold k x (b / 128) false = false

/-- Firmware has taken a command: it runs, and its trace point is written (R508, R513). -/
def begun (s : State) (c : Cmd) (opcode : Nat) : State := s.start (Cmd.running c opcode)

/-- A host command's row, its OPCODE, and the bytes of buffer it needs (Table 17.5). -/
def commandRow (c : Cmd) (i : Instr) (opcode need : Nat) : Prop :=
  (i, opcode, need) ∈ [(Instr.regRead c, 0x01, 0), (.regWrite c, 0x02, 0), (.ringCreate c, 0x03, 0), (.ringDelete c, 0x04, 0), (.segLoad c, 0x10, 0x40),
   (.segUnload c, 0x11, 0), (.segDisable c, 0x12, 0), (.extSet c, 0x20, 64), (.extGet c, 0x21, 64), (.extFill c, 0x22, 0),
   (.extFlush c, 0x23, 0), (.extEvict c, 0x24, 0), (.extDirty c, 0x25, 1), (.extReset c, 0x26, 0), (.coldDiscard c, 0x27, 0),
   (.baseReg c, 0x28, 0), (.baseDrop c, 0x29, 0), (.tenantCreate c, 0x30, 48), (.tenantRemove c, 0x31, 0), (.keyRotate c, 0x32, 0),
   (.grantSet c, 0x33, 32), (.grantGet c, 0x34, 32), (.grantRevoke c, 0x35, 0), (.spdmMsg c, 0x36, c.buflen.toNat),
   (.mapGet c, 0x40, 64), (.fabKey c, 0x41, 32), (.fwStage c, 0x50, 1), (.fwCommit c, 0x51, 0), (.fwActivate c, 0x52, 0),
   (.shutdown c, 0x62, 0)]

/-- RESET and PWR_STATE rows, which carry their KIND or level beside the command. -/
def kindRow (c : Cmd) (i : Instr) (opcode : Nat) : Prop :=
  (i, opcode) ∈ [(Instr.resetWarm c, 0x60), (.resetScd c, 0x60), (.resetTenant c, 0x60), (.pwrStateL0 c, 0x61), (.pwrStateL1 c, 0x61),
    (.pwrStateL2 c, 0x61), (.pwrStateL3 c, 0x61)]

/-- Trace points of group 1 (commands) are off, so that no log entry is written beside what a command does (R513). -/
def quietLog (s : State) : Prop := bitAt (s.rf .ctlLogCfg 31 16) 1 = false

/-- A fabric-protocol message row and its TYPE (Table 16.2). -/
def fabricRow (m : FabMsg) (i : Instr) (type : Nat) : Prop :=
  (i, type) ∈ [(Instr.heartbeat m, 1), (.propose m, 2), (.fabricAck m, 3), (.commit m, 4), (.syncReq m, 5), (.fabricState m, 6),
    (.syncData m, 7), (.loss m, 8), (.revokeDone m, 9)]

/-- The state in which the checks of a load are judged: the load is out of the list, and the descriptor that VERIFYING shows for it
is not yet a loaded segment. -/
def loading (s : State) (no : SegNo) (xs : List (Running × List Byte × Nat)) : State :=
  let u : State := { s with fw := { s.fw with loads := xs } }
  match s.segment no with
  | some g => if g.st = .verifying ∧ s.isDue (.segReady no) = false then u.eraseSegment no else u
  | none => u

/-- Memory is held in canonical form, and the clock shows a cy of a stroke. -/
def memoryKept (s : State) : Prop := SMap.canon 0 s.mem.bytes = true ∧ s.time.cy < 1536

/-- The tables of the state are in their canonical forms: register files, registers, accumulators, counters, contexts, tenants, keys,
grants, extents, bases, directory, queues; and every operation in flight has a number below the next one. -/
def tablesKept (s : State) : Prop :=
  canonical s ∧ s.regs.rising = true ∧ s.acts.rising = true ∧ s.live.rising = true ∧ s.rcx.rising = true ∧
  SMap.canon DxaTile.fresh s.scd.tiles = true ∧ s.scd.ranks.rising = true ∧ SMap.canon 0 s.scd.ctr = true ∧
  SMap.canon TenantRec.fresh s.sec.tenants = true ∧ SMap.canon KeySlot.fresh s.sec.slots = true ∧ s.sec.grants.rising = true ∧
  SMap.canon 0 s.sec.svnMin = true ∧ SMap.canon FwType.fresh s.fw.types = true ∧ s.tier.ext.rising = true ∧
  s.tier.bases.rising = true ∧ SMap.canon 0 s.tier.cold = true ∧ s.coh.entries.rising = true ∧ s.lanes.up.rising = true ∧
  s.net.planned.rising = true ∧ s.net.barrier.rising = true ∧ (∀ o ∈ s.eng.ops, o.id < s.lane.nextId) ∧
  (∀ o ∈ s.lane.ops, o.id < s.lane.nextId) ∧ (∀ x ∈ s.coh.txns, x.id < s.lane.nextId)

end Sys2Proof.Claim

section

open Sys2Proof Sys2Proof.Machine Sys2Proof.Claim

/-- The scalar operations (Table 3.9, Scalar, predicate, load and store operations): each computes its value from the registers as
they stand on the issue cy and schedules it after its latency. FGET reads the base, line count or the SCALE-and-key field of a fret
entry, CNTR an arrival counter, VEXT an element of a vector register. A result is a landing: see LandingsWriteTheirRegister. -/
def Obligations.ScalarResults : Prop :=
  (∀ (s : State) (k : Scd) (f : ScaF), acts s k f.pred → predOk f.pred false = true → fixedS f.sd = false →
    let a := s.sreg k f.sa
    let b := s.sreg k f.sb
    let imm : Dword := f.imm.signExtend 64
    exec (.add k f) s = .next (s.land 1 (.sca k f.sd (a + b))) ∧
    exec (.sub k f) s = .next (s.land 1 (.sca k f.sd (a - b))) ∧
    exec (.addi k f) s = .next (s.land 1 (.sca k f.sd (a + imm))) ∧
    exec (.mul k f) s = .next (s.land 4 (.sca k f.sd (a * b))) ∧
    exec (.min k f) s = .next (s.land 1 (.sca k f.sd (if a.toInt < b.toInt then a else b))) ∧
    exec (.max k f) s = .next (s.land 1 (.sca k f.sd (if a.toInt < b.toInt then b else a))) ∧
    exec (.movi k f) s = .next (s.land 1 (.sca k f.sd imm))) ∧
  (∀ (s : State) (k : Scd) (f : ScaF), acts s k f.pred → predOk f.pred false = true → fixedS f.sd = false →
    let a := s.sreg k f.sa
    let b := s.sreg k f.sb
    exec (.and k f) s = .next (s.land 1 (.sca k f.sd (a &&& b))) ∧
    exec (.or k f) s = .next (s.land 1 (.sca k f.sd (a ||| b))) ∧
    exec (.xor k f) s = .next (s.land 1 (.sca k f.sd (a ^^^ b))) ∧
    exec (.shl k f) s = .next (s.land 1 (.sca k f.sd (a <<< (b.toNat % 64)))) ∧
    exec (.shr k f) s = .next (s.land 1 (.sca k f.sd (a >>> (b.toNat % 64)))) ∧
    exec (.sar k f) s = .next (s.land 1 (.sca k f.sd (a.sshiftRight (b.toNat % 64)))) ∧
    exec (.shli k f) s = .next (s.land 1 (.sca k f.sd (a <<< (f.imm.toNat % 64))))) ∧
  (∀ (s : State) (k : Scd) (f : ScaF), acts s k f.pred → predOk f.pred false = true → fixedS f.sd = false →
    let e := s.fret k (BitVec.ofNat 8 f.imm.toNat)
    let sel := f.imm.toNat / 256 % 4
    (sel = 0 → exec (.fget k f) s = .next (s.land 2 (.sca k f.sd (BitVec.ofNat 64 (e.toNat % 2 ^ 57))))) ∧
    (sel = 1 → exec (.fget k f) s = .next (s.land 2 (.sca k f.sd (BitVec.signExtend 64 (BitVec.ofNat 32 (e.toNat / 2 ^ 64)))))) ∧
    (sel = 2 → exec (.fget k f) s = .next (s.land 2 (.sca k f.sd (BitVec.ofNat 64 (e.toNat / 2 ^ 96 % 2 ^ 24))))) ∧
    exec (.cntr k f) s = .next (s.land 2 (.sca k f.sd (BitVec.ofNat 64 (s.ctr k (BitVec.ofNat 9 f.imm.toNat)).toNat))) ∧
    exec (.vext k f) s =
      .next (s.land 2 (.sca k f.sd (BitVec.ofNat 64 ((s.vreg k f.sa).toNat / 2 ^ (64 * (f.imm.toNat % 64)))))))

/-- The predicate operations (Scalar, predicate, load and store operations of the Tablature): the 256 bits written to P[PD] and the
latency after which they land. The reserved comparisons of PCMP are ill-formed slots (CommandsStopOnlyWhenIllFormed). -/
def Obligations.PredicateResults : Prop :=
  (∀ (s : State) (k : Scd) (f : PrdF), acts s k f.pred → predOk f.pred false = true →
    let a := s.preg k f.pa
    let b := s.preg k f.pb
    exec (.pand k f) s = .next (s.land 1 (.prd k f.pd (a &&& b))) ∧
    exec (.por k f) s = .next (s.land 1 (.prd k f.pd (a ||| b))) ∧
    exec (.pxor k f) s = .next (s.land 1 (.prd k f.pd (a ^^^ b))) ∧
    exec (.pandn k f) s = .next (s.land 1 (.prd k f.pd (a &&& ~~~b))) ∧
    exec (.pnot k f) s = .next (s.land 1 (.prd k f.pd (~~~a))) ∧
    exec (.pset k f) s = .next (s.land 1 (.prd k f.pd (BitVec.allOnes 256))) ∧
    exec (.pclr k f) s = .next (s.land 1 (.prd k f.pd 0))) ∧
  (∀ (s : State) (k : Scd) (f : PrdF), acts s k f.pred → predOk f.pred false = true →
    let a := s.sreg k f.sa
    let b := s.sreg k f.sb
    let c := f.imm.toNat % 8
    let n := s.ctr k (BitVec.ofNat 9 f.imm.toNat)
    exec (.pany k f) s = .next (s.land 1 (.prd k f.pd (allBits (s.preg k f.pa ≠ 0)))) ∧
    (c < 6 → exec (.pcmp k f) s = .next (s.land 1 (.prd k f.pd (allBits
      ((c = 0 ∧ a = b) ∨ (c = 1 ∧ a ≠ b) ∨ (c = 2 ∧ a.toInt < b.toInt) ∨ (c = 3 ∧ a.toInt ≤ b.toInt) ∨
       (c = 4 ∧ a.toNat < b.toNat) ∨ (c = 5 ∧ a.toNat ≤ b.toNat)))))) ∧
    exec (.pcnt k f) s =
      .next (s.land 2 (.prd k f.pd (allBits ((n.toNat + 2 ^ 32 - a.toNat % 2 ^ 32) % 2 ^ 32 < 2 ^ 31)))) ∧
    exec (.pfirst k f) s = .next (s.land 1 (.prd k f.pd (BitVec.ofNat 256 (2 ^ a.toNat - 1)))) ∧
    exec (.pfromv k f) s =
      .next (s.land 2 (.prd k f.pd (BitVec.ofNat 256 ((s.vreg k f.sa).toNat / 2 ^ (256 * (f.imm.toNat % 16)))))))

/-- How a result of a chord slot reaches its register (R80, R93): `land` schedules one event, `landApply` performs it. The premise is the
canonical form of the register files and memory, which every step keeps (TablesKeptByEveryStep). -/
def Obligations.LandingsWriteTheirRegister : Prop :=
  (∀ (s : State) (lat : Nat) (x : Landing),
    s.land lat x = { s with timed := insertTimed (1536 * s.time.stroke + s.time.cy + lat) (.land x) s.timed } ∧
    (∀ e, e ∈ (s.land lat x).timed ↔ e = (1536 * s.time.stroke + s.time.cy + lat, .land x) ∨ e ∈ s.timed)) ∧
  (∀ (s : State), canonical s →
    (∀ (k : Scd) (r : BitVec 6) (mask val : Vec),
      let t := s.landApply (.vec k r mask val)
      (∀ i, (t.vreg k r).getLsbD i = if mask.getLsbD i then val.getLsbD i else (s.vreg k r).getLsbD i) ∧
      (∀ j q, (j, q) ≠ (k, r) → t.vreg j q = s.vreg j q) ∧
      t.scd.s = s.scd.s ∧ t.scd.p = s.scd.p ∧ t.scd.x = s.scd.x ∧ t.mem = s.mem) ∧
    (∀ (k : Scd) (r : BitVec 6) (val : Dword),
      let t := s.landApply (.sca k r val)
      (fixedS r = false → t.sreg k r = val) ∧ (fixedS r = true → t = s) ∧
      (∀ j q, (j, q) ≠ (k, r) → t.sreg j q = s.sreg j q) ∧
      t.scd.v = s.scd.v ∧ t.scd.p = s.scd.p ∧ t.scd.x = s.scd.x ∧ t.mem = s.mem) ∧
    (∀ (k : Scd) (r : BitVec 4) (val : Mask),
      let t := s.landApply (.prd k r val)
      t.preg k r = val ∧ (∀ j q, (j, q) ≠ (k, r) → t.preg j q = s.preg j q) ∧
      t.scd.v = s.scd.v ∧ t.scd.s = s.scd.s ∧ t.scd.x = s.scd.x ∧ t.mem = s.mem) ∧
    (∀ (k : Scd) (r : BitVec 5) (val : Vec),
      let t := s.landApply (.idx k r val)
      t.xreg k r = val ∧ (∀ j q, (j, q) ≠ (k, r) → t.xreg j q = s.xreg j q) ∧
      t.scd.v = s.scd.v ∧ t.scd.s = s.scd.s ∧ t.scd.p = s.scd.p ∧ t.mem = s.mem)) ∧
  (∀ (s : State), canonical s →
    (∀ (k : Scd) (r : BitVec 6) (mode : FluMode) (mask val : Vec) (i : Nat),
      let old := (s.vreg k r).getLsbD i
      ((s.landApply (.flu k r mode mask val)).vreg k r).getLsbD i =
        if mask.getLsbD i then
          (match mode with
            | .set => val.getLsbD i
            | .and => old && val.getLsbD i
            | .or => old || val.getLsbD i
            | .zero => false)
        else old) ∧
    (∀ (a : Nat) (bs : List Byte),
      let t := s.landApply (.store (writesAt a bs))
      (∀ i, i < bs.length → t.bankByte (a + i) = bs.getD i 0) ∧ (∀ b, b < a ∨ a + bs.length ≤ b → t.bankByte b = s.bankByte b) ∧
      t.scd = s.scd) ∧
    (∀ (k : Scd) (array acc : BitVec 2), SMap.canon DxaTile.fresh s.scd.tiles = true →
      SMap.get DxaTile.fresh (s.landApply (.tileClr k array acc)).scd.tiles (tileKey k array acc) = DxaTile.fresh) ∧
    (∀ (k : Scd) (st : BitVec 2), s.scd.ranks.rising = true →
      (s.landApply (.rankClr k st)).scd.ranks.find (rankKey k st) = none) ∧
    (∀ (k : Scd) (st : BitVec 2) (cands : List (BitVec 32 × BitVec 32)) (keep : Nat) (dir : Bool) (fmt : BitVec 4),
      let old := ((s.scd.ranks.find (rankKey k st)).map fun r => r.pairs).getD []
      (s.landApply (.merge k st cands keep dir fmt)).scd.ranks.find (rankKey k st) =
        some { pairs := rankMerge dir fmt.toNat keep old cands, dir := dir, fmt := fmt }) ∧
    (∀ (k : Scd) (array : BitVec 2) (q d fmt : Nat) (es : List (Nat × Machine.Num)),
      ∃ x, (s.landApply (.query k array q d fmt es)).scd.queries.find (queryKey k array q) = some x ∧
        (∀ i, (∀ e ∈ es, e.1 ≠ i) → x.elems.find i = ((s.scd.queries.find (queryKey k array q)).bind fun y => y.elems.find i))) ∧
    (∀ (k : Scd) (array acc : BitVec 2) (es : List (Option Machine.Num)) (fmt : Nat) (cy : Nat) (dim : Option Nat)
        (queries : List (Nat × DxaQuery)),
      SMap.canon DxaTile.fresh s.scd.tiles = true →
      (SMap.get DxaTile.fresh (s.landApply (.score k array acc es fmt false cy dim queries)).scd.tiles (tileKey k array acc)).cursor =
        (SMap.get DxaTile.fresh s.scd.tiles (tileKey k array acc)).cursor + es.length))

/-- Loads and stores (Table 3.9b, R80, R83, R85, R93). The address is `effAddr` of the fret entry, the scalar index and the
displacement. A single-bit error in the range read is corrected (R561): `correct` counts it and lists the word for rewriting, and changes
nothing else. An uncorrectable error in a read range is not covered here; ill-formed fields are those of CommandsStopOnlyWhenIllFormed. -/
def Obligations.ScratchpadAccessResults : Prop :=
  (∀ (s : State) (k : Scd) (f : LdF) (a : Nat), acts s k f.pred →
    let e := s.fret k f.fret
    let ea := effAddr e (s.sreg k f.xreg) (8 * f.imm.toNat)
    let ok (n align : Nat) (kinds : List Nat) : Prop :=
      ea = (a : Int) ∧ fretKind e ∈ kinds ∧ (fretBase e : Int) ≤ ea ∧ ea + n ≤ fretBase e + 128 * fretExtent e ∧ a % align = 0 ∧
      windowOf k ≤ a ∧ a + n ≤ windowOf k + 0x1800000 ∧ s.engGranted s.segTenant 0 a n = true ∧ s.uncorrectable a n = false
    let mem (n : Nat) : List Byte := (List.range n).map fun i => s.bankByte (a + i)
    (predOk f.pred true = true → ok 512 64 [1, 2, 4] →
      exec (.ldv k f) s = .next ((s.correct a 512).land 8 (.vec k f.dst (s.activeBits k f.pred 16 256) (vecOfBytes (mem 512))))) ∧
    (predOk f.pred false = true → fixedS f.dst = false → ok 8 8 [1, 2] →
      exec (.lds k f) s = .next ((s.correct a 8).land 6 (.sca k f.dst (BitVec.ofNat 64 (leNat (mem 8)))))) ∧
    (predOk f.pred false = true → f.dst.toNat < 32 → ok 512 64 [1, 2] →
      exec (.ldx k f) s = .next ((s.correct a 512).land 8 (.idx k (BitVec.ofNat 5 f.dst.toNat) (vecOfBytes (mem 512))))) ∧
    (predOk f.pred false = true → f.dst.toNat < 16 → ok 32 32 [1, 2, 4] →
      exec (.ldp k f) s = .next ((s.correct a 32).land 6 (.prd k (BitVec.ofNat 4 f.dst.toNat) (BitVec.ofNat 256 (leNat (mem 32))))))) ∧
  (∀ (s : State) (k : Scd) (f : StF) (a : Nat), acts s k f.pred →
    let e := s.fret k f.fret
    let ea := effAddr e (s.sreg k f.xreg) (8 * f.imm.toNat)
    let ok (n align : Nat) (kinds : List Nat) : Prop :=
      ea = (a : Int) ∧ fretKind e ∈ kinds ∧ (fretBase e : Int) ≤ ea ∧ ea + n ≤ fretBase e + 128 * fretExtent e ∧ a % align = 0 ∧
      windowOf k ≤ a ∧ a + n ≤ windowOf k + 0x1800000 ∧ s.engGranted s.segTenant 1 a n = true
    (predOk f.pred true = true → ok 512 64 [1, 2, 4] →
      exec (.stv k f) s = .next (s.land 1 (.store
        ((writesAt a (vecBytes (s.vreg k f.src))).filter fun w => s.active k f.pred (w.1 - a))))) ∧
    (predOk f.pred false = true → ok 8 8 [1, 2] →
      exec (.sts k f) s = .next (s.land 1 (.store (writesAt a (leBytes 8 (s.sreg k f.src).toNat))))) ∧
    (predOk f.pred false = true → f.src.toNat < 16 → ok 32 32 [1, 2, 4] →
      exec (.stp k f) s = .next (s.land 1 (.store (writesAt a (leBytes 32 (s.preg k (BitVec.ofNat 4 f.src.toNat)).toNat)))))) ∧
  (∀ (s : State) (a n : Nat),
    (s.softWords a n = [] → s.correct a n = s) ∧
    (∃ live rewrite, s.correct a n = { s with live := live, mem := { s.mem with rewrite := rewrite } }))

/-- Gating (R73, R74) and chord faults (R85): a slot with a false gate changes nothing; a load or store for which `ldAddr` or `stAddr`
gives no address is a chord fault recorded under its slot number. That a gated RDU slot still draws from the rounding generator is the
model's reading (log entry 9). -/
def Obligations.GatesAndChordFaults : Prop :=
  (∀ (s : State) (k : Scd),
    (∀ f : ScaF, ¬acts s k f.pred → ∀ i ∈ [Instr.add k f, .sub k f, .addi k f, .mul k f, .and k f, .or k f, .xor k f, .shl k f,
      .shr k f, .sar k f, .min k f, .max k f, .movi k f, .shli k f, .fget k f, .cntr k f, .vext k f],
      i.wellFormed = true → exec i s = .next s) ∧
    (∀ f : PrdF, ¬acts s k f.pred → ∀ i ∈ [Instr.pand k f, .por k f, .pxor k f, .pandn k f, .pnot k f, .pset k f, .pclr k f,
      .pany k f, .pcmp k f, .pcnt k f, .pfirst k f, .pfromv k f], i.wellFormed = true → exec i s = .next s) ∧
    (∀ f : LdF, ¬acts s k f.pred → ∀ i ∈ [Instr.ldv k f, .lds k f, .ldx k f, .ldp k f],
      i.wellFormed = true → exec i s = .next s) ∧
    (∀ f : StF, ¬acts s k f.pred → ∀ i ∈ [Instr.stv k f, .sts k f, .stp k f], i.wellFormed = true → exec i s = .next s) ∧
    (∀ f : FluF, ¬acts s k f.pred → ∀ i ∈ [Instr.fSet k f, .fAnd k f, .fOr k f], i.wellFormed = true → exec i s = .next s) ∧
    (∀ f : DxaF, ¬acts s k f.pred → ∀ i ∈ [Instr.dqld k f, .dscore k f, .dout k f, .dclr k f],
      s.takes i = true → exec i s = .next s) ∧
    (∀ f : RkuF, ¬acts s k f.pred → ∀ i ∈ [Instr.rkmrg k f, .rkmrgp k f, .rkout k f, .rkclr k f],
      s.takes i = true → exec i s = .next s) ∧
    (∀ f : RduF, ¬acts s k f.pred → ∀ p ∈ [(RduOp.radd, Instr.radd k f), (.rmax, .rmax k f), (.rmin, .rmin k f),
      (.racc, .racc k f), (.rwacc, .rwacc k f), (.rfma, .rfma k f), (.rarg, .rarg k f), (.ramax, .ramax k f),
      (.rgtopk, .rgtopk k f), (.rcvt, .rcvt k f), (.rmxq, .rmxq k f), (.rsplat, .rsplat k f), (.rnzm, .rnzm k f)],
      p.2.wellFormed = true → exec p.2 s = .next (if s.scdOut k then s else drawn s p.1 k f))) ∧
  (∀ (s : State) (k : Scd),
    (∀ f : LdF, acts s k f.pred →
      (ldOk .ldv f = true → s.ldAddr .ldv k f = none → exec (.ldv k f) s = .next (s.chordFault k (if f.portB then 5 else 4))) ∧
      (ldOk .lds f = true → s.ldAddr .lds k f = none → exec (.lds k f) s = .next (s.chordFault k (if f.portB then 5 else 4))) ∧
      (ldOk .ldx f = true → s.ldAddr .ldx k f = none → exec (.ldx k f) s = .next (s.chordFault k (if f.portB then 5 else 4))) ∧
      (ldOk .ldp f = true → s.ldAddr .ldp k f = none → exec (.ldp k f) s = .next (s.chordFault k (if f.portB then 5 else 4)))) ∧
    (∀ f : StF, acts s k f.pred →
      (stOk .stv f = true → s.stAddr .stv k f = none → exec (.stv k f) s = .next (s.chordFault k 6)) ∧
      (stOk .sts f = true → s.stAddr .sts k f = none → exec (.sts k f) s = .next (s.chordFault k 6)) ∧
      (stOk .stp f = true → s.stAddr .stp k f = none → exec (.stp k f) s = .next (s.chordFault k 6))) ∧
    (s.regs.rising = true → ∀ slot : Nat,
      (s.chordFault k slot).rv .scdChordflt k.toNat = (s.rv .scdChordflt k.toNat + 1) % 2 ^ 32 ∧
      (s.chordFault k slot).scd.v = s.scd.v ∧ (s.chordFault k slot).scd.s = s.scd.s ∧ (s.chordFault k slot).scd.p = s.scd.p ∧
      (s.chordFault k slot).scd.x = s.scd.x ∧ (s.chordFault k slot).mem = s.mem ∧ (s.chordFault k slot).timed = s.timed))

/-- Element-wise reduce operations (Table 4.2, R112, R113, R187 to R198). The value of each element is said by `rduResult` and
`pickElem` on the exact values of the operands. -/
def Obligations.ReduceElementwiseResults : Prop :=
  ∀ (s : State) (k : Scd) (f : RduF), acts s k f.pred →
    let n := fmtCount f.fmt.toNat
    let w := fmtWidth f.fmt.toNat
    let o := f.ofmt.toNat
    let rd (op : RduOp) (j : Nat) := rduRnd f (drawList s op k f) j
    let raw (r : BitVec 6) (j : Nat) := elemAt w (s.vreg k r).toNat j
    let put (op : RduOp) (g : Nat → Nat) := (drawn s op k f).land op.lat
      (.vec k f.vd (s.activeBits k f.pred w n) (BitVec.ofNat 4096 (packElems w ((List.range n).map g))))
    let wt := decodeFloat fmtFp32 ((s.sreg k f.sa).toNat % 2 ^ 32)
    (rduOk .radd f = true → exec (.radd k f) s =
      .next (put .radd fun j => rduResult o f.sat (rd .radd j) ((numA s k f j).add (numB s k f j)))) ∧
    (rduOk .rmax f = true → exec (.rmax k f) s =
      .next (put .rmax fun j => pickElem o f.sat f.mx false (numA s k f j) (numB s k f j) (raw f.va j) (raw f.vb j))) ∧
    (rduOk .rmin f = true → exec (.rmin k f) s =
      .next (put .rmin fun j => pickElem o f.sat f.mx true (numA s k f j) (numB s k f j) (raw f.va j) (raw f.vb j))) ∧
    (rduOk .rfma f = true → exec (.rfma k f) s =
      .next (put .rfma fun j => rduResult o f.sat (rd .rfma j) ((numB s k f j).add (wt.mul (numA s k f j)))))

/-- Accumulation of a part of a vector register into accumulator lanes (Table 4.2, R201 to R205). -/
def Obligations.ReduceAccumulateResults : Prop :=
  ∀ (s : State) (k : Scd) (f : RduF), acts s k f.pred →
    let o := f.ofmt.toNat
    let wt := decodeFloat fmtFp32 ((s.sreg k f.sa).toNat % 2 ^ 32)
    let act (j : Nat) := s.active k f.pred (fmtWidth f.fmt.toNat * j / 8)
    let old (j : Nat) := numOf o (elemAt (fmtWidth o) (s.vreg k f.vd).toNat j)
    let m := if o = fmtInt64 then 64 else 128
    (rduOk .racc f = true → exec (.racc k f) s = .next ((drawn s .racc k f).land 4
      (partLanding k f.vd (fmtWidth o) 0 m (fun j => act (m * f.vb.toNat + j)) fun j =>
        rduResult o f.sat .nearest ((old j).add (numA s k f (m * f.vb.toNat + j)))))) ∧
    (rduOk .rwacc f = true → exec (.rwacc k f) s = .next ((drawn s .rwacc k f).land 5
      (partLanding k f.vd 32 0 128 (fun j => act (128 * f.vb.toNat + j)) fun j =>
        rduResult o f.sat .nearest ((old j).add (wt.mul (numA s k f (128 * f.vb.toNat + j)))))))

/-- Argmax and gate top-k (R116 to R120). The exponentials behind RGTOPK keep a free value within the 2 ulp the spec allows (log entry 14,
DESIGN CHOICE); the statement holds for every value of it. -/
def Obligations.ReduceSelectResults : Prop :=
  ∀ (s : State) (k : Scd) (f : RduF), acts s k f.pred →
    let i := f.fmt.toNat
    let act (j : Nat) := s.active k f.pred (fmtWidth i * j / 8)
    let cands (n : Nat) := (List.range n).filterMap fun j => if act j then some (numA s k f j, j) else none
    let c := (s.sreg k f.sa).toNat
    let e := c / 2 ^ 8 % 2 ^ 8 + 1
    (rduOk .rarg f = true → ∃ value index : Nat,
      exec (.rarg k f) s = .next ((drawn s .rarg k f).land 8
        (.vec k f.vd (ones (64 * f.vb.toNat) 64) (BitVec.ofNat 4096 ((value + index * 2 ^ 32) <<< (64 * f.vb.toNat))))) ∧
      (bestOf (cands (fmtCount i)) = none → index = 0xFFFFFFFF ∧ value = if isIntFmt i then 0x80000000 else 0xFF800000) ∧
      (∀ x j, bestOf (cands (fmtCount i)) = some (x, j) →
        value = rduResult f.ofmt.toNat f.sat .nearest x ∧ index = (c + j) % 2 ^ 32)) ∧
    (rduOk .ramax f = true → exec (.ramax k f) s = .next ((drawn s .ramax k f).land 4
      (.vec k f.vd
        (BitVec.ofNat 4096 (packElems 64 ((List.range 64).map fun j => if s.active k f.pred (8 * j) then 2 ^ 64 - 1 else 0)))
        (packPairs ((List.range 64).map fun j =>
          let a := pairAt (s.vreg k f.va) j
          let b := pairAt (s.vreg k f.vb) j
          let r := (numOf i a.1).rank (numOf i b.1)
          let y := if r = .gt then a else if r = .lt then b else if b.2 < a.2 then b else a
          if (numOf i y.1).isNan then (rduResult f.ofmt.toNat false .nearest .nan, y.2) else y))))) ∧
    (rduOk .rgtopk f = true → c / 2 ^ 16 = 0 → c / 2 ^ 6 % 4 = 0 → e ≤ fmtCount i →
      exec (.rgtopk k f) s = .next ((drawn s .rgtopk k f).land 24
        (.vec k f.vd (BitVec.allOnes 4096) (packPairs (gateTopK f.sat (c / 2 ^ 4 % 4) (c % 2 ^ 4 + 1) (cands e)))))) ∧
    (rduOk .rgtopk f = true → ¬(c / 2 ^ 16 = 0 ∧ c / 2 ^ 6 % 4 = 0 ∧ e ≤ fmtCount i) →
      exec (.rgtopk k f) s = .next (((drawn s .rgtopk k f).land 24
        (.vec k f.vd (BitVec.allOnes 4096) 0)).chordFault k (if f.halfB then 8 else 7)))

/-- Conversions, splat and non-zero map (Table 4.2, R111, R199, R200). Where part q of RCVT stands is the model's reading (log entry 31,
DEDUCED). -/
def Obligations.ReduceConvertResults : Prop :=
  ∀ (s : State) (k : Scd) (f : RduF), acts s k f.pred →
    let i := f.fmt.toNat
    let o := f.ofmt.toNat
    let w := fmtWidth i
    let wo := fmtWidth o
    let wt := decodeFloat fmtFp32 ((s.sreg k f.sa).toNat % 2 ^ 32)
    let act (j : Nat) := s.active k f.pred (w * j / 8)
    let m := if i = fmtInt64 ∨ o = fmtInt64 then 64 else 128
    let q := if f.mx then (s.sreg k f.sa).toNat / 2 ^ 32 else f.vc.toNat
    (rduOk .rcvt f = true → o ≠ fmtE3M2 → m * (q + 1) ≤ fmtCount o →
      exec (.rcvt k f) s = .next ((drawn s .rcvt k f).land 6
        (partLanding k f.vd wo (m * q) m (fun j => act (m * f.vb.toNat + j)) fun j =>
          convert i o f.sat (rduRnd f (drawList s .rcvt k f) j) (wt.mul (numA s k f (m * f.vb.toNat + j)))))) ∧
    (rduOk .rcvt f = true → fmtCount o < m * (q + 1) →
      exec (.rcvt k f) s = .next ((drawn s .rcvt k f).chordFault k (if f.halfB then 8 else 7))) ∧
    (rduOk .rcvt f = true → o = fmtE3M2 → m * (q + 1) ≤ fmtCount o → ∃ mask val,
      partLanding k f.vd wo (m * q) m (fun j => act (m * f.vb.toNat + j)) (fun j =>
        convert i o f.sat (rduRnd f (drawList s .rcvt k f) j) (wt.mul (numA s k f (m * f.vb.toNat + j)))) = .vec k f.vd mask val ∧
      exec (.rcvt k f) s = .next ((drawn s .rcvt k f).land 6 (.vec k f.vd (mask ||| ones 3840 256) val))) ∧
    (rduOk .rsplat f = true → exec (.rsplat k f) s = .next ((drawn s .rsplat k f).land 2
      (.vec k f.vd (s.activeBits k f.pred wo (fmtCount o)) (BitVec.ofNat 4096
        (packElems wo (List.replicate (fmtCount o) ((s.sreg k f.sa).toNat % 2 ^ wo))))))) ∧
    (rduOk .rnzm f = true → exec (.rnzm k f) s = .next ((drawn s .rnzm k f).land 3
      (.vec k f.vd (BitVec.allOnes 4096) (BitVec.ofNat 4096 (packElems 64 ((List.range 64).map fun b =>
        packElems 1 ((List.range 64).map fun j =>
          let e := 64 * b + j
          if e < fmtCount i ∧ act e = true ∧ isZeroNum (numOf i (elemAt w (s.vreg k f.va).toNat e)) = false then 1 else 0)))))))

/-- Block quantisation (R192): `quantBlock` gives the scale and the elements of a block. -/
def Obligations.ReduceQuantizeResults : Prop :=
  ∀ (s : State) (k : Scd) (f : RduF), acts s k f.pred → rduOk .rmxq f = true →
    let o := f.ofmt.toNat
    let p := f.vb.toNat
    let act (j : Nat) := s.active k f.pred (4 * j)
    let block (b : Nat) := quantBlock o (rduRnd f (drawList s .rmxq k f)) (32 * b)
      ((List.range 32).map fun j => numA s k f (128 * p + 32 * b + j))
      ((List.range 32).map fun j => act (128 * p + 32 * b + j))
    ∃ mask val,
      partLanding k f.vd (fmtWidth o) (128 * p) 128 (fun i => act (128 * p + i)) (fun i => (block (i / 32)).2.getD (i % 32) 0) =
        .vec k f.vd mask val ∧
      exec (.rmxq k f) s = .next (((drawn s .rmxq k f).land 8
          (.vec k f.vd (if o = fmtE3M2 then mask ||| ones 3840 256 else mask) val)).land 8
        (partLanding k f.vc 8 (4 * p) 4 (fun b => (List.range 32).any fun j => act (128 * p + 32 * b + j))
          fun b => (block b).1))

/-- The filter unit (Table 5.3, R143 to R147). -/
def Obligations.FilterSelectionResults : Prop :=
  ∀ (s : State) (k : Scd) (f : FluF) (a : Nat), acts s k f.pred → fluOk f = true →
    let e := s.fret k f.fret
    let w := fmtWidth f.fmt.toNat
    let n := fmtCount f.fmt.toNat
    let at_ := 128 * f.boff.toNat
    (effAddr e (s.sreg k f.xreg) 0 = (a : Int) ∧ (fretKind e = 1 ∨ fretKind e = 2) ∧ fretBase e ≤ a ∧
      a + 512 ≤ fretBase e + 128 * fretExtent e ∧ a % 64 = 0 ∧ windowOf k ≤ a ∧ a + 512 ≤ windowOf k + 0x1800000 ∧
      s.engGranted s.segTenant 0 a 512 = true ∧ s.uncorrectable a 512 = false) →
    let col := leNat ((List.range 512).map fun i => s.bankByte (a + i))
    let mask := BitVec.ofNat 4096
      (packElems 1 ((List.range n).map fun i => if s.active k f.pred (w * i / 8) then 1 else 0) <<< at_)
    let val := BitVec.ofNat 4096
      (packElems 1 ((List.range n).map fun i =>
        if fluCmp f.fmt.toNat f.cmp.toNat (s.vreg k f.va) (elemAt w col i) then 1 else 0) <<< at_)
    let out (mode : FluMode) : State :=
      let t := (s.correct a 512).land 10 (.flu k f.vd mode mask val)
      if f.fmt.toNat = fmtInt64 then t.land 10 (.flu k f.vd .zero (ones (at_ + 64) 64) 0) else t
    exec (.fSet k f) s = .next (out .set) ∧ exec (.fAnd k f) s = .next (out .and) ∧ exec (.fOr k f) s = .next (out .or)

/-- The distance arrays (R160 to R171). What DOUT shows where the spec states no value, and the sum of squares of a query, are the model's
readings (log entry 30). -/
def Obligations.DistanceResults : Prop :=
  ∀ (s : State) (k : Scd) (f : DxaF), acts s k f.pred → s.noDistance = false →
    let fmt := f.fmt.toNat
    let c := (s.sreg k f.sa).toNat
    let xs := s.dxaElems k f.vq fmt f.mx
    let first := fmtCount fmt * (c % 2 ^ 16)
    let d := c / 2 ^ 32 % 2 ^ 16 + 1
    (dxaOk .dqld f = true → s.dqldBad k f c = false →
      exec (.dqld k f) s = .next (s.land 2 (.query k f.array (c / 2 ^ 16 % 8) d fmt
        ((List.range (fmtCount fmt)).filterMap fun i =>
          if first + i < d && s.active k f.pred (fmtWidth fmt * i / 8) then some (first + i, xs.getD i .zero) else none)))) ∧
    (dxaOk .dqld f = true → s.dqldBad k f c = true → exec (.dqld k f) s = .next (s.chordFault k (11 + f.array.toNat))) ∧
    (dxaOk .dscore f = true → exec (.dscore k f) s =
      .next (s.land 4 (.score k f.array f.acc (s.dxaStream k f).1 fmt (s.dxaStream k f).2 s.time.cy
        ((s.arrayShape k f.array).map fun x => x.1)
        ((List.range 8).filterMap fun q => (s.scd.queries.find (queryKey k f.array q)).map fun x => (q, x))))) ∧
    (dxaOk .dclr f = true → exec (.dclr k f) s = .next (s.land 1 (.tileClr k f.array f.acc))) ∧
    (dxaOk .dout f = true →
      let shape := (List.range 8).findSome? fun q => s.scd.queries.find (queryKey k f.array q)
      let t := SMap.get DxaTile.fresh s.scd.tiles (tileKey k f.array f.acc)
      let metric := c / 2 ^ 4 % 4
      let fmt' := match shape with
        | some x => x.fmt
        | none => if t.cursor = 0 ∧ metric = 3 then fmtBin1 else t.fmt
      let qq := match s.scd.queries.find (queryKey k f.array (c % 8)) with
        | some y => y.sumSq
        | none => 0
      let scores (g : Nat → Nat) : State :=
        s.land 8 (.vec k f.vd (s.activeBits k f.pred 32 128) (BitVec.ofNat 4096 (packElems 32 ((List.range 128).map g))))
      let good : Prop := c / 2 ^ 6 = 0 ∧ c / 2 ^ 3 % 2 = 0 ∧ (metric = 3 ↔ fmt' = fmtBin1)
      (good → exec (.dout k f) s = .next (scores fun slot =>
        match shape with
        | none => unfilled fmt' metric
        | some x =>
          if t.cursor < (slot + 1) * x.dim then unfilled fmt' metric
          else dxaScore fmt' metric qq (SMap.get 0 t.dot (128 * (c % 8) + slot)) (SMap.get 0 t.sqr slot))) ∧
      (¬good → exec (.dout k f) s =
        .next ((scores fun _ => unfilled fmt' metric).chordFault k (11 + f.array.toNat))))

/-- The rank unit (R172 to R176). The ordering clause is about INT32 scores. The filler of RKOUT under DIR is the model's reading (log entry
30). -/
def Obligations.RankResults : Prop :=
  (∀ (s : State) (k : Scd) (f : RkuF), acts s k f.pred → s.noDistance = false →
    let fmt := f.fmt.toNat
    let vs (i : Nat) := BitVec.ofNat 32 (elemAt 32 (s.vreg k f.vs).toNat i)
    let vi (i : Nat) := BitVec.ofNat 32 (elemAt 32 (s.vreg k f.vi).toNat i)
    let keep (byte : Nat) (c : BitVec 32 × BitVec 32) := s.active k f.pred byte && c.2 != 0xFFFFFFFF && !(numOf fmt c.1.toNat).isNan
    let held := match s.scd.ranks.find (rankKey k f.st) with
      | some r => r.pairs
      | none => []
    let none_ := (if fmt = fmtFp32 then 0x7FC00000 else if f.dir then 0x7FFFFFFF else 0x80000000, 0xFFFFFFFF)
    (rkuOk .rkmrg f = true → exec (.rkmrg k f) s = .next (s.land 12 (.merge k f.st
      ((List.range 128).filterMap fun j => if keep (4 * j) (vs j, vi j) then some (vs j, vi j) else none)
      (f.k.toNat + 1) f.dir f.fmt))) ∧
    (rkuOk .rkmrgp f = true → exec (.rkmrgp k f) s = .next (s.land 12 (.merge k f.st
      ((List.range 64).filterMap fun j =>
        if keep (8 * j) (vs (2 * j), vs (2 * j + 1)) then some (vs (2 * j), vs (2 * j + 1)) else none)
      (f.k.toNat + 1) f.dir f.fmt))) ∧
    (rkuOk .rkout f = true → exec (.rkout k f) s = .next (s.land 4 (.vec k f.vd (s.activeBits k f.pred 64 64)
      (packPairs ((List.range 64).map fun j =>
        ((held[64 * f.k.toNat + j]?).map fun x => (x.1.toNat, x.2.toNat)).getD none_))))) ∧
    (rkuOk .rkclr f = true → exec (.rkclr k f) s = .next (s.land 1 (.rankClr k f.st)))) ∧
  (∀ (dir : Bool) (fmt keep : Nat) (old cands : List (BitVec 32 × BitVec 32)), fmt = fmtInt32 →
    old.Pairwise (fun a b => ranksBefore dir fmt b a = false) →
    (rankMerge dir fmt keep old cands).Pairwise (fun a b => ranksBefore dir fmt b a = false) ∧
    (rankMerge dir fmt keep old cands).length = min keep (old.length + cands.length))

/-- Engine operations at issue (Table 5.1, R140, R272, R273, R589); RA 1 on chords 1,392 to 1,407 is a reserved field value (R226). -/
def Obligations.EngineOperationIssued : Prop :=
  ∀ (s : State) (k : Scd) (g : GteF) (m : MovF),
    (∀ x ∈ s.eng.ops, x.id < s.lane.nextId) →
    let issued (gte : Bool) (kind : EngKind) (t : State) : Prop :=
      let key := 2 * k.toNat + (if gte then 0 else 1)
      let free := SMap.get 0 s.eng.busy key
      ∃ o : EngOp, t.eng.ops = s.eng.ops ++ [o] ∧ o.id = s.lane.nextId ∧ t.lane.nextId = s.lane.nextId + 1 ∧ o.k = k ∧
        o.kind = kind ∧ o.gte = gte ∧ o.issue = s.now ∧ o.seg = s.time.running ∧ o.tenant = s.segTenant ∧
        o.epoch = (s.tenant s.segTenant).epoch ∧
        (gte = true → o.gf = g ∧ o.sx = s.sreg k g.xreg ∧ o.xidx = s.xreg k g.idx ∧ o.src = s.fret k g.src ∧ o.dst = s.fret k g.dst) ∧
        (gte = false → o.mf = m ∧ o.sx = s.sreg k m.xreg ∧ o.sy = s.sreg k m.yreg ∧ o.src = s.fret k m.src ∧
          o.dst = s.fret k m.dst) ∧
        o.occ = o.occupancy ∧ SMap.get 0 t.eng.busy key = max s.now free + o.occ ∧
        (o.begun = true ↔ free ≤ s.now ∧ ∀ x ∈ s.eng.ops, x.holds o = false) ∧
        t.scd = s.scd ∧ t.mem = s.mem
    let early := g.ra = true → s.time.cy ≤ 1391
    let room (gte : Bool) : Prop := (s.eng.ops.filter fun x => x.k == k && x.gte == gte).length < 1024
    (acts s k g.pred → early → room true →
      (gteOk .gidx g = true → ∃ t, exec (.gidx k g) s = .next t ∧ issued true .gidx t) ∧
      (gteOk .glin g = true → ∃ t, exec (.glin k g) s = .next t ∧ issued true .glin t) ∧
      (gteOk .gpage g = true → ∃ t, exec (.gpage k g) s = .next t ∧ issued true .gpage t) ∧
      (gteOk .gbag g = true → ∃ t, exec (.gbag k g) s = .next t ∧ issued true .gbag t)) ∧
    (acts s k m.pred → room false →
      (movOk .mcopy m = true → ∃ t, exec (.mcopy k m) s = .next t ∧ issued false .mcopy t) ∧
      (movOk .msend m = true → ∃ t, exec (.msend k m) s = .next t ∧ issued false .msend t) ∧
      (movOk .mred m = true → ∃ t, exec (.mred k m) s = .next t ∧ issued false .mred t) ∧
      (movOk .mdone m = true → ∃ t, exec (.mdone k m) s = .next t ∧ issued false .mdone t)) ∧
    (¬early → exec (.gidx k g) s = .refused (.reservedSlot "GIDX") ∧ exec (.glin k g) s = .refused (.reservedSlot "GLIN") ∧
      exec (.gpage k g) s = .refused (.reservedSlot "GPAGE") ∧ exec (.gbag k g) s = .refused (.reservedSlot "GBAG"))

/-- The engine events as rows (R141, R142, R153, R223, R272, R273, R589): GTE_BITMAP_READ, ENGINE_OP_COMPLETE and ENGINE_CARRIED_START name
an event with a cy of its own, and ENGINE_HOLD_RELEASE lets the clock run until the holders have completed (log entry 3). -/
def Obligations.EngineRowResults : Prop :=
  ∀ (s : State) (k : Scd) (id : Nat),
    (∀ o c, s.eng.ops.find? (fun x => x.id == id) = some o → o.k = k → o.bmLater = true → eventAt s (.bitmap k id) c →
      ∃ t o', momentRow s (.gteBitmapRead k id) c t ∧ t.eng.ops.find? (fun x => x.id == id) = some o' ∧
        o'.bm = s.vreg k o.gf.bmv ∧ o'.bmLater = false ∧ o'.prefix_ = [] ∧ t.scd = s.scd ∧ t.mem = s.mem ∧
        (∀ m ∈ o.prefix_, o'.selected (m / o.rowLines) = false → ∀ e ∈ t.timed, e.2 ≠ .capture k id m)) ∧
    (∀ o c, s.eng.ops.find? (fun x => x.id == id) = some o → o.k = k → s.sectorsLeft id = [] → eventAt s (.engine k id) c →
      ∃ t, momentRow s (.engineOpComplete k id) c t ∧ (∀ x ∈ t.eng.ops, x.id ≠ id) ∧
        (o.ctrOn = true → (s.now + 1, .count k (if o.status = .ok then o.ctr else o.ctr ^^^ 0x100) 1) ∈ t.timed)) ∧
    (∀ o c, s.eng.ops.find? (fun x => x.id == id) = some o → o.k = k → o.begun = false → o.carried = true →
      eventAt s (.takeEngine k id) c →
      ∃ t o', momentRow s (.engineCarriedStart k id) c t ∧ t.eng.ops.find? (fun x => x.id == id) = some o' ∧ o'.carried = false ∧
        o'.begun = o.holders.isEmpty ∧ t.scd = s.scd ∧ t.mem = s.mem) ∧
    (∀ e i, (e, i) ∈ [(Timed.bitmap k id, Instr.gteBitmapRead k id), (.engine k id, .engineOpComplete k id),
        (.takeEngine k id, .engineCarriedStart k id)] → s.timed.find? (fun x => x.2 == e) = none → exec i s = .next s) ∧
    (∃ n, n ≤ holdFuel ∧ exec (.engineHoldRelease k id) s = .next (State.run n s) ∧
      (∀ m < n, (State.run m s).engHeld k id = true) ∧ (n < holdFuel → (State.run n s).engHeld k id = false))

/-- The slot field layouts (Tables 3.1 and 3.10): no bit of a slot operation is dropped or moved. -/
def Obligations.SlotEncodingRoundTrip : Prop :=
  ∀ (c : BitVec 1024) (n : Nat) (o : SlotOp), slotCarries n o → slotBits c n = slotWord o → decodeSlot c n = some o

/-- How a chord relates to the rows of its slots (R42, R61). That CHORD_ISSUE runs the clock to its cy, and a slot row acts alone, is log entry
2. -/
def Obligations.ChordIssuesItsSlots : Prop :=
  ∀ (s : State),
    (∀ (k : Scd) (o : SlotOp) (i : Instr), s.scdOut k = false → slotRow k o = some i → s.takes i = true →
      exec i s = .next (s.issueSlot k o)) ∧
    (∀ c, s.time.skipped = false → s.seqDark = false → s.idleChord (s.chordAt c) = false →
      s.chordIssue c = s.scds.foldl (fun s k => (s.chordAt c).foldl (fun s o => s.issueSlot k o.2) s) s) ∧
    (∀ c, s.time.skipped = true → s.chordIssue c = s)

/-- R42: `issueNow` is what the clock does of chords on each cy, and it is called once per cy. -/
def Obligations.ChordsIssueOnTheirCy : Prop :=
  ∀ (s : State),
    (s.chordsOn = true → s.time.cy ≤ 1407 → s.issueNow = s.chordIssue s.time.cy) ∧
    (1408 ≤ s.time.cy → s.issueNow = s) ∧ (s.chordsOn = false → s.issueNow = s)

/-- R47: `latchNext` latches a change, `duesApply` performs at cy 0 the changes whose stroke has come. -/
def Obligations.ChangesTakeEffectAtTheirStroke : Prop :=
  (∀ (s : State) (d : Due),
    (s.time.cy < 1472 → s.latchNext d = { s with due := s.due ++ [(s.time.stroke + 1, d)] }) ∧
    (1472 ≤ s.time.cy → s.latchNext d = { s with due := s.due ++ [(s.time.stroke + 2, d)] })) ∧
  (∀ (s : State) (n : Nat) (d : Due), s.due = [(n, d)] →
    (s.time.stroke < n → s.duesApply = s) ∧
    (s.time.stroke = n → s.duesApply = ({ s with due := [] } : State).dueApply d))

/-- The step of the block. That an empty queue lets one cy pass is the model's choice (log entry 1, DESIGN CHOICE). -/
def Obligations.StepRunsTheQueue : Prop :=
  (∀ (s : State) (c : Instr) (rest : List Instr),
    step { s with pending := c :: rest } = exec c { s with pending := rest }) ∧
  (∀ (s : State), s.pending = [] → step s = .next s.advance ∧ (s.asleep = true → step s = .next s))

/-- `State.takes` is the condition on the command and the variant of the device alone: well-formed slot fields (R71, R72), run-ahead only where R226 allows it, existing ports,
stacks and cores. Everything else the device answers. -/
def Obligations.CommandsStopOnlyWhenIllFormed : Prop :=
  (∀ (s : State) (i : Instr), s.takes i = true → ∃ t, exec i s = .next t) ∧
  (∀ (s : State) (i : Instr),
    (∀ f, exec i s ≠ .fault f) ∧
    (∀ r, exec i s = .refused r → s.takes i = false ∧ ∃ m, r = .reservedSlot m ∨ r = .reservedOperand m))

/-- The invariant of memory and of the clock, over every command and over the clock itself. -/
def Obligations.MemoryAndClockKeptByEveryStep : Prop :=
  ∀ (s t : State), memoryKept s → step s = .next t → memoryKept t

/-- The invariant of every keyed table of the state: the premises of the other statements, over every command and over the clock. -/
def Obligations.TablesKeptByEveryStep : Prop :=
  ∀ (s t : State), tablesKept s → step s = .next t → tablesKept t

/-- The premise of MemoryAndClockKeptByEveryStep and TablesKeptByEveryStep, at reset. -/
def Obligations.InvariantsHoldAtReset : Prop :=
  memoryKept State.reset ∧ tablesKept State.reset

/-- The basic law of memory (R230, R231). -/
def Obligations.MemoryReadsWhatWasStored : Prop :=
  ∀ (s : State) (a : Nat) (bs : List Byte), SMap.canon 0 s.mem.bytes = true →
    (∀ i, i < bs.length → (s.store a bs).bankByte (a + i) = bs.getD i 0) ∧
    (∀ b, b < a ∨ a + bs.length ≤ b → (s.store a bs).bankByte b = s.bankByte b) ∧
    SMap.canon 0 (s.store a bs).mem.bytes = true ∧
    (s.store a bs).scd = s.scd ∧ (s.store a bs).regs = s.regs

/-- Reset (Resets; the register tables). The zero register files, counters and the stroke 0 are the model's choice where the spec gives none
(log entries 1, 4 and 9, DESIGN CHOICE); fused values are those of log entry 8. -/
def Obligations.ResetState : Prop :=
  State.reset.time.stroke = 0 ∧ State.reset.time.cy = 0 ∧ State.reset.pending = [] ∧ State.reset.timed = [] ∧
  State.reset.due = [] ∧ State.reset.mem.bytes = [] ∧ State.reset.lane.queues = [] ∧ State.reset.lane.ops = [] ∧
  State.reset.eng.ops = [] ∧ State.reset.seg = [] ∧ State.reset.sec.grants = [] ∧ State.reset.sec.tenants = [] ∧
  (∀ r u i j, State.reset.rv r u i j = (RegRef.mk r u i j).reset.toNat) ∧
  (∀ k r, State.reset.vreg k r = 0) ∧ (∀ k r, State.reset.preg k r = 0) ∧ (∀ k r, State.reset.xreg k r = 0) ∧
  (∀ k c, State.reset.ctr k c = 0) ∧ (∀ t : Tenant, (State.reset.tenant t).st = .free ∧ (State.reset.tenant t).epoch = 0) ∧
  State.reset.ready = false ∧ State.reset.asleep = true

/-- The clock (R41, R237, R374): how rows that name a moment act is the model's choice (log entry 2), as is the stack that REFRESH_WINDOW
leaves named (log entry 46). -/
def Obligations.ClockRowsRunTheClock : Prop :=
  (∀ (s : State),
    exec .strokeBegin s = .next (State.run (cysUntil s 0) s) ∧
    (∀ c : BitVec 11, c.toNat < 1408 → exec (.chordIssue c) s = .next (State.run (cysUntil s c.toNat) s)) ∧
    exec .maintenanceWindow s = .next (State.run (cysUntil s 1408) s) ∧
    exec .turnaround s = .next (State.run (cysUntil s 1472) s) ∧
    exec .shaperTokenGain s = .next (State.run (15 - s.now % 15) s) ∧
    exec .meterTokenGain s = .next (State.run (15 - s.now % 15) s) ∧
    (∀ (stack : BitVec 5) (pc bank : BitVec 6), stack.toNat < 24 → ∃ n t, exec (.refreshWindow stack pc bank) s = .next t ∧
      0 < n ∧ n ≤ 3072 ∧ (s.now + n) % 3072 = 1536 * (bank.toNat % 2) + 48 * (bank.toNat / 2) ∧
      t.mem = (State.run n s).mem ∧ t.scd = (State.run n s).scd ∧ t.time = (State.run n s).time ∧
      t.timed = (State.run n s).timed) ∧
    (s.time.cy < 1536 → 0 < cysUntil s 0 ∧ (s.time.cy + cysUntil s 0) % 1536 = 0 ∧
      (∀ c, c < 1536 → 0 < cysUntil s c ∧ cysUntil s c ≤ 1536 ∧ (s.time.cy + cysUntil s c) % 1536 = c)) ∧
    (s.asleep = true → s.advance = s) ∧
    (s.asleep = false → s.advance = ({ s with time := s.time.tick } : State).cyWork) ∧
    (∀ n, State.run (n + 1) s = State.run n s.advance) ∧ State.run 0 s = s) ∧
  (∀ (t : TimeSt), t.cy < 1536 →
    1536 * t.tick.stroke + t.tick.cy = 1536 * t.stroke + t.cy + 1 ∧ t.tick.cy < 1536)

/-- The turnaround (R60, R79). -/
def Obligations.TurnaroundClearsRegisters : Prop :=
  ∀ (s : State), s.time.cy = 1472 →
    let t := s.windowWork
    (∀ k r, t.vreg k r = 0) ∧ (∀ k r, fixedS r = false → t.sreg k r = 0) ∧ (∀ k r, t.preg k r = 0) ∧ (∀ k r, t.xreg k r = 0) ∧
    (∀ key, t.scd.tiles.find key = none) ∧ (∀ key, t.scd.ranks.find key = none) ∧ (∀ key, t.scd.queries.find key = none) ∧
    t.time.nextSkipped = bitAt (s.rf .seqSkipctl 7 0) ((s.time.stroke + 1) % 8) ∧
    t.scd.ctr = s.scd.ctr ∧ t.mem.bytes = s.mem.bytes

/-- Access codes and discarded writes (Table 0.3, R9, R573). -/
def Obligations.RegisterAccessCodes : Prop :=
  (∀ (s : State) (i : Instr) (x : RegRef) (w : Word), rowTarget i = some (x, w) →
    (¬accepts s x w → exec i s = .next s) ∧
    ((x.rsv &&& w.toNat) ≠ 0 → exec i s = .next s) ∧ (x.reservedValue w.toNat = true → exec i s = .next s)) ∧
  (∀ (x : RegRef) (old w i : Nat), old < 2 ^ 32 → w < 2 ^ 32 → i < 32 →
    let p := x.reg.spec
    ((p.mask .rw).testBit i = true → (x.merge old w).testBit i = w.testBit i) ∧
    ((p.mask .w1c).testBit i = true → (x.merge old w).testBit i = (old.testBit i && !w.testBit i)) ∧
    ((p.mask .ro).testBit i = true → (x.merge old w).testBit i = old.testBit i) ∧
    (∀ s : State, s.regs.rising = true →
      (s.putNow x w).get x = x.merge (s.get x) w ∧ ∀ y : RegRef, y.addr ≠ x.addr → (s.putNow x w).get y = s.get y))

/-- Accepted writes (R10, R47, R364, R376 to R383, R391). That QOS_SMP_BASE, the log and the event rings take effect as written, and what a
write is judged against, are the model's readings (log entries 26 and 28). -/
def Obligations.RegisterWriteResults : Prop :=
  (∀ (s : State) (w : Word),
    (∀ (n : BitVec 14), let x : RegRef := ⟨.qosSubShr, 0, n.toNat, 0⟩
      accepts s x w → exec (.shaperWrite (.subRate n) w) s = .next ((written s x w).setTokens n.toNat 0 0)) ∧
    (∀ (n : BitVec 14), let x : RegRef := ⟨.qosSubShb, 0, n.toNat, 0⟩
      accepts s x w → exec (.shaperWrite (.subBurst n) w) s = .next ((written s x w).setTokens n.toNat 0 0)) ∧
    (∀ (n : BitVec 14) (v : BitVec 3), let x : RegRef := ⟨.qosSvcShr, 0, n.toNat, v.toNat⟩
      accepts s x w → exec (.shaperWrite (.svcRate n v) w) s = .next ((written s x w).setTokens n.toNat (1 + v.toNat) 0)) ∧
    (∀ (n : BitVec 14) (v : BitVec 3), let x : RegRef := ⟨.qosSvcShb, 0, n.toNat, v.toNat⟩
      accepts s x w → exec (.shaperWrite (.svcBurst n v) w) s = .next ((written s x w).setTokens n.toNat (1 + v.toNat) 0)) ∧
    (∀ (m : BitVec 13) (r : BitVec 2) (x : RegRef), rowTarget (.meterWrite m r w) = some (x, w) → accepts s x w →
      exec (.meterWrite m r w) s = .next
        { written s x w with net := { s.net with meters := s.net.meters.filter fun e => e.1 % 8192 != m.toNat } }) ∧
    (∀ (n : BitVec 4), let x : RegRef := ⟨.qosMirA, 0, n.toNat, 0⟩
      accepts s x w → exec (.mirrorSessionWrite n w) s = .next
        { written s x w with net := { s.net with mirror := s.net.mirror.erase n.toNat } }) ∧
    (∀ (i : Instr) (x : RegRef), i ∈ [Instr.sampleRingConfigWrite .baseLo w, .sampleRingConfigWrite .baseHi w,
        .logRingConfigWrite .baseLo w, .logRingConfigWrite .baseHi w, .evtRingConfigWrite .baseLo w, .evtRingConfigWrite .baseHi w] →
      rowTarget i = some (x, w) → accepts s x w → exec i s = .next (written s x w)) ∧
    (∀ x : RegRef, x = ⟨.qosSmpSize, 0, 0, 0⟩ →
      accepts s x w → exec (.sampleRingConfigWrite .size w) s = .next (((written s x w).wv .qosSmpHead 0).wv .qosSmpTail 0)) ∧
    (∀ x : RegRef, x = ⟨.ctlLogSize, 0, 0, 0⟩ →
      accepts s x w → exec (.logRingConfigWrite .size w) s = .next (((written s x w).wv .ctlLogHead 0).wv .ctlLogTail 0)) ∧
    (∀ x : RegRef, x = ⟨.ctlEvtSize, 0, 0, 0⟩ →
      accepts s x w → exec (.evtRingConfigWrite .size w) s = .next (((written s x w).wv .ctlEvtHead 0).wv .ctlEvtTail 0))) ∧
  (∀ (s : State) (w : Word),
    (∀ (u : BitVec 5) (o : BitVec 2), u.toNat < 20 → let x : RegRef := ⟨.laneOctcfg, u.toNat, o.toNat, 0⟩
      accepts s x w → exec (.octcfgWrite u o w) s = .next ((s.putWaiting x (x.merge (s.get x) w.toNat)).latchNext
        (.octet u.toNat o.toNat (BitVec.ofNat 32 (x.merge (s.get x) w.toNat))))) ∧
    (∀ (k : Scd) (i : BitVec 5), let x : RegRef := ⟨.dirAgent, k.toNat, i.toNat, 0⟩
      accepts s x w → exec (.dirAgentWrite k i w) s = .next ((s.putWaiting x (x.merge (s.get x) w.toNat)).latchNext
        (.agentWrite k i (BitVec.ofNat 32 (x.merge (s.get x) w.toNat))))) ∧
    (∀ (r : SubMapReg) (x : RegRef), rowTarget (.subscriberMapWrite r w) = some (x, w) → accepts s x w →
      exec (.subscriberMapWrite r w) s = .next ((s.putWaiting x (x.merge (s.get x) w.toNat)).latchNext
        (.mapping x.addr (BitVec.ofNat 32 (x.merge (s.get x) w.toNat))))) ∧
    (∀ (x : RegRef) (v : Nat) (d : Due), s.regs.rising = true →
      let t := (s.putWaiting x v).latchNext d
      t.get x = v % 2 ^ 32 ∧ t.av x.reg x.unit x.i x.j = s.av x.reg x.unit x.i x.j ∧
      t.due = s.due ++ [(if s.time.cy < 1472 then s.time.stroke + 1 else s.time.stroke + 2, d)] ∧
      t.mem = s.mem ∧ t.scd = s.scd ∧ t.net = s.net))

/-- Commands by register write (R56 to R59, R221, R240, R320, R403, R527). LATE set at the write of ARM, and the copied entries, are the model's
readings (log entry 25); a laser enable write takes the ports of its package down (log entry 52). -/
def Obligations.RegisterCommandsAndSlotSchedule : Prop :=
  (∀ (s : State) (k : Scd) (w : Word),
    (s.scdOut k = false → ∃ t, exec (.raclr k) s = .next t ∧
      (s.regs.rising = true → ∀ r ∈ [Reg.scdRalspec, .scdRalsq, .scdRalcmb, .scdGteraops, .scdGtepfx, .scdGtepsq], t.rv r k.toNat = 0) ∧
      t.mem = s.mem ∧ t.scd = s.scd) ∧
    (s.scdOut k = false → (∀ e ∈ s.mem.inval, e.byReg = true → e.k ≠ k) → exec (.stackCacheInvalidateGo k) s =
      .next { s with mem := { s.mem with inval := s.mem.inval ++ [
        { k := k, first := (s.rv .scdScinvHi k.toNat * 2 ^ 32 + s.rf .scdScinvLo 31 7 k.toNat * 128) / 128,
          lines := s.rf .scdScinvLen 23 0 k.toNat,
          stroke := if s.time.cy < 1408 then s.time.stroke else s.time.stroke + 1, byReg := true }] } }) ∧
    (w.toNat < 256 → s.regs.rising = true → ∃ t, exec (.skipctlMaskWrite w) s = .next t ∧ t.rf .ctlEmerg 7 0 = w.toNat ∧
      t.rf .seqSkipctl 7 0 = w.toNat ||| (if s.rf .ctlEmerg 31 30 = 0 then 0x00 else if s.rf .ctlEmerg 31 30 = 1 then 0x80 else 0xAA) ∧
      t.mem = s.mem ∧ t.scd = s.scd) ∧
    (∃ t, exec .seqStrokeLoRead s = .next t ∧ (s.regs.rising = true → t.rv .seqStrokeHi = s.time.stroke / 2 ^ 32 % 2 ^ 32) ∧
      t.time = s.time ∧ t.mem = s.mem ∧ t.scd = s.scd) ∧
    (w.toNat < 512 → s.scdOut k = false → s.regs.rising = true → ∃ t, exec (.dirProbe k w) s = .next t ∧
      t.rf .dirProbeHi 8 0 k.toNat = w.toNat ∧
      (let line := (w.toNat * 2 ^ 32 + s.rf .dirProbeLo 31 7 k.toNat * 128) / 128
       let e := if s.home (128 * line) = k then s.entryWord line else 0
       t.rv .dirProbeElo k.toNat = e % 2 ^ 32 ∧ t.rv .dirProbeEhi k.toNat = e / 2 ^ 32 % 2 ^ 32) ∧
      t.coh = s.coh ∧ t.mem = s.mem) ∧
    (¬(w.toNat < 512 ∧ s.scdOut k = false) → exec (.dirProbe k w) s = .next s) ∧
    (∀ n : BitVec 4, let x : RegRef := ⟨.pheLsrctl, n.toNat, 0, 0⟩
      accepts s x w → (w.getLsbD 31 = false ∨ s.lanes.lsrFltN.getLsbD n.toNat = true) →
        exec (.lsrctlEnWrite n w) s = .next
          (if bitAt (s.get x) 31 || w.getLsbD 31 then (written s x w).dieDown n.toNat else written s x w)) ∧
    (∀ n : BitVec 4, w.getLsbD 31 = true → s.lanes.lsrFltN.getLsbD n.toNat = false → exec (.lsrctlEnWrite n w) s = .next s)) ∧
  (∀ (s : State) (w : Word), s.regs.rising = true →
    let x : RegRef := ⟨.seqSlotsched, 0, 0, 0⟩
    let at_ := s.rv .seqSlotschedAtHi * 2 ^ 32 + s.rv .seqSlotschedAtLo
    (s.time.slotAt = none → 1 ≤ w.toNat % 128 → w.toNat % 128 ≤ 64 → w.getLsbD 28 = false → (x.rsv &&& (w ||| 0x80000000).toNat) = 0 →
      ∃ t n, exec (.slotschedArm w) s = .next t ∧ t.time = { s.time with slotAt := some n } ∧ t.due = s.due ++ [(n, .slotSchedule)] ∧
        (1536 * at_ > s.now + 64 → n = at_ ∧ t.rf .seqSlotsched 29 29 = s.rf .seqSlotsched 29 29 * (1 - w.toNat / 2 ^ 29 % 2)) ∧
        (1536 * at_ ≤ s.now + 64 → n = s.boundary ∧ t.rf .seqSlotsched 29 29 = 1) ∧
        t.rf .seqSlotsched 6 0 = w.toNat % 128 ∧ t.mem = s.mem ∧ t.scd = s.scd) ∧
    (∀ n, s.time.slotAt = some n → s.now + 64 < 1536 * n → 1 ≤ w.toNat % 128 → w.toNat % 128 ≤ 64 → w.getLsbD 31 = false →
      (x.rsv &&& (w ||| 0x10000000).toNat) = 0 →
      ∃ t, exec (.slotschedCancel w) s = .next t ∧ t.time = { s.time with slotAt := none } ∧
        t.due = s.due.filter (fun d => d.2 != .slotSchedule) ∧ t.rf .seqSlotsched 6 0 = s.rf .seqSlotsched 6 0 ∧
        t.mem = s.mem ∧ t.scd = s.scd) ∧
    latchedRow s .slotScheduleActivate (fun d => d == .slotSchedule) ∧
    (∀ n m, latchedAt s (fun d => d == .slotSchedule) .slotSchedule n → 1536 * n ≤ s.now → s.time.slotAt = some m →
      ∃ t, exec .slotScheduleActivate s = .next t ∧ t.time = { s.time with slotAt := none } ∧
        t.rf .seqSlotsched 22 16 = s.rf .seqSlotsched 6 0 ∧
        (∀ i, i < s.rf .seqSlotsched 6 0 → i < 64 → t.rv .seqSlotentA 0 i = s.rv .seqSlotentS 0 i) ∧
        t.mem = s.mem ∧ t.scd = s.scd))

/-- The context lifecycle (Table 4.6, R121 to R129). That a completing context ignores a timeout or an abort, and that arming does nothing on an
SCD out of service, are the model's readings (log entry 29); the rows that name a moment are log entry 3. -/
def Obligations.ContextLifeCycle : Prop :=
  ∀ (s : State) (k : Scd) (i : BitVec 8), s.time.cy < 1536 → s.regs.rising = true → s.rcx.rising = true → SMap.canon 0 s.mem.bytes = true →
    let st (s : State) := s.rf .scdRcxCfg 31 30 k.toNat i.toNat
    let opened (t : State) : Prop := st t = 1 ∧ t.rv .scdRcxProg k.toNat i.toNat = 0 ∧ t.rf .scdRcxCmd 7 0 k.toNat i.toNat = 0 ∧
      t.ctx k i.toNat = { done := [], declared := 0, opened := some s.time.stroke, completing := none } ∧ t.mem = s.mem ∧ t.scd = s.scd
    let record := windowOf k + s.rcxRecord k i.toNat
    let timedOut (t : State) (code : Nat) : Prop := st t = 3 ∧ t.rf .scdRcxCmd 7 0 k.toNat i.toNat = code ∧ (t.ctx k i.toNat).opened = none ∧
      t.bankRead record 128 = padTo 128 (leBytes 2 (s.rcxGen k i.toNat) ++ leBytes 1 code ++ leBytes 1 0 ++
        leBytes 2 (s.rf .scdRcxProg 31 21 k.toNat i.toNat) ++ leBytes 2 0 ++ leBytes 4 (s.rf .scdRcxProg 17 0 k.toNat i.toNat) ++
        leBytes 8 s.time.stroke) ∧
      (∀ a, a < record ∨ record + 128 ≤ a → t.bankByte a = s.bankByte a) ∧ t.scd = s.scd
    (s.scdOut k = false → st s ≠ 1 → s.rcxPlaced k i.toNat = true →
      exec (.rcxArm k i) s = .next { s with due := s.due ++ [(s.boundary, .ctxOpen k i)] }) ∧
    (s.scdOut k = true ∨ st s = 1 ∨ s.rcxPlaced k i.toNat = false → exec (.rcxArm k i) s = .next s) ∧
    latchedRow s (.contextOpen k i) (fun d => d == .ctxOpen k i) ∧ latchedRow s (.contextReopen k i) (fun d => d == .ctxReopen k i) ∧
    (∀ n, latchedAt s (fun d => d == .ctxOpen k i) (.ctxOpen k i) n → 1536 * n ≤ s.now → st s ≠ 1 →
      ∃ t, exec (.contextOpen k i) s = .next t ∧ opened t) ∧
    (∀ n, latchedAt s (fun d => d == .ctxReopen k i) (.ctxReopen k i) n → 1536 * n ≤ s.now → st s = 2 → s.rcxAuto k i.toNat = true →
      ∃ t, exec (.contextReopen k i) s = .next t ∧ opened t ∧ t.rcxGen k i.toNat = (s.rcxGen k i.toNat + 1) % 2 ^ 16) ∧
    (s.scdOut k = false → st s = 1 → (s.ctx k i.toNat).completing = none →
      ∃ t, exec (.rcxAbort k i) s = .next t ∧ timedOut t 0x0C) ∧
    (st s ≠ 1 → exec (.rcxAbort k i) s = .next s) ∧
    (∀ a, (s.ctx k i.toNat).opened = some a →
      let ends := 1536 * (a + s.rcxTimeout k i.toNat)
      (s.now < ends → exec (.contextTimeout k i) s = .next (State.run (ends - s.now) s)) ∧
      (ends ≤ s.now → st s = 1 → (s.ctx k i.toNat).completing = none → ∃ t, exec (.contextTimeout k i) s = .next t ∧
        timedOut t (if s.ctxLost k i.toNat then 0x08 else 0x0C)) ∧
      (ends ≤ s.now → st s ≠ 1 ∨ (s.ctx k i.toNat).completing ≠ none → exec (.contextTimeout k i) s = .next s)) ∧
    ((s.ctx k i.toNat).opened = none → exec (.contextTimeout k i) s = .next s)

/-- Lanes, ports and lasers (R386 to R404). When training ends, and what a fault of a lane does with swapping off, are the sender's timing and the
model's reading (log entries 3 and 52). -/
def Obligations.LanesAndPorts : Prop :=
  (∀ (s : State) (u lane : BitVec 5), u.toNat < 20 → s.regs.rising = true → s.lanes.up.rising = true →
    let p := s.portOfLane u.toNat lane.toNat
    let g := if u.toNat < 16 then lane.toNat / 8 else lane.toNat / 16
    let marks (t : State) (bit : Nat) := t.rf .laneLane bit bit u.toNat lane.toNat
    let free := s.rf .laneSpare 31 30 u.toNat g = 0 ∧ ∀ x ∈ s.lanes.retrain, ¬(x.unit = u.toNat ∧ x.spare = g)
    let calm := ∀ x ∈ s.lanes.retrain, ¬(x.unit = u.toNat ∧ x.lane = lane.toNat)
    let swapped (t : State) : Prop := t.portUp p = false ∧ t.lanes.retrain = s.lanes.retrain ++
      [{ unit := u.toNat, spare := g, lane := lane.toNat, from_ := s.time.stroke + 4, port := p }]
    (calm → s.laneInUse u.toNat lane.toNat = false → ∃ t, exec (.laneFault u lane) s = .next t ∧ marks t 31 = 0 ∧ marks t 30 = 0 ∧
      t.lanes = s.lanes ∧ t.net = s.net) ∧
    (calm → s.laneInUse u.toNat lane.toNat = true → s.rf .laneSwapcfg 31 31 u.toNat = 0 →
      ∃ t, exec (.laneFault u lane) s = .next t ∧ marks t 31 = 0 ∧ marks t 30 = 0 ∧ t.portUp p = false ∧
        t.lanes.retrain = s.lanes.retrain) ∧
    (calm → s.laneInUse u.toNat lane.toNat = true → s.rf .laneSwapcfg 31 31 u.toNat = 1 → free →
      ∃ t, exec (.laneFault u lane) s = .next t ∧ marks t 31 = 0 ∧ marks t 30 = 0 ∧ swapped t) ∧
    (calm → s.laneInUse u.toNat lane.toNat = true → s.rf .laneSwapcfg 31 31 u.toNat = 1 → s.rf .laneSpare 31 30 u.toNat g ≠ 0 →
      (∀ x ∈ s.lanes.retrain, ¬(x.unit = u.toNat ∧ x.spare = g)) →
      ∃ t, exec (.laneFault u lane) s = .next t ∧ marks t 28 = 1 ∧ t.portUp p = false ∧ t.lanes.retrain = s.lanes.retrain) ∧
    (∀ x, s.swapOf u.toNat lane.toNat = some x → x.lane < 32 →
      (s.time.stroke < x.from_ → ∃ t, exec (.laneFault u lane) s = .next t ∧ marks t 31 = 0 ∧ marks t 30 = 0 ∧ t.lanes = s.lanes) ∧
      (x.from_ ≤ s.time.stroke → ∃ t, exec (.laneFault u lane) s = .next t ∧ marks t 28 = 1 ∧ t.portUp x.port = false ∧
        t.lanes.retrain = s.lanes.retrain.filter (fun y => y != x))) ∧
    (∀ count : BitVec 16, ∃ t, exec (.laneSerrWindow u lane count) s = .next t ∧
      t.rf .laneLane 15 0 u.toNat lane.toNat = count.toNat ∧
      (count.toNat ≤ s.rf .laneSwapcfg 15 0 u.toNat ∨ s.rf .laneSwapcfg 31 31 u.toNat = 0 → t.lanes = s.lanes) ∧
      (s.rf .laneSwapcfg 15 0 u.toNat < count.toNat → s.rf .laneSwapcfg 31 31 u.toNat = 1 →
        s.portUsable p = true → s.rf .laneLane 28 28 u.toNat lane.toNat = 0 → calm → free → swapped t)) ∧
    (∀ (h : BitVec 2) (x : Retrain), s.lanes.retrain.find? (fun x => x.unit == u.toNat && x.spare == h.toNat) = some x →
      x.lane < 32 → x.port < 640 →
      let c := 1536 * max x.from_ (x.relock.getD s.time.stroke + 1)
      (s.now < c → exec (.spareSwapComplete u h) s = .next (State.run (c - s.now) (s.relocked x))) ∧
      (c ≤ s.now → ∃ t, exec (.spareSwapComplete u h) s = .next t ∧ (∀ y ∈ t.lanes.retrain, y ∈ s.lanes.retrain ∧ y ≠ x) ∧
        t.rf .laneSpare 31 31 u.toNat h.toNat = 1 ∧ t.rf .laneSpare 4 0 u.toNat h.toNat = x.lane ∧
        t.rf .laneLane 29 29 u.toNat x.lane = 1 ∧
        (s.lanesGood x.port = true → s.laserOn x.port = true → s.driving = true → s.portUsable x.port = true →
          t.portUp x.port = true))) ∧
    (∀ h : BitVec 2, s.lanes.retrain.find? (fun x => x.unit == u.toNat && x.spare == h.toNat) = none →
      exec (.spareSwapComplete u h) s = .next s) ∧
    (∀ q : Port, q.toNat < 640 → s.portUp q.toNat = false → s.portUsable q.toNat = true → s.lanesGood q.toNat = true →
      s.laserOn q.toNat = true → s.fabricLive = true → (∀ x ∈ s.lanes.retrain, x.port ≠ q.toNat) →
      ∃ t, exec (.linkTrainingComplete q) s = .next t ∧ t.portUp q.toNat = true ∧
        ∀ l ∈ s.lanesOf q.toNat, t.rf .laneLane 31 31 (portUnit q.toNat) l = 1 ∧ t.rf .laneLane 30 30 (portUnit q.toNat) l = 1) ∧
    (∀ q : Port, q.toNat < 640 → s.portUsable q.toNat = false → exec (.linkTrainingComplete q) s = .next s) ∧
    (∀ m1 : Bool, s.lanes.mgmtHeld.getLsbD (if m1 then 1 else 0) = true →
      exec (.linkTrainingComplete (if m1 then 641 else 640)) s = .next s) ∧
    (∀ m1 : Bool, s.lanes.mgmtHeld.getLsbD (if m1 then 1 else 0) = false → s.mgmtFailed m1 = false → s.mgmtLive = true →
      ∃ t, exec (.linkTrainingComplete (if m1 then 641 else 640)) s = .next t ∧ t.portUp (if m1 then 641 else 640) = true)) ∧
  (∀ (s : State), s.regs.rising = true → s.acts.rising = true → s.lanes.up.rising = true →
    (∀ (u : BitVec 5) (o : BitVec 2) (b : Nat) (v : Word), u.toNat < 20 → latchedAt s (octetDue u.toNat o.toNat) (.octet u.toNat o.toNat v) b →
      1536 * b ≤ s.now →
      ∃ t, exec (.octetModeApply u o) s = .next t ∧
        (s.rv .laneOctcfg u.toNat o.toNat = v.toNat → t.av .laneOctcfg u.toNat o.toNat = v.toNat) ∧ ∀ i, i < 8 → t.portUp (octetFirst u.toNat o.toNat + i) = false ∧
        t.rf .laneLane 31 31 u.toNat (8 * o.toNat + i) = 0 ∧ t.rf .laneLane 30 30 u.toNat (8 * o.toNat + i) = 0) ∧
    (∀ (u : BitVec 5) (o : BitVec 2), latchedRow s (.octetModeApply u o) (octetDue u.toNat o.toNat)) ∧
    (∀ n : BitVec 4, ∃ t, exec (.laserFault n) s = .next t ∧ t.lanes.lsrFltN.getLsbD n.toNat = false ∧
      (∀ m : BitVec 4, m ≠ n → t.lanes.lsrFltN.getLsbD m.toNat = s.lanes.lsrFltN.getLsbD m.toNat) ∧
      t.rf .pheLsrctl 31 31 n.toNat = 0 ∧ t.rf .pheLsrctl 29 29 n.toNat = 1 ∧ t.lsrEn n.toNat = false ∧
      (∀ i, i < 32 → t.portUp (32 * n.toNat + i) = false) ∧ t.rf .ctlAlert 1 1 = 1 ∧ t.mem = s.mem) ∧
    (∀ m1 : Bool, ∃ t, exec (.mgmtLinkLoss m1) s = .next t ∧ t.portUp (if m1 then 641 else 640) = false ∧
      t.portUp (if m1 then 640 else 641) = s.portUp (if m1 then 640 else 641) ∧ t.lanes = s.lanes ∧ t.mem = s.mem))

/-- Time and sideband pins (R49 to R51, R406 to R408, R559). The unit of the offset operand and the row's time are log entry 77. -/
def Obligations.TimePinsAndI3c : Prop :=
  ∀ (s : State), s.regs.rising = true →
    (∀ (m1 : Bool) (time : Dword) (off : BitVec 16), m1 = s.ptpOnM1 → s.portUp (if m1 then 641 else 640) = true →
      ∃ t, exec (.ptpMessage m1 time off) s = .next t ∧ t.time.ptp = time ∧ t.time.stroke = s.time.stroke ∧ t.time.cy = s.time.cy ∧
        (s.rf .seqAlign 17 16 = 2 → t = { s with time := { s.time with ptp := time } }) ∧
        (s.rf .seqAlign 17 16 ≠ 2 → t.rf .seqAlign 15 0 = off.toNat ∧
          (64 < off.toInt.natAbs → t.rf .seqAlign 31 31 = 0 ∧
            (s.rf .seqAlign 31 31 = 1 → t.rf .seqAlign 30 30 = 1 ∧ t.rf .ctlAlert 0 0 = 1 ∧
              t.fw.events.length = s.fw.events.length + 1)) ∧
          (off.toInt.natAbs ≤ 64 → s.time.aligned = true → t.rf .seqAlign 31 31 = 1))) ∧
    (∀ (m1 : Bool) (time : Dword) (off : BitVec 16), m1 ≠ s.ptpOnM1 → exec (.ptpMessage m1 time off) s = .next s) ∧
    (∀ off : BitVec 16, (s.rf .seqAlign 17 16 = 2 → ∃ t, exec (.ppsInPulse off) s = .next t ∧ t.rf .seqAlign 15 0 = off.toNat ∧
        t.time = s.time) ∧
      (s.rf .seqAlign 17 16 ≠ 2 → exec (.ppsInPulse off) s = .next s)) ∧
    (∀ second : Dword,
      (s.rf .seqAlign 31 31 = 1 → s.ready = true → ∃ t, exec (.ppsOutPulse second) s = .next t ∧ t.lanes.ppsOut = true ∧
        (s.now + 1500000, .ppsLow) ∈ t.timed ∧ t.mem = s.mem) ∧
      (s.rf .seqAlign 31 31 = 0 → exec (.ppsOutPulse second) s = .next s)) ∧
    (∀ (d : Option (BitVec 7)) (a : BitVec 7), exec (.i3cAddressAssign ⟨d, a⟩) s = .next
      (if s.lanes.frstN && s.lanes.pwrGood && (d.isNone || d == some 0x3A) then { s with lanes := { s.lanes with i3cAddr := some a } } else s)) ∧
    (∀ a : BitVec 32, s.lanes.frstN = true → s.lanes.pwrGood = true →
      exec (.i3cPrivateWrite (leBytes 4 a.toNat)) s = .next { s with lanes := { s.lanes with i3cReg := some a.toNat } } ∧
      (∀ (w : Word) (x : RegRef), i3cReaches a.toNat = true → RegRef.locate a.toNat = some x →
        exec (.i3cPrivateWrite (leBytes 4 a.toNat ++ leBytes 4 w.toNat)) s =
          .next (({ s with lanes := { s.lanes with i3cReg := some a.toNat } } : State).regWrite x w.toNat)) ∧
      (∀ w : Word, i3cReaches a.toNat = false → exec (.i3cPrivateWrite (leBytes 4 a.toNat ++ leBytes 4 w.toNat)) s =
          .next { s with lanes := { s.lanes with i3cReg := some a.toNat } })) ∧
    (∀ b : List Byte, b.length = 4 ∨ b.length = 8 → (s.lanes.frstN && s.lanes.pwrGood) = false →
      exec (.i3cPrivateWrite b) s = .next s)

/-- Reads on the request lane (Tables 2.7, 10.4 and 14.4, R245, R312, R332). -/
def Obligations.LoadsByPlace : Prop :=
  ∀ (s : State) (x : Req) (pl : Place) (g : Option Nat), x.kind = .load ∨ x.kind = .get → pieceOk x.kind x.r = true → served s x pl g →
    let k := s.pieceHome x
    let n := x.r.len.toNat
    let run := exec (if x.kind = .load then .load x.r else .get x.r) s
    (∀ a, pl.laneAddr x.r.addr.toNat = some a →
      let e := s.dir (a / 128)
      let cached := (s.mem.scache.find (a / 128)).isSome
      let hit := cached && !s.inHandoff a n
      let at_ (near refresh : Nat) := s.now + (if inRefresh a s.now 40 then refresh else near)
      let lost := s.stackOut (stackOf a) = true
      let bad := s.laneBad a n = true
      let reads (o : LaneOp) (hit : Bool) : Prop := (lost → o.status = .unitLost ∧ o.data = []) ∧ (¬lost → bad → o.status = .mediaError ∧ o.data = []) ∧
        (¬lost → ¬bad → o.status = .ok ∧ o.data = s.nearValue hit a n)
      (e.st = .i ∨ e.st = .s → ∃ t o, run = .next t ∧ laneStarted s t x g o ∧ t.mem = s.mem ∧ t.coh = s.coh ∧ reads o hit ∧
        (hit = true → o.path = .hit ∧ answersAt t o (s.now + 38)) ∧ (hit = false → o.path = .near ∧ answersAt t o (at_ 212 692))) ∧
      (e.st = .o → ∃ t o, run = .next t ∧ laneStarted s t x g o ∧ t.mem = s.mem ∧ t.coh = s.coh ∧ o.path = .coherent ∧
        reads o cached ∧ (cached = true → answersAt t o (s.now + 44)) ∧
        (cached = false → answersAt t o (s.now + if inRefresh a s.now 46 then 698 else 218))) ∧
      (e.st = .e → ∃ t o, run = .next t ∧ laneStarted s t x g o ∧ reads o hit ∧ o.path ≠ .coherent ∧ o.waits = true ∧
        looksUp s t x (.load o.id) (a / 128) g) ∧
      (e.st = .m → ∃ t o, run = .next t ∧ laneStarted s t x g o ∧ o.path = .coherent ∧ o.waits = true ∧
        looksUp s t x (.load o.id) (a / 128) g)) ∧
    (∀ j, pl = .scratch j → ∃ t o, run = .next t ∧ laneStarted s t x g o ∧ t.mem = s.mem ∧ o.path = .scratch ∧
      answersAt t o (s.now + 38) ∧
      (s.scdOut (BitVec.ofNat 5 j) = true → o.status = .unitLost) ∧
      (s.scdOut (BitVec.ofNat 5 j) = false → s.laneBad x.r.addr.toNat n = true → o.status = .mediaError) ∧
      (s.scdOut (BitVec.ofNat 5 j) = false → s.laneBad x.r.addr.toNat n = false →
        o.status = .ok ∧ o.data = s.laneRead x.r.addr.toNat n)) ∧
    (∀ i, pl = .far i ∨ pl = .cold i → ∃ t o, run = .next t ∧ laneStarted s t x g o ∧ t.mem = s.mem ∧ o.waits = true ∧
      o.path = (if pl = .far i then .tray else .cold) ∧ o.ext = some (i, s.extent i) ∧
      (s.now + 24 + lineShift x.r, .forward k o.id) ∈ t.timed) ∧
    (∀ i, pl = .slot i →
      let e := s.extent i
      let off := x.r.addr.toNat - e.vbase
      let b := s.readBlock e (off / 256)
      ∃ t o, run = .next t ∧ laneStarted s t x g o ∧ t.mem.wbuf = s.mem.wbuf ∧ t.mem.scache = s.mem.scache ∧ o.path = .slot ∧
        answersAt t o (s.now + if b.2 then 1388 else 706) ∧
        (s.slotLost e (off / 256) = true → o.status = .unitLost) ∧
        (s.slotLost e (off / 256) = false → b.1 = none → o.status = .mediaError) ∧
        (s.slotLost e (off / 256) = false → ∀ v, b.1 = some v → o.status = .ok ∧ o.data = (v.drop (off % 256)).take n)) ∧
    (pl = .lost → ∃ t o, run = .next t ∧ laneStarted s t x g o ∧ t.mem = s.mem ∧ o.status = .unitLost ∧ answersAt t o (s.now + 212))

/-- Writes on the request lane (Tables 2.7, 9.1 and 14.4, R244, R276, R313, R335, R435). The address is that of the place of the piece. When a
delta shifts a write into a refresh window is the model's reading (log entry 35), and the bank and counter cys of a slot are log entry
19; an overflow slot is taken and freed on the cys of log entry 92. -/
def Obligations.WritesByPlace : Prop :=
  ∀ (s : State) (x : Req) (pl : Place) (g : Option Nat), pieceOk x.kind x.r = true → served s x pl g →
    ∀ i, (i, x.kind) ∈ [(Instr.store x.r, ReqKind.store), (.pstore x.r, .pstore), (.put x.r, .put), (.retr x.r, .retr)] →
    let k := s.pieceHome x
    let d := if x.r.base.isSome then 690 else 0
    let buffered (t : State) (o : LaneOp) (a due counterAt : Nat) : Prop := ∃ w, t.mem.wbuf = s.mem.wbuf ++ [w] ∧ w.id = o.id ∧ w.k = k ∧
      w.p = s.now ∧ w.due = due ∧ w.writes = writesAt a (s.pieceData x.r) ∧ w.tenant = x.r.tenant ∧ w.epoch = x.r.tepoch ∧
      w.counter = s.counterOf k x counterAt (s.frameEnds k x.r false) ∧ (due, .bank o.id) ∈ t.timed ∧
      t.mem.uncorr = s.mem.uncorr ∧ t.mem.inval = s.mem.inval
    (∀ a, pl.laneAddr x.r.addr.toNat = some a →
      let ends := s.now + d + if inRefresh a (s.now + d) 40 then 692 else 212
      ((s.dir (a / 128)).st = .i → ∃ t o, exec i s = .next t ∧ laneStarted s t x g o ∧ t.coh = s.coh ∧
        (x.kind = .store → o.path = .near ∧ answersAt t o ends) ∧
        (x.kind ≠ .store → o.path = .posted ∧ answersAt t o (s.now + d + 44)) ∧
        (s.stackOut (stackOf a) = true → o.status = .unitLost ∧ t.mem = s.mem) ∧
        (s.stackOut (stackOf a) = false → o.status = .ok ∧
          buffered t o a (s.now + d + if inRefresh a (s.now + d) 40 then 654 else 174) ends)) ∧
      ((s.dir (a / 128)).st ≠ .i → ∃ t, exec i s = .next t ∧ looksUp s t x .write (a / 128) g)) ∧
    (∀ j, pl = .scratch j → ∃ t o, exec i s = .next t ∧ laneStarted s t x g o ∧ o.path = .scratch ∧ t.coh = s.coh ∧
      (s.scdOut (BitVec.ofNat 5 j) = true → o.status = .unitLost ∧ t.mem = s.mem ∧ answersAt t o (s.now + d + 38)) ∧
      (s.scdOut (BitVec.ofNat 5 j) = false → o.status = .ok ∧ answersAt t o (s.now + d + if x.kind = .store then 38 else 44) ∧
        buffered t o x.r.addr.toNat (s.now + d + 31) (s.now + d + 36))) ∧
    (∀ n, pl = .far n ∨ pl = .cold n → ∃ t o, exec i s = .next t ∧ laneStarted s t x g o ∧ t.mem = s.mem ∧ o.waits = true ∧
      o.path = (if pl = .far n then .tray else .cold) ∧ o.ext = some (n, s.extent n) ∧ (s.now + 24 + d, .forward k o.id) ∈ t.timed) ∧
    (∀ n, pl = .slot n →
      let e := s.extent n
      let off := x.r.addr.toNat - e.vbase
      let b := s.readBlock e (off / 256)
      ∃ t o, exec i s = .next t ∧ laneStarted s t x g o ∧ o.path = .slot ∧
        (s.slotLost e (off / 256) = true → o.status = .unitLost ∧ t.mem = s.mem ∧ answersAt t o (s.now + d + if b.2 then 1424 else 742)) ∧
        (s.slotLost e (off / 256) = false → b.1 = none → o.status = .mediaError ∧ t.mem = s.mem ∧
          answersAt t o (s.now + d + if b.2 then 1424 else 742)) ∧
        (s.slotLost e (off / 256) = false → ∀ v, b.1 = some v →
          let new := s.encodeBlock e (off / 256) (patch v (off % 256) (s.pieceData x.r)) (s.now + d + 1412)
          (new = none → o.status = .formatUnsupported ∧ answersAt t o (s.now + d + 1448) ∧ t.mem = s.mem ∧
            t.fw.events.length = s.fw.events.length + 1) ∧
          (∀ ws form masks, new = some (ws, form, masks) →
            let count := if b.2 then 1424 else if form = 2 then 1448 else 742
            o.status = .ok ∧ answersAt t o (s.now + d + count) ∧ ∃ w, t.mem.wbuf = s.mem.wbuf ++ [w] ∧ w.id = o.id ∧
              w.writes = ws ∧ w.due = s.now + d + count + 130 ∧ (w.due, .bank w.id) ∈ t.timed ∧
              ∀ m ∈ masks, (s.now + d + (if m.2 then 1412 else count + 706), .maskBit (ovfRecord e (off / 256)) m.1 m.2) ∈ t.timed))) ∧
    (pl = .lost → ∃ t o, exec i s = .next t ∧ laneStarted s t x g o ∧ t.mem = s.mem ∧ o.status = .unitLost ∧
      answersAt t o (s.now + d + if x.kind = .store then 212 else 44))

/-- Atomics (Table 11.5, R244, R336) and PUBLISH (R488, R489, R495, R496). -/
def Obligations.AtomicsByPlace : Prop :=
  ∀ (s : State) (x : Req) (pl : Place) (g : Option Nat), pieceOk x.kind x.r = true → served s x pl g →
    s.regs.rising = true →
    let k := s.pieceHome x
    let n := bits x.r.arg.toNat 7 0
    let opA := beAt x.r.ext 0 8 % 2 ^ (8 * n)
    let opB := beAt x.r.ext 8 8 % 2 ^ (8 * n)
    let late (a : Nat) : Bool := inRefresh a s.now 40
    let buffered (t : State) (o : LaneOp) (due : Nat) (ws : List (Nat × Byte)) : Prop := ∃ w, t.mem.wbuf = s.mem.wbuf ++ [w] ∧
      w.id = o.id ∧ w.k = k ∧ w.p = s.now ∧ w.due = due ∧ w.writes = ws ∧ w.counter = none ∧ (due, .bank o.id) ∈ t.timed
    (∀ i op, (i, op) ∈ [(Instr.atomicFadd x.r, AtomicOp.fadd), (.atomicFand x.r, .fand), (.atomicFor x.r, .for_),
        (.atomicFxor x.r, .fxor), (.atomicFmins x.r, .fmins), (.atomicFmaxs x.r, .fmaxs), (.atomicFminu x.r, .fminu),
        (.atomicFmaxu x.r, .fmaxu), (.atomicSwap x.r, .swap), (.atomicCas x.r, .cas), (.atomicFaddf x.r, .faddf)] →
      x.kind = .atomic op →
      (∀ a, pl.laneAddr x.r.addr.toNat = some a → (s.dir (a / 128)).st = .i →
        let word := leNat (s.memRead a n)
        let prior := if s.inHandoff a n then (handoffValue s.time.stroke word).1 else word
        ∃ t o, exec i s = .next t ∧ laneStarted s t x g o ∧ t.coh = s.coh ∧ o.path = .atomic ∧
          answersAt t o (s.now + if late a then 716 else 236) ∧
          (s.stackOut (stackOf a) = true → o.status = .unitLost ∧ t.mem = s.mem) ∧
          (s.stackOut (stackOf a) = false → s.laneBad a n = true → o.status = .mediaError ∧ t.mem = s.mem) ∧
          (s.stackOut (stackOf a) = false → s.laneBad a n = false → o.status = .ok ∧ leNat o.data = prior ∧
            buffered t o (s.now + if late a then 690 else 210) (writesAt a (leBytes n (table115 op (8 * n) prior opA opB))))) ∧
      (∀ a, pl.laneAddr x.r.addr.toNat = some a → (s.dir (a / 128)).st ≠ .i → ∃ t, exec i s = .next t ∧
        looksUp s t x .write (a / 128) g) ∧
      (∀ j, pl = .scratch j → s.scdOut (BitVec.ofNat 5 j) = true ∨ s.laneBad x.r.addr.toNat n = true →
        ∃ t o, exec i s = .next t ∧ laneStarted s t x g o ∧ o.path = .scratch ∧ answersAt t o (s.now + 38) ∧ t.mem = s.mem ∧
          o.status = if s.scdOut (BitVec.ofNat 5 j) then .unitLost else .mediaError) ∧
      (∀ j, pl = .scratch j → s.scdOut (BitVec.ofNat 5 j) = false → s.laneBad x.r.addr.toNat n = false →
        let prior := leNat (s.laneRead x.r.addr.toNat n)
        ∃ t o, exec i s = .next t ∧ laneStarted s t x g o ∧ o.path = .scratch ∧ answersAt t o (s.now + 38) ∧ o.status = .ok ∧
          leNat o.data = prior ∧
          buffered t o (s.now + 31) (writesAt x.r.addr.toNat (leBytes n (table115 op (8 * n) prior opA opB)))) ∧
      (∀ e, pl = .far e ∨ pl = .cold e → ∃ t o, exec i s = .next t ∧ laneStarted s t x g o ∧ t.mem = s.mem ∧ o.waits = true ∧
        o.path = (if pl = .far e then .tray else .cold) ∧ (s.now + 24, .forward k o.id) ∈ t.timed)) ∧
    (x.kind = .publish → ∀ a, pl.laneAddr x.r.addr.toNat = some a →
      (s.dir (a / 128)).st = .i → s.stackOut (stackOf a) = false → s.laneBad a 16 = false →
      let held := leNat (s.memRead a 6)
      let new := beAt x.r.ext 0 6
      ∃ t o, exec (.publish x.r) s = .next t ∧ laneStarted s t x g o ∧ o.path = .atomic ∧ t.coh = s.coh ∧
        answersAt t o (s.now + if late a then 716 else 236) ∧
        (held < new → o.status = .ok ∧ o.data = beBytes 6 new ++ [0, 0] ∧
          buffered t o (s.now + if late a then 690 else 210)
            (writesAt a (leBytes 6 new ++ [0, 0] ++ leBytes 8 (beAt x.r.ext 8 8)))) ∧
        (new ≤ held → o.status = .versionConflict ∧ o.data = beBytes 6 held ++ [0, 0] ∧ t.mem = s.mem ∧
          t.rv .fabVconfcnt = (s.rv .fabVconfcnt + 1) % 2 ^ 32))

/-- Contribution lines at the SCD of their context (Tables 4.6 and 9.1, R121, R125, R126, R211). That uncorrectable accumulator bytes answer
MEDIA_ERROR, and the address of a line of another SCD, are the model's readings (log entry 29). -/
def Obligations.ContributionLines : Prop :=
  ∀ (s : State) (x : Req) (pl : Place) (g : Option Nat), pieceOk x.kind x.r = true → served s x pl g →
    s.regs.rising = true → s.rcx.rising = true →
    ∀ i kind, (i, kind) ∈ [(Instr.redDenseLine x.r, RedKind.dense), (.redSparseLine x.r, .sparse), (.redDoneLine x.r, .done)] →
    x.kind = .red kind →
    let k := s.pieceHome x
    let l := redLine x.r
    let home := bits x.r.addr.toNat 12 8 = k.toNat
    let fmt := s.rcxFmt k l.ctx
    let op := s.rcxOp k l.ctx
    let named := fmtWidth l.fmt ≠ 0
    let bad := s.rcxState k l.ctx ≠ 1 ∨ (s.ctx k l.ctx).completing ≠ none ∨ l.gen ≠ s.rcxGen k l.ctx
    let odd := s.rcxContrib k l.ctx < l.contrib ∨ l.fmt ≠ fmt ∨
      (kind = .dense ∧ s.rcxLines k l.ctx ≤ l.line) ∨
      (kind = .sparse ∧ (s.rcxSparse k l.ctx = false ∨ s.rcxLines k l.ctx * lineElems op fmt < 64 * l.line + 64))
    let again := kind = .done ∧ l.contrib ∈ (s.ctx k l.ctx).done
    let rg := s.redRange k kind l
    let discarded (t : State) : Prop := t.mem = s.mem ∧ t.rcx = s.rcx ∧
      t.rv .scdRcxdrop k.toNat = (s.rv .scdRcxdrop k.toNat + 1) % 2 ^ 32
    ∃ t o, exec i s = .next t ∧ laneStarted s t x g o ∧ o.path = .posted ∧ answersAt t o (s.now + 44) ∧ t.coh = s.coh ∧
      (¬home → o.status = .unitLost ∧ t.mem = s.mem ∧ t.rcx = s.rcx) ∧
      (home → ¬named → o.status = .formatUnsupported ∧ discarded t) ∧
      (home → named → bad → o.status = .timeout ∧ discarded t) ∧
      (home → named → ¬bad → odd → o.status = .formatUnsupported ∧ discarded t) ∧
      (home → named → ¬bad → ¬odd → again → o.status = .ok ∧ discarded t) ∧
      (home → named → ¬bad → ¬odd → kind = .done → ¬again → o.status = .ok ∧ t.mem = s.mem ∧
        (t.ctx k l.ctx).done = (s.ctx k l.ctx).done ++ [l.contrib] ∧
        (t.ctx k l.ctx).declared = (s.ctx k l.ctx).declared + l.count ∧ (t.ctx k l.ctx).opened = (s.ctx k l.ctx).opened ∧
        t.rf .scdRcxProg 31 21 k.toNat l.ctx = (s.rf .scdRcxProg 31 21 k.toNat l.ctx + 1) % 2 ^ 11) ∧
      (home → named → ¬bad → ¬odd → kind ≠ .done → s.uncorrectable rg.1 rg.2 = true → o.status = .mediaError ∧ t.mem = s.mem ∧ t.rcx = s.rcx) ∧
      (home → named → ¬bad → ¬odd → kind ≠ .done → s.uncorrectable rg.1 rg.2 = false → o.status = .ok ∧
        (t.ctx k l.ctx).done = (s.ctx k l.ctx).done ∧ (t.ctx k l.ctx).declared = (s.ctx k l.ctx).declared ∧
        t.rf .scdRcxProg 17 0 k.toNat l.ctx = (s.rf .scdRcxProg 17 0 k.toNat l.ctx + 1) % 2 ^ 18 ∧
        let new := redCombine op fmt (s.rcxSat k l.ctx) kind (s.laneRead rg.1 rg.2) x.r.data
        (new = [] → t.mem.wbuf = s.mem.wbuf) ∧
        (new ≠ [] → ∃ w, t.mem.wbuf = s.mem.wbuf ++ [w] ∧ w.id = o.id ∧ w.due = s.now + 31 ∧ w.writes = writesAt rg.1 new ∧
          (w.due, .bank w.id) ∈ t.timed))

/-- Queues, holds and refusals (R12, R88, R133, R136, R308, R309, R332, Table 15.11). That a full hold buffer drops a request of any class, and
that a refusal takes 16 cy, are the model's readings (log entry 32). -/
def Obligations.QueuesHoldsAndRefusals : Prop :=
  ∀ (s : State) (k : Scd), s.regs.rising = true →
    (∀ x : Req, pieceOk x.kind x.r = true → s.pieceHome x = k → x.kind.reply = false →
      let pl := s.reqPlace k x
      let held := countIf (fun (h : Held) => h.k == k) s.lane.held
      (s.scdOut k = true → exec (pieceRow x) s = .next s) ∧
      (s.scdOut k = false → ∀ a, pl.laneAddr x.r.addr.toNat = some a → s.mustHold k x (a / 128) false = true →
        ∃ t, exec (pieceRow x) s = .next t ∧ t.mem = s.mem ∧ t.lane.ops = s.lane.ops ∧ t.coh.entries = s.coh.entries ∧ t.scd = s.scd ∧
          (held < 512 → t.lane.held.length = s.lane.held.length + 1 ∧
            (∃ h ∈ t.lane.held, h.k = k ∧ h.req = x ∧ h.place = s.lane.nextId ∧ h.line = a / 128) ∧
            (∀ h ∈ t.lane.held, h.k = k → h.line = a / 128 → h.released = false)) ∧
          (512 ≤ held → t.lane.held = s.lane.held ∧ t.rv .dirHolddrop k.toNat = (s.rv .dirHolddrop k.toNat + 1) % 2 ^ 32)) ∧
      (s.scdOut k = false → (∀ a, pl.laneAddr x.r.addr.toNat = some a → s.mustHold k x (a / 128) false = false) →
        ∀ g st, s.admission k x = (pl, g, st) →
        (st ≠ .ok → ∃ t o, exec (pieceRow x) s = .next t ∧ laneStarted s t x none o ∧ t.mem = s.mem ∧ o.path = .refusal ∧
          o.status = st ∧ o.data = [] ∧ answersAt t o (s.now + 16) ∧
          (s.ready = false → pl ≠ .control → st = .notReady) ∧ t.sec.grants = s.sec.grants) ∧
        (∀ l, st = .ok → s.combinable k x pl = true → s.leader k x s.now = some l →
          ∃ t o, exec (pieceRow x) s = .next t ∧ o ∈ t.lane.ops ∧ o.id = l.id ∧ o.followers = l.followers ++ [(x, g, s.now)] ∧
            t.lane.nextId = s.lane.nextId + 1 ∧ t.lane.ops.length = s.lane.ops.length ∧ t.mem.bytes = s.mem.bytes ∧ t.timed = s.timed))) ∧
    (∀ (m : BitVec 8),
      (s.scdOut k = true → exec (.queueSlot k m) s = .next s) ∧
      (∀ (c : Nat) (q : QReq) (qs : List QReq), s.scdOut k = false → s.heldHead k = none → c < 8 → m.getLsbD c = true →
        s.reqQueue k c = q :: qs → (∀ b < c, m.getLsbD b = true → s.reqQueue k b = []) →
        exec (.queueSlot k m) s = .next ((s.setReqQueue k c qs).dequeue k q.req none)) ∧
      (∀ (c : Nat) (h : Held) (q : QReq) (qs : List QReq), s.scdOut k = false → s.heldHead k = some h → c < h.req.r.cls.toNat →
        m.getLsbD c = true → s.reqQueue k c = q :: qs → (∀ b < c, m.getLsbD b = true → s.reqQueue k b = []) →
        exec (.queueSlot k m) s = .next ((s.setReqQueue k c qs).dequeue k q.req none)) ∧
      (∀ (c : Nat) (h : Held), s.scdOut k = false → s.heldHead k = some h → c = h.req.r.cls.toNat → m.getLsbD c = true →
        (∀ b < c, m.getLsbD b = true → s.reqQueue k b = []) →
        exec (.queueSlot k m) s = exec (.heldRequestReenter k) s) ∧
      (s.heldHead k = none → (∀ c < 8, m.getLsbD c = true → s.reqQueue k c = []) → exec (.queueSlot k m) s = .next s)) ∧
    (∀ h : Held, s.heldHead k = some h →
      let rest := dropFirst (fun y => y == h) s.lane.held
      exec (.heldRequestReenter k) s = .next (({ s with lane := { s.lane with held := rest } } : State).dequeue h.k h.req (some h.place))) ∧
    (s.heldHead k = none → exec (.heldRequestReenter k) s = .next s) ∧
    (∀ (id c : Nat) (o : LaneOp), eventAt s (.respond k id) c → s.findOp id = some o → o.k = k → o.waits = false → o.followers = [] → o.fill = none →
      o.req.kind.coherent = false → o.path ≠ .posted → o.path ≠ .refusal → o.status = .ok →
      let u := s.cancel (fun e => e == .respond k id)
      let v : State := { u with lane := { u.lane with ops := u.lane.ops.filter fun (y : LaneOp) => y.id != id } }
      let answer (st : Status) (data : List Byte) : State := (v.grantLeave o.grant).sendResponse k o.req.kind.opc o.req.r st data
      let current := (s.tenant o.req.r.tenant).epoch = o.req.r.tepoch
      (¬current → momentRow s (.requestResponseBuild k id) c (answer .tenantGone [])) ∧
      (current → s.opOnLost o = true → momentRow s (.requestResponseBuild k id) c (answer .unitLost [])) ∧
      (current → s.opOnLost o = false → momentRow s (.requestResponseBuild k id) c (answer .ok o.data))) ∧
    (∀ id, s.timed.find? (fun e => e.2 == .respond k id) = none → exec (.requestResponseBuild k id) s = .next s)

/-- The directory (Tables 10.4 and 10.5, R301 to R304, R308 to R313, R564): a request looks its entry up until cy 8, and `Timed.lookup` is the
end of that lookup. UPG of an agent that is no holder is treated as RD_X by the model (log entry 33). -/
def Obligations.CoherenceRequests : Prop :=
  (∀ (s : State) (x : Req) (a : BitVec 5) (g : Option Nat), pieceOk x.kind x.r = true → cohServed s x a g →
    let line := x.r.addr.toNat / 128
    let free := s.orphan line = false ∨ s.agents (s.pieceHome x) = []
    (∀ i, (i, x.kind) ∈ [(Instr.rdS x.r, ReqKind.rdS), (.rdX x.r, .rdX), (.upg x.r, .upg)] →
      ∃ t, exec i s = .next t ∧ (free → looksUp s t x .request line g) ∧ (¬free → looksUp s t x .orphan line g)) ∧
    (∀ i, (i, x.kind) ∈ [(Instr.wb x.r, ReqKind.wb), (.wbKeep x.r, .wbKeep)] →
      ∃ t, exec i s = .next t ∧ looksUp s t x .writeBack line g)) ∧
  (∀ (s : State) (k : Scd) (x : Lookup), (∀ y ∈ s.coh.txns, y.id < s.lane.nextId) → s.coh.entries.rising = true →
    let t := s.timedApply (.lookup k x)
    let line := x.line
    let e := s.dir line
    let cached := (s.mem.scache.find line).isSome = true
    let late := inRefresh (128 * line) (x.p + 8) 38 = true
    let reading (w : Txn) : Prop := w.need = true ∧
      (cached → w.readAt = some (x.p + 8) ∧ w.readEnd = some (x.p + 44)) ∧
      (¬cached → ¬late → w.readAt = some (x.p + 46) ∧ w.readEnd = some (x.p + 218)) ∧
      (¬cached → late → w.readAt = some (x.p + 526) ∧ w.readEnd = some (x.p + 698))
    let still : Prop := t.mem = s.mem ∧ t.scd = s.scd ∧ t.lane.held = s.lane.held ∧ t.lane.ops = s.lane.ops
    let waits : Prop := t.coh.txns = s.coh.txns ∧ t.coh.entries = s.coh.entries ∧ t.scd = s.scd ∧
      (countIf (fun (h : Held) => h.k == k) s.lane.held < 512 → t.lane.held.length = s.lane.held.length + 1 ∧
        ∃ h ∈ t.lane.held, h.req = x.req ∧ h.place = x.carry.place ∧ h.line = line ∧ h.k = k ∧ h.released = false)
    let excl (w : Txn) (b : Prop) : Prop := (b → reading w) ∧ (¬b → w.readEnd = none)
    (s.busy line = true → x.kind = .request ∨ x.kind = .write ∨ x.kind = .orphan → waits) ∧
    (∀ a kind opc (st : LineSt), x.kind = .request → s.busy line = false → s.agentOn k x.req.r.port.toNat = some a →
      (kind, x.req.kind, opc, st) ∈ [(TxnKind.readS, ReqKind.rdS, 0x15, LineSt.e), (.readX, .rdX, 0x16, .m), (.readX, .upg, 0x16, .m)] →
      let others := (s.holders k e).filter fun b => b ≠ a
      let holds := e.bcast = true ∨ a ∈ e.sharers ∨ e.owner = some a
      let shared := e.st = .s ∨ e.st = .o
      (e.st = .e ∨ e.st = .m → still ∧ t.coh.entries = s.coh.entries ∧ ∃ w, snooped s t k x opc kind e.owner.toList w ∧ w.agent = some a ∧
        w.grantIx = x.grant ∧ excl w (e.st = .e)) ∧
      (shared → x.req.kind = .rdS → still ∧ t.coh.entries = s.coh.entries ∧ ∃ w, snooped s t k x opc kind [] w ∧ w.agent = some a ∧
        reading w) ∧
      (shared → x.req.kind = .rdX ∨ (x.req.kind = .upg ∧ ¬holds) → still ∧ t.coh.entries = s.coh.entries ∧
        ∃ w, snooped s t k x opc kind others w ∧ w.agent = some a ∧ reading w) ∧
      (shared → x.req.kind = .upg → holds → still ∧ t.coh.entries = s.coh.entries ∧ ∃ w, snooped s t k x opc .upgrade others w ∧
        w.agent = some a ∧ w.need = false ∧ w.readEnd = none) ∧
      (s.entry line = none →
        let own : DirEntry := { way := 0, st := st, bcast := false, owner := some a, sharers := [] }
        let es := s.setEntries k (dirSet line)
        let full := ∀ w < 16, ∃ y ∈ es, y.2.way = w
        (∀ w, w < 16 → (∀ y ∈ es, y.2.way ≠ w) → (∀ v < w, ∃ y ∈ es, y.2.way = v) →
          still ∧ t.entry line = some { own with way := w } ∧ (∀ l, l ≠ line → t.entry l = s.entry l) ∧
          ∃ tx, snooped s t k x opc kind [] tx ∧ tx.agent = some a ∧ reading tx) ∧
        (∀ v, full → s.victim k (dirSet line) = some v → s.victims k < 64 →
          still ∧ t.entry line = some { own with way := v.2.way } ∧ t.entry v.1 = none ∧
          (∀ l, l ≠ line → l ≠ v.1 → t.entry l = s.entry l) ∧
          ∃ tx ev, snooped s t k x opc kind [] tx ∧ tx.agent = some a ∧ reading tx ∧
            ev ∈ t.coh.txns ∧ ev.kind = .evict ∧ ev.line = v.1 ∧ ev.before = v.2) ∧
        (full → s.victim k (dirSet line) = none ∨ 64 ≤ s.victims k → waits))) ∧
    (x.kind = .write → s.busy line = false → still ∧ t.coh.entries = s.coh.entries ∧
      (e.st = .i → (s.now, .restart k x.req x.grant x.carry) ∈ t.timed ∧ t.coh.txns = s.coh.txns) ∧
      (e.st ≠ .i → ∃ w, snooped s t k x 0x16 .write (s.holders k e) w ∧ w.grantIx = x.grant)) ∧
    (∀ op o, x.kind = .load op → s.busy line = false → s.lane.ops.find? (fun (o : LaneOp) => o.id == op) = some o →
      e.st = .e ∨ e.st = .m → still ∧ t.coh.entries = s.coh.entries ∧
      ∃ w, snooped s t k x 0x15 (.load op) e.owner.toList w ∧ w.need = (o.path == .coherent) ∧ w.readEnd = none) ∧
    (x.kind = .orphan → s.busy line = false → s.orphan line = true →
      let r := if x.req.kind.coherent then s.agentOn k x.req.r.port.toNat else none
      still ∧ t.coh.entries = s.coh.entries ∧ ∃ w, snooped s t k x 0x16 .orphan ((s.agents k).filter fun a => r ≠ some a) w) ∧
    (∀ a keep, x.kind = .writeBack → s.agentOn k x.req.r.port.toNat = some a →
      (x.req.kind, keep) ∈ [(ReqKind.wb, false), (.wbKeep, true)] →
      let ends := x.p + if inRefresh (128 * line) x.p 40 then 692 else 212
      let push : Push := { ends := ends, bytes := x.req.r.data, wb := some x.req, agent := a }
      let mine := e.st = .m ∧ e.owner = some a
      (s.busy line = false → mine → still ∧ t.coh.entries = s.coh.entries ∧
        ∃ w ∈ t.coh.txns, w.line = line ∧ w.kind = .writeBack keep ∧ w.grantIx = x.grant ∧ w.pushes = [push] ∧
          (ends, .homeEnd k w.id) ∈ t.timed) ∧
      (s.busy line = false → ¬mine → t.coh = s.coh ∧ t.mem = s.mem ∧ ∃ o ∈ t.lane.ops, o.req = x.req ∧ o.path = .refusal ∧
        o.status = .ok ∧ o.grant = x.grant ∧ (x.p + 16, .respond k o.id) ∈ t.timed) ∧
      (∀ w, s.txnOn line = some w → (∀ v ∈ s.coh.txns, v.id = w.id → v = w) → w.overtaken = false →
        a ∈ w.wbpend ∨ (∃ y ∈ w.snoops, y.agent = a ∧ y.opc ≠ 0x18) →
        t.coh.entries = s.coh.entries ∧ ∃ w' ∈ t.coh.txns, w'.id = w.id ∧ w'.pushes = w.pushes ++ [push] ∧
          a ∉ w'.wbpend ∧ a ∈ w'.wbGot ∧ (ends, .homeEnd k w.id) ∈ t.timed)))

/-- Replies and timeouts of the coherent domain (Table 10.5, R303, R305, R306, R317, R318). Rows that name a moment are log entry 3. -/
def Obligations.CoherenceReplies : Prop :=
  ∀ (s : State) (k : Scd),
    (∀ (x : Req) (i : Instr), (i, x.kind) ∈ [(Instr.pushData x.r, ReqKind.pushData), (.ack x.r, .ack), (.ackWbpend x.r, .ackWbpend),
        (.stashAck x.r, .stashAck), (.stashNak x.r, .stashNak)] → pieceOk x.kind x.r = true → s.pieceHome x = k → s.scdOut k = false →
      let fits (w : Txn) (y : Snoop) : Bool := w.cause.1 == x.r.tenant && y.opid == x.r.opid && y.until_.isNone
      let mine (w : Txn) : Bool := w.k == k && w.snoops.any (fits w)
      (s.coh.txns.find? mine = none → exec i s = .next (s.noteReturn x)) ∧
      (∀ w y, s.coh.txns.find? mine = some w → w.snoops.find? (fits w) = some y → w.overtaken = false ∨ x.kind ≠ .pushData →
        let c := if x.kind = .pushData then pushEnd w.line s.now else s.now + 8
        ∃ t w', exec i s = .next t ∧ w' ∈ t.coh.txns ∧ w'.id = w.id ∧ w'.line = w.line ∧
          w'.snoops = w.snoops.map (fun z => if fits w z then { z with until_ := some c } else z) ∧ (c, .homeEnd k w.id) ∈ t.timed ∧
          t.mem = s.mem ∧ t.scd = s.scd ∧ t.lane = s.lane ∧ t.coh.entries = s.coh.entries ∧
          (x.kind = .pushData → w'.pushes = w.pushes ++ [{ ends := c, bytes := x.r.data, wb := none, agent := y.agent }]) ∧
          (x.kind ≠ .pushData → w'.pushes = w.pushes) ∧
          (x.kind = .ackWbpend → w'.wbpend = if y.agent ∈ w.wbGot then w.wbpend else w.wbpend ++ [y.agent]) ∧
          (x.kind ≠ .ackWbpend → w'.wbpend = w.wbpend) ∧
          (x.kind = .stashNak → w'.gone = w.gone ++ [y.agent]) ∧ (x.kind ≠ .stashNak → w'.gone = w.gone))) ∧
    (∀ (id c : Nat) (a : BitVec 5) (w : Txn) (y : Snoop) (f : Frame), eventAt s (.snoop k id a) c →
      s.coh.txns.find? (fun w => w.id == id && w.k == k) = some w → w.snoops.find? (fun y => y.agent == a) = some y →
      s.cohFrame k a y.opc 0 w.line w.cause.1 w.cause.2 y.opid [] = some f →
      let u := s.cancel (fun e => e == .snoop k id a)
      momentRow s (.snoopRelease k id a) c ((if y.built < y.hand then u.bump .dirSustain 1 k.toNat else u).sendFrame k f)) ∧
    (∀ id a, s.timed.find? (fun e => e.2 == .snoop k id a) = none → exec (.snoopRelease k id a) s = .next s) ∧
    (∀ (id c : Nat) (w : Txn) (x : Req) (a : BitVec 5) (b e : Nat), eventAt s (.homeEnd k id) c →
      s.coh.txns.find? (fun w => w.id == id && w.k == k) = some w →
      (∀ v ∈ s.coh.txns, v.id = id → v = w) → w.kind = .readX → w.req = some x → w.agent = some a → w.need = true → w.readAt = some b →
      w.readEnd = some e → w.snoops = [] → w.wbpend = [] → w.pushes = [] → w.pushed = false → w.met = [] →
      b ≤ s.now → e ≤ s.now → w.ready ≤ s.now →
      s.stackOut (stackOf (128 * w.line)) = false → s.uncorrectable (128 * w.line) 128 = false →
      ∃ t, momentRow s (.homeReadComplete k id) c t ∧ (∀ v ∈ t.coh.txns, v.id ≠ id) ∧ (t.dir w.line).st = .m ∧
        (t.dir w.line).owner = some a ∧ (t.dir w.line).sharers = [] ∧ t.scd = s.scd ∧
        (w.line, a, s.now + 96) ∈ t.coh.sustain) ∧
    (∀ id, s.timed.find? (fun e => e.2 == .homeEnd k id) = none → exec (.homeReadComplete k id) s = .next s) ∧
    (∀ (id : Nat) (w : Txn) (y : Snoop) (a : BitVec 5), s.regs.rising = true →
      s.coh.txns.find? (fun w => w.id == id && w.k == k) = some w →
      (∀ v ∈ s.coh.txns, v.id = id → v = w) → w.snoops.find? (fun y => y.agent == a && y.open_ s.now) = some y →
      let c := 1536 * (y.hand / 1536 + s.rf .lmtTmo 15 0)
      ∃ t w', momentRow s (.domainTimeout k id a) c t ∧ (∀ j, j < 32 → t.rf .dirAgent 30 30 j a.toNat = 1) ∧
        (∀ j, j < 32 → bitAt (t.av .dirAgent j a.toNat) 30 = true) ∧ w' ∈ t.coh.txns ∧ w'.id = id ∧ a ∈ w'.gone ∧ .timeout ∈ w'.met ∧
        (∀ z ∈ w'.snoops, z.agent = a → z.opc = 0x18) ∧ t.scd = s.scd ∧
        (s.rf .dirAgent 30 30 k.toNat a.toNat = 0 → ∃ ev, t.fw.events = s.fw.events ++ [ev] ∧ ev.code = 0x000A ∧ ev.unit = a.toNat)) ∧
    (∀ id a, s.snoopExpires k id a = none → exec (.domainTimeout k id a) s = .next s)

/-- Transport, governor and egress (R344 to R352, R364, R370, R383, R384, R392). Flows of unlisted addresses are log entry 16, the record of frames
sent is the model's own (log entry 11). -/
def Obligations.TraysGovernorAndEgress : Prop :=
  ∀ (s : State), s.regs.rising = true → s.net.planned.rising = true → s.net.barrier.rising = true →
    (∀ (w : Fwd) (o : LaneOp) (op : Nat) (st : Status), w ∈ s.lane.fwd → w.kind = .request op → s.findOp op = some o →
      o.followers = [] → s.tier.jobs = [] → w.pieces = 1 →
      (∀ y ∈ s.lane.fwd, (y.tenant = w.tenant ∧ y.opid = w.opid) ∨ y.id = w.id → y = w) →
      o.grant = none → o.path = .tray →
      (∀ (r : TrayResp), r.tenant = w.tenant → r.opid = w.opid → r.status.toNat = st.code →
        ∃ t, exec (.trayResponse r) s = .next t ∧ (∀ y ∈ t.lane.ops, y.id ≠ op) ∧
          t.lane.fwd = s.lane.fwd.filter (fun y => y.id != w.id) ∧ t.mem.bytes = s.mem.bytes ∧ t.mem.wbuf = s.mem.wbuf ∧ t.scd = s.scd) ∧
      (let c := 1536 * (w.stroke + s.rf .lmtTmo 15 0)
       ∃ t, momentRow s (.trayForwardTimeout w.id) c t ∧ (∀ y ∈ t.lane.ops, y.id ≠ op) ∧
        t.lane.fwd = s.lane.fwd.filter (fun y => y.id != w.id) ∧ t.rv .lmtTmocnt = (s.rv .lmtTmocnt + 1) % 2 ^ 32 ∧
        t.mem.bytes = s.mem.bytes ∧ t.mem.wbuf = s.mem.wbuf ∧ t.scd = s.scd)) ∧
    (∀ id, (∀ y ∈ s.lane.fwd, y.id ≠ id) → exec (.trayForwardTimeout id) s = .next s) ∧
    (∀ r : TrayResp, (∀ y ∈ s.lane.fwd, y.tenant = r.tenant → y.opid ≠ r.opid) → ∃ t, exec (.trayResponse r) s = .next t ∧
      t.rv .lmtLate = (s.rv .lmtLate + 1) % 2 ^ 32 ∧ t.lane = s.lane ∧ t.mem = s.mem ∧ t.tier = s.tier) ∧
    (∀ (tenant : Tenant) (opid : BitVec 32) (ece : Bool),
      (∀ i, s.net.governed.find (2 ^ 32 * tenant.toNat + opid.toNat) = some i → ∃ t, exec (.governedResponse ⟨tenant, opid⟩ ece) s = .next t ∧
        t.flow i = { s.flow i with acks := (s.flow i).acks + 1, marks := (s.flow i).marks + (if ece then 1 else 0) } ∧
        (∀ j, j ≠ i → t.flow j = s.flow j) ∧
        t.rv .lmtEcerx = (s.rv .lmtEcerx + if ece then 1 else 0) % 2 ^ 32 ∧ t.lane = s.lane ∧ t.mem = s.mem) ∧
      (s.net.governed.find (2 ^ 32 * tenant.toNat + opid.toNat) = none → exec (.governedResponse ⟨tenant, opid⟩ ece) s = .next s)) ∧
    (∀ (i : BitVec 13) (f : Frame), s.net.pacing.find? (fun x => x.1 == i.toNat) = some (i.toNat, f) →
      let paced := s.rf .lmtRgCfg 31 31 = 1
      let next := (s.flow i.toNat).next
      let left := dropFirst (fun y => y.1 == i.toNat) s.net.pacing
      (paced → s.now < next → exec (.governedFrameRelease i) s = .next (State.run (next - s.now) s)) ∧
      (¬paced ∨ (next ≤ s.now ∧ s.flowWaits i.toNat = false) → exec (.governedFrameRelease i) s =
        .next (({ s with net := { s.net with pacing := left } } : State).enqueueFrame f)) ∧
      (paced → next ≤ s.now → s.flowWaits i.toNat = true → exec (.governedFrameRelease i) s = .next s)) ∧
    (∀ i : BitVec 13, s.net.pacing.find? (fun x => x.1 == i.toNat) = none → exec (.governedFrameRelease i) s = .next s) ∧
    (∀ p : Port,
      (s.now < SMap.get 0 s.net.busy p.toNat → exec (.egressStart p) s = .next s) ∧
      (∀ (f : Frame) (fs : List Frame), SMap.get 0 s.net.busy p.toNat ≤ s.now → s.frames (.planned p.toNat) = f :: fs → f.port = p →
        (s.portUp p.toNat = true → ∀ f', s.staleFrame f = some f' → f'.port = p →
          ∃ t, exec (.egressStart p) s = .next t ∧ t.net.wire = s.net.wire ++ [{ at_ := s.now, frame := f', bytes := s.frameBytes f', lost := false }] ∧
            (∀ i, f'.flow = some i → let rate := s.flowRate (s.flow i) (10 * s.portRate p.toNat)
              (t.flow i).next = s.now + (120 * f'.size + rate - 1) / rate ∧ (t.flow i).step = (s.flow i).step) ∧
            t.frames (.planned p.toNat) = fs ∧ SMap.get 0 t.net.busy p.toNat = s.now + ceilDiv (12 * f'.size) (s.portRate p.toNat) ∧
            t.mem = s.mem ∧ t.lane.ops = s.lane.ops ∧ t.scd = s.scd) ∧
        (s.portUp p.toNat = false → ∃ t, exec (.egressStart p) s = .next t ∧ t.net.wire = s.net.wire ∧
          t.frames (.planned p.toNat) = fs ∧ t.mem = s.mem ∧ t.lane = s.lane ∧ t.scd = s.scd)) ∧
      (s.net.barrier.find p.toNat = none → exec (.barrierClear p) s = .next s) ∧
      (∀ cs, s.net.barrier.find p.toNat = some cs → ∃ t, exec (.barrierClear p) s = .next t ∧
        (∀ c ds, cs = c :: ds → s.beforeBarrier p.toNat c = true → t.net.barrier.find p.toNat = some cs) ∧
        ((∀ c ∈ cs, s.beforeBarrier p.toNat c = false) → t.net.barrier.find p.toNat = none) ∧
        SMap.get [] t.net.barrier p.toNat = cs.dropWhile (fun c => !s.beforeBarrier p.toNat c) ∧
        (∀ q, q ≠ p.toNat → t.net.barrier.find q = s.net.barrier.find q) ∧ t = { s with net := { s.net with barrier := t.net.barrier } })) ∧
    (s.net.samples = [] → exec .sampleRecordWrite s = .next s) ∧
    (∀ x xs, s.net.samples = x :: xs →
      let n := 2 ^ s.rf .qosSmpSize 4 0
      let a := s.rf .qosSmpBaseHi 24 0 * 2 ^ 32 + s.rf .qosSmpBaseLo 31 7 * 128 + 384 * (s.rv .qosSmpHead % n)
      let full := (s.rv .qosSmpHead + 2 ^ 32 - s.rv .qosSmpTail) % 2 ^ 32 = n
      (full → ∃ t, exec .sampleRecordWrite s = .next t ∧ t.net.samples = xs ∧ t.mem = s.mem ∧
        t.rv .qosSmpdrop = (s.rv .qosSmpdrop + 1) % 2 ^ 32 ∧ t.rv .qosSmpHead = s.rv .qosSmpHead) ∧
      (¬full → SMap.canon 0 s.mem.bytes = true → ∃ t, exec .sampleRecordWrite s = .next t ∧ t.net.samples = xs ∧
        t.bankRead a x.2.length = x.2 ∧ (∀ b, b < a ∨ a + x.2.length ≤ b → t.bankByte b = s.bankByte b) ∧
        t.rv .qosSmpHead = (s.rv .qosSmpHead + 1) % 2 ^ 32 ∧ t.rv .qosSmpdrop = s.rv .qosSmpdrop))

/-- Reception (R321, R322, R347, R389, R392, R399). The size of a neighbor answer is PRESUMED (log entry 38) and the statement does not name it. -/
def Obligations.FramesReceived : Prop :=
  ∀ (s : State) (p : Port) (f : RxFrame), s.regs.rising = true → p.toNat < 642 →
    let mgmt := 640 ≤ p.toNat
    let open_ := s.portUp p.toNat = true ∧ (p.toNat < 640 → ∃ k, s.owner p.toNat = some k)
    let count (t : State) (r : Reg) (n : Nat) : Prop :=
      t.rv r (portUnit p.toNat) (portIndex p.toNat) = (s.rv r (portUnit p.toNat) (portIndex p.toNat) + n) % 2 ^ 32
    let fec (t : State) : Prop := count t .lanePfeccor f.fecCor ∧ count t .lanePfecunc f.fecUnc
    let good := f.fcsOk = true ∧ f.fecUnc = 0
    (¬open_ → exec (.frameReceive p f) s = .next s) ∧
    (open_ → ¬good → mgmt → exec (.frameReceive p f) s = .next s) ∧
    (open_ → ¬good → ¬mgmt → ∃ t, exec (.frameReceive p f) s = .next t ∧ count t .lanePrxfcs 1 ∧ fec t ∧
      t.timed = s.timed ∧ t.mem = s.mem ∧ t.lane = s.lane ∧ t.net = s.net) ∧
    (open_ → good → ∃ t, exec (.frameReceive p f) s = .next t ∧ (s.now + 40, .parse p f) ∈ t.timed ∧
      (∀ e ∈ t.timed, e ∈ s.timed ∨ e = (s.now + 40, .parse p f)) ∧ (¬mgmt → count t .lanePrxfrm 1 ∧ fec t) ∧
      t.mem = s.mem ∧ t.lane = s.lane ∧ t.net = s.net) ∧
    (∀ (ip : BitVec 128) (who : RetPath), mgmt → s.net.planned.rising = true →
      let mine := s.ownIp p.toNat ip = true
      (s.portUp p.toNat = true → mine → ∃ t g, exec (.neighborSolicitation p ip who) s = .next t ∧
        t.frames (.planned p.toNat) = s.frames (.planned p.toNat) ++ [g] ∧ g.body = .neighbor ip ∧ g.dest = who.ip ∧ g.src = ip ∧
        g.port = p ∧ g.enq = s.now ∧ t.mem = s.mem ∧ t.lane = s.lane) ∧
      (s.portUp p.toNat = false ∨ ¬mine → exec (.neighborSolicitation p ip who) s = .next s))

/-- Command rings (Tables 17.1, 17.3 to 17.5, R505 to R509, R513). A command row is firmware executing that command at once (log entry 21, DESIGN
CHOICE). -/
def Obligations.CommandsRefusedPostedAndTaken : Prop :=
  (∀ (s : State) (c : Cmd) (i : Instr) (opc need : Nat), commandRow c i opc need ∨ (kindRow c i opc ∧ need = 0) →
    let r := Cmd.running c opc
    let rot := 0x30 ≤ opc ∧ opc ≤ 0x36 ∨ opc = 0x50 ∨ opc = 0x51
    let named := c.buf ≠ 0 ∨ c.buflen ≠ 0 ∨ need ≠ 0
    let outside := c.buf.toNat < 0x017FC0000000 ∨ 0x018000000000 < c.buf.toNat + max need c.buflen.toNat
    (named → outside → exec i s = .next ((begun s c opc).complete r .noGrant)) ∧
    (¬(named ∧ outside) → rot → (begun s c opc).rotHeld = true → exec i s = .next ((begun s c opc).complete r .unitLost))) ∧
  (∀ (s : State) (r : Running) (st : Status) (r0 r1 : Nat) (g : Ring), s.ring r.q.toNat = some g → quietLog s →
    SMap.canon 0 s.mem.bytes = true → r.opcode < 2 ^ 16 →
    let t := s.complete r st r0 r1
    let a := g.pring + 32 * (g.ctail % 2 ^ g.n)
    let e := t.bankRead a 32
    leAt e 0 4 = r.cmdid.toNat ∧ leAt e 4 2 = r.opcode ∧ leAt e 6 1 = st.code ∧ leAt e 7 1 = 1 - g.ctail / 2 ^ g.n % 2 ∧
    leAt e 8 8 = r0 % 2 ^ 64 ∧ leAt e 16 8 = r1 % 2 ^ 64 ∧ leAt e 24 8 = s.time.stroke % 2 ^ 64 ∧
    (∀ b, b < a ∨ a + 32 ≤ b → t.bankByte b = s.bankByte b) ∧
    t.ring r.q.toNat = some { g with ctail := (g.ctail + 1) % 2 ^ 32 } ∧
    (∀ q, q ≠ r.q.toNat → t.ring q = s.ring q) ∧ t.fw.running = dropFirst (fun x => x == r) s.fw.running ∧
    t.scd = s.scd ∧ t.regs = s.regs ∧ t.sec = s.sec ∧ t.seg = s.seg ∧ t.due = s.due) ∧
  (∀ (s : State) (q : BitVec 4) (g : Ring), s.ring q.toNat = some g → s.nextTake = some q.toNat →
    let b := s.laneRead (g.cring + 64 * (g.chead % 2 ^ g.n)) 64
    let c := entryCmd q b
    let u := s.setRing q.toNat { g with chead := (g.chead + 1) % 2 ^ 32 }
    let v : State := { u with fw := { u.fw with nextRing := (q.toNat + 1) % 16 } }
    (entryZeros b = true → ∀ i need, commandRow c i (leAt b 0 2) need → exec (.commandTake q) s = exec i v) ∧
    (entryZeros b = false → exec (.commandTake q) s =
      .next ((begun v c (leAt b 0 2)).complete (Cmd.running c (leAt b 0 2)) .formatUnsupported))) ∧
  (∀ (s : State) (q : BitVec 4), s.nextTake ≠ some q.toNat → exec (.commandTake q) s = .next s)

/-- Rings (R504 to R515, R575 to R577, R580 to R582). Which operand bits of these commands are examined, and in which order RING_CREATE refuses, are
the model's readings (log entries 40 and 41). -/
def Obligations.RingsDoorbellsAndLogs : Prop :=
  ∀ (s : State),
    (∀ c : Cmd, bufOk c 0 = true →
      let u := begun s c 0x01
      let a := c.arg0.toNat % 2 ^ 32
      let done (st : Status) (v : Nat) (w : State) : State := w.complete (Cmd.running c 0x01) st v
      let bad := a % 4 ≠ 0 ∨ blockOf a = none
      (bad → exec (.regRead c) s = .next (done .formatUnsupported 0 u)) ∧
      (¬bad → u.dieOut a = true → exec (.regRead c) s = .next (done .unitLost 0 u)) ∧
      (¬bad → u.dieOut a = false → RegRef.locate a = none → exec (.regRead c) s = .next (done .ok 0 u)) ∧
      (¬bad → u.dieOut a = false → ∀ x, RegRef.locate a = some x →
        exec (.regRead c) s = .next (done .ok (u.regValue x) (u.regRead x).2))) ∧
    (∀ c : Cmd, bufOk c 0 = true →
      let u := begun s c 0x02
      let a := c.arg0.toNat % 2 ^ 32
      let done (st : Status) (v : Nat) (w : State) : State := w.complete (Cmd.running c 0x02) st v
      let bad := a % 4 ≠ 0 ∨ blockOf a = none
      (bad → exec (.regWrite c) s = .next (done .formatUnsupported 0 u)) ∧
      (¬bad → u.dieOut a = true → exec (.regWrite c) s = .next (done .unitLost 0 u)) ∧
      (¬bad → u.dieOut a = false → RegRef.locate a = none → exec (.regWrite c) s = .next (done .ok 0 u)) ∧
      (¬bad → u.dieOut a = false → ∀ x, RegRef.locate a = some x →
        let v := u.regWrite x (c.arg1.toNat % 2 ^ 32)
        exec (.regWrite c) s = .next (done .ok (v.regValue x) (v.regRead x).2))) ∧
    (∀ c : Cmd, bufOk c 0 = true →
      let u := begun s c 0x03
      let done (st : Status) (w : State) : State := w.complete (Cmd.running c 0x03) st
      let q := c.arg0.toNat % 16
      let n := c.arg0.toNat / 256 % 16
      let cr := c.arg1.toNat
      let pr := c.arg2.toNat
      let shape := q ≠ 0 ∧ 4 ≤ n ∧ n ≤ 12
      let inside := inControl cr (64 * 2 ^ n) = true ∧ inControl pr (32 * 2 ^ n) = true
      let free := u.ring q = none ∧ cr % (64 * 2 ^ n) = 0 ∧ pr % (32 * 2 ^ n) = 0 ∧ u.ringClash cr (64 * 2 ^ n) = false ∧
        u.ringClash pr (32 * 2 ^ n) = false ∧ (cr + 64 * 2 ^ n ≤ pr ∨ pr + 32 * 2 ^ n ≤ cr)
      (¬shape → exec (.ringCreate c) s = .next (done .formatUnsupported u)) ∧
      (shape → ¬inside → exec (.ringCreate c) s = .next (done .noGrant u)) ∧
      (shape → inside → ¬free → exec (.ringCreate c) s = .next (done .formatUnsupported u)) ∧
      (shape → inside → free → exec (.ringCreate c) s = .next (done .ok
        (u.setRing q { n := n, cring := cr, pring := pr, cdb := 0, chead := 0, pdb := 0, ctail := 0 })))) ∧
    (∀ c : Cmd, bufOk c 0 = true →
      let u := begun s c 0x04
      let done (st : Status) (w : State) : State := w.complete (Cmd.running c 0x04) st
      let q := c.arg0.toNat % 16
      (q = 0 ∨ u.ring q = none → exec (.ringDelete c) s = .next (done .formatUnsupported u)) ∧
      (∀ g, u.ring q = some g → g.chead ≠ g.cdb ∨ (∃ x ∈ u.fw.running, x.q.toNat = q) →
        exec (.ringDelete c) s = .next (done .formatUnsupported u)) ∧
      (∀ g, q ≠ 0 → u.ring q = some g → g.chead = g.cdb → (∀ x ∈ u.fw.running, x.q.toNat ≠ q) →
        exec (.ringDelete c) s = .next (done .ok { u with fw := { u.fw with rings := u.fw.rings.erase q } }))) ∧
    (∀ (q : BitVec 4) (v : Word), s.pstate ≠ 2 →
      (s.ring q.toNat = none → exec (.cdbWrite q v) s = .next (s.bump .ctlDberr) ∧ exec (.pdbWrite q v) s = .next (s.bump .ctlDberr)) ∧
      (∀ g, s.ring q.toNat = some g →
        let ahead := (v.toNat + 2 ^ 32 - g.chead) % 2 ^ 32
        let before := (g.cdb + 2 ^ 32 - g.chead) % 2 ^ 32
        (2 ^ g.n < ahead ∨ ahead < before → exec (.cdbWrite q v) s = .next (s.bump .ctlDberr)) ∧
        (before ≤ ahead → ahead ≤ 2 ^ g.n → s.ready = true →
          exec (.cdbWrite q v) s = .next (s.setRing q.toNat { g with cdb := v.toNat })) ∧
        exec (.pdbWrite q v) s = .next (s.setRing q.toNat { g with pdb := v.toNat }))) ∧
    (∀ e : TracePoint, e.core.toNat ≤ 20 → e.number.toNat < 0x6000 → e.args.length ≤ 5 → SMap.canon 0 s.mem.bytes = true →
      let on := (s.rf .ctlLogCfg 31 16).testBit (e.number.toNat / 4096) = true ∧ e.level.toNat ≤ s.rf .ctlLogCfg 1 0
      let n := 2 ^ s.rf .ctlLogSize 4 0
      let a := s.logBase + 64 * (s.rv .ctlLogHead % n)
      let full := (s.rv .ctlLogHead + 2 ^ 32 - s.rv .ctlLogTail) % 2 ^ 32 = n ∨ s.onLostStack a 64 = true
      (¬on → exec (.logEntryWrite e) s = .next s) ∧
      (on → full → s.regs.rising = true → ∃ t, exec (.logEntryWrite e) s = .next t ∧ t.mem = s.mem ∧
        t.rv .ctlLogDrop = (s.rv .ctlLogDrop + 1) % 2 ^ 32 ∧ t.fw.logSeq = (s.fw.logSeq + 1) % 2 ^ 32) ∧
      (on → ¬full → s.regs.rising = true → ∃ t, exec (.logEntryWrite e) s = .next t ∧
        t.bankRead a 64 = padTo 64 (leBytes 8 s.time.stroke ++ leBytes 2 s.time.cy ++ leBytes 1 e.core.toNat ++ leBytes 1 e.level.toNat ++
          leBytes 2 e.number.toNat ++ leBytes 2 0 ++ leBytes 4 s.fw.logSeq ++ leBytes 4 0 ++
          e.args.flatMap (fun w => leBytes 8 w.toNat)) ∧
        (∀ b, b < a ∨ a + 64 ≤ b → t.bankByte b = s.bankByte b) ∧
        t.rv .ctlLogHead = (s.rv .ctlLogHead + 1) % 2 ^ 32 ∧ t.fw.logSeq = (s.fw.logSeq + 1) % 2 ^ 32)) ∧
    (s.fw.events = [] → exec .eventRecordWrite s = .next s) ∧
    (∀ e es, s.fw.events = e :: es → s.regs.rising = true → SMap.canon 0 s.mem.bytes = true →
      let n := 2 ^ s.rf .ctlEvtSize 4 0
      let a := s.evtBase + 64 * (s.rv .ctlEvtHead % n)
      let full := (s.rv .ctlEvtHead + 2 ^ 32 - s.rv .ctlEvtTail) % 2 ^ 32 = n ∨ s.onLostStack a 64 = true
      ∃ t, exec .eventRecordWrite s = .next t ∧ t.fw.events = es ∧
        (full → t.mem = s.mem ∧ t.rv .ctlEvtDrop = (s.rv .ctlEvtDrop + 1) % 2 ^ 32) ∧
        (¬full → t.bankRead a 64 = e.bytes ∧ (∀ b, b < a ∨ a + 64 ≤ b → t.bankByte b = s.bankByte b) ∧
          t.rv .ctlEvtHead = (s.rv .ctlEvtHead + 1) % 2 ^ 32))

/-- Extents and bases (Tables 8.7 to 8.9, R249 to R258, R265, R420 to R422). Statuses of extent commands on extents that are not far-cached, and the
order of the base checks, are the model's readings (log entries 61 and 63). -/
def Obligations.ExtentsAndBases : Prop :=
  ∀ (s : State) (c : Cmd),
    let x := c.arg0.toNat % 2 ^ 14
    let done (opc : Nat) (st : Status) (w : State) : State := w.complete (Cmd.running c opc) st
    let idle (u : State) : Prop := u.job x = none ∧ ∀ w ∈ u.tier.waiting, w.1 ≠ x
    (∀ i opc need, (i, opc, need) ∈ [(Instr.extSet c, 0x20, 64), (.extFill c, 0x22, 0), (.extFlush c, 0x23, 0), (.extEvict c, 0x24, 0),
        (.extDirty c, 0x25, 1), (.extReset c, 0x26, 0), (.coldDiscard c, 0x27, 0), (.extGet c, 0x21, 64)] → bufOk c need = true →
      let u := begun s c opc
      ¬idle u → exec i s = .next { u with tier := { u.tier with waiting := u.tier.waiting ++ [(x, c, opc)] } }) ∧
    (bufOk c 64 = true → let u := begun s c 0x20
      idle u →
      let b := u.laneRead c.buf.toNat 64
      let d := extentOf b
      (u.extSetStatus x b ≠ .ok → exec (.extSet c) s = .next (done 0x20 (u.extSetStatus x b) u)) ∧
      (u.extSetStatus x b = .ok → exec (.extSet c) s =
        .next (done 0x20 .ok ((if d.form = 4 then u.slotFill d else u).latchNext (.extApply x d))))) ∧
    (bufOk c 64 = true → let u := begun s c 0x21
      idle u → exec (.extGet c) s = .next (done 0x21 .ok (u.ctlStore c.buf.toNat (u.extent x).bytes))) ∧
    (∀ i opc need, (i, opc, need) ∈ [(Instr.extFill c, 0x22, 0), (.extFlush c, 0x23, 0), (.extEvict c, 0x24, 0), (.extDirty c, 0x25, 1)] →
      bufOk c need = true → let u := begun s c opc
      idle u → let e := u.extent x
      (e.form ≠ 2 → exec i s = .next (done opc .formatUnsupported u)) ∧
      (e.form = 2 → e.st = 4 → exec i s = .next (done opc .unitLost u)) ∧
      (e.form = 2 → e.st = 0 → opc = 0x23 ∨ opc = 0x24 → exec i s = .next (done opc .ok u)) ∧
      (e.form = 2 → e.st ≠ 4 → e.st ≠ 0 → opc = 0x22 → exec i s = .next (done opc .ok u))) ∧
    (bufOk c 0 = true → let u := begun s c 0x22
      idle u → let e := u.extent x
      e.form = 2 → e.st = 0 → ∃ t, exec (.extFill c) s = .next t ∧ (t.extent x).st = 1 ∧ t.mem = u.mem ∧ t.scd = s.scd ∧
        t.lane.fwd.length = u.lane.fwd.length + e.pages ∧
        ∃ j, t.job x = some j ∧ j.kind = 0 ∧ j.cmd = some (Cmd.running c 0x22) ∧ j.todo = [] ∧ j.out = List.range e.pages ∧ j.status = .ok) ∧
    (bufOk c 0 = true → let u := begun s c 0x23
      idle u → let e := u.extent x
      let first := c.arg1.toNat
      let n := c.arg2.toNat
      e.form = 2 → e.st ≠ 0 → e.st ≠ 4 →
      (e.pages < first + n → exec (.extFlush c) s = .next (done 0x23 .formatUnsupported u)) ∧
      (first + n ≤ e.pages → (∀ p < e.pages, u.uncorrectable (e.aux + 4096 * p) 4096 = false) →
        ∃ t j, exec (.extFlush c) s = .next t ∧ t.extent x = e ∧ t.mem = u.mem ∧ t.scd = s.scd ∧ t.job x = some j ∧ j.kind = 1 ∧
          j.cmd = some (Cmd.running c 0x23) ∧ j.out = u.dirtyPages e first n ∧
          (u.dirtyPages e first n = [] → (u.now, .flushDone x) ∈ t.timed))) ∧
    (bufOk c 0 = true → let u := begun s c 0x24
      idle u → let e := u.extent x
      e.form = 2 → e.st ≠ 0 → e.st ≠ 4 → (∀ p < e.pages, u.uncorrectable (e.aux + 4096 * p) 4096 = false) →
        ∃ t j, exec (.extEvict c) s = .next t ∧ (t.extent x).st = 3 ∧ t.mem = u.mem ∧ t.scd = s.scd ∧ t.job x = some j ∧ j.kind = 2 ∧
          j.cmd = some (Cmd.running c 0x24) ∧ j.out = u.dirtyPages e 0 e.pages ∧
          (u.dirtyPages e 0 e.pages = [] → t.isDue (.extState x 0) = true)) ∧
    (bufOk c 1 = true → let u := begun s c 0x25
      idle u → let e := u.extent x
      e.form = 2 → e.st ≠ 4 →
      (8 * c.buflen.toNat < e.pages → exec (.extDirty c) s = .next (done 0x25 .formatUnsupported u)) ∧
      (e.pages ≤ 8 * c.buflen.toNat → exec (.extDirty c) s = .next (done 0x25 .ok (u.ctlStore c.buf.toNat
        (leBytes ((e.pages + 8 - 1) / 8) (((List.range e.pages).filter (u.isDirty e)).map fun p => 2 ^ p).sum))))) ∧
    (bufOk c 0 = true → let u := begun s c 0x26
      idle u → let e := u.extent x
      (e.form ≠ 2 → exec (.extReset c) s = .next (done 0x26 .ok u)) ∧
      (e.form = 2 → e.st = 4 → exec (.extReset c) s = .next (done 0x26 .ok (u.latchNext (.extState x 0)))) ∧
      (e.form = 2 → e.st ≠ 4 → exec (.extReset c) s = .next (done 0x26 .ok u))) ∧
    (bufOk c 0 = true → let u := begun s c 0x27
      idle u → let e := u.extent x
      let lo := e.target + 65536 * c.arg1.toNat
      let hi := lo + 65536 * c.arg2.toNat
      let here := e.form = 3 ∧ c.arg1.toNat + c.arg2.toNat ≤ 32 * e.len
      let lost := e.form = 2 ∧ e.st = 4
      (lost → exec (.coldDiscard c) s = .next (done 0x27 .unitLost u)) ∧
      (¬lost → u.noDelta = true → exec (.coldDiscard c) s = .next (done 0x27 .unitAbsent u)) ∧
      (¬lost → u.noDelta = false → u.rf .ctlBringup 29 29 = 0 → exec (.coldDiscard c) s = .next (done 0x27 .notReady u)) ∧
      (¬lost → u.noDelta = false → u.rf .ctlBringup 29 29 = 1 → ¬here → exec (.coldDiscard c) s = .next (done 0x27 .formatUnsupported u)) ∧
      (u.noDelta = false → u.rf .ctlBringup 29 29 = 1 → here → ∃ v, exec (.coldDiscard c) s = .next (done 0x27 .ok v) ∧
        v = { u with tier := v.tier } ∧ v.tier.ext = u.tier.ext ∧ v.tier.ftl = u.tier.ftl ∧
        (∀ y, lo / 65536 ≤ y → y < hi / 65536 → v.tier.mapped.find y = none ∧ v.tier.located.find y = none) ∧
        ∀ a, SMap.get 0 v.tier.cold a = if lo ≤ a ∧ a < hi then 0 else SMap.get 0 u.tier.cold a)) ∧
    (bufOk c 0 = true → let u := begun s c 0x28
      let b := c.arg0.toNat % 2 ^ 12
      let v : Base := { tenant := BitVec.ofNat 10 (c.arg0.toNat / 2 ^ 16), fmt := c.arg0.toNat / 2 ^ 32 % 16, addr := c.arg1.toNat,
                        blocks := c.arg2.toNat }
      let sized := v.blocks ≠ 0 ∧ v.blocks ≤ 2 ^ 24
      let covered := u.tenantCovers v.tenant v.addr (256 * v.blocks) = true
      let good := b ≠ 0 ∧ u.basePlanned.find b = none ∧ sized ∧ v.addr % 256 = 0 ∧ v.fmt ≤ 0xB ∧ u.inUserNear v.addr (256 * v.blocks) = true
      (u.noDelta = true → exec (.baseReg c) s = .next (done 0x28 .unitAbsent u)) ∧
      (u.noDelta = false → sized → ¬covered → exec (.baseReg c) s = .next (done 0x28 .noGrant u)) ∧
      (u.noDelta = false → (sized → covered) → ¬good → exec (.baseReg c) s = .next (done 0x28 .formatUnsupported u)) ∧
      (u.noDelta = false → covered → good → exec (.baseReg c) s = .next (done 0x28 .ok (u.latchNext (.baseApply b (some v)))))) ∧
    (bufOk c 0 = true → let u := begun s c 0x29
      let b := c.arg0.toNat % 2 ^ 12
      let used := b ≠ 0 ∧ ∃ e ∈ u.extPlanned, e.2.form = 4 ∧ e.2.baseid = b
      (u.noDelta = true → exec (.baseDrop c) s = .next (done 0x29 .unitAbsent u)) ∧
      (u.noDelta = false → used → exec (.baseDrop c) s = .next (done 0x29 .formatUnsupported u)) ∧
      (u.noDelta = false → ¬used → exec (.baseDrop c) s = .next (done 0x29 .ok (u.latchNext (.baseApply b none))))) ∧
    (∀ y : BitVec 14, latchedRow s (.extentDescriptorApply y) (descriptorDue y.toNat)) ∧
    (∀ b : BitVec 12, latchedRow s (.baseApply b) (baseDue b.toNat)) ∧
    (∀ (y : BitVec 14) (d : Extent) (n : Nat), s.tier.ext.rising = true →
      latchedAt s (descriptorDue y.toNat) (.extApply y.toNat d) n → 1536 * n ≤ s.now →
      ∃ t, exec (.extentDescriptorApply y) s = .next t ∧ t.tier.ext.find y.toNat = some d ∧ (∀ z, (z, y.toNat) ∉ t.tier.bad) ∧
        (∀ z, z ≠ y.toNat → t.tier.ext.find z = s.tier.ext.find z) ∧ t.mem = s.mem ∧ t.lane = s.lane ∧ t.scd = s.scd) ∧
    (∀ (b : BitVec 12) (v : Option Base) (n : Nat), s.tier.bases.rising = true →
      latchedAt s (baseDue b.toNat) (.baseApply b.toNat v) n → 1536 * n ≤ s.now →
      ∃ t, exec (.baseApply b) s = .next t ∧ t.tier.bases.find b.toNat = v ∧
        (∀ z, z ≠ b.toNat → t.tier.bases.find z = s.tier.bases.find z) ∧ t.mem = s.mem ∧ t.tier.ext = s.tier.ext ∧ t.scd = s.scd)

/-- Far-cached extents and the FTL (Table 8.8, R252, R256, R266 to R269, R533). A relocation takes two rows in the model (log entry 62), and rows that
name a moment are log entry 3. -/
def Obligations.FarCachedAndFlash : Prop :=
  ∀ (s : State) (x : BitVec 14), s.regs.rising = true →
    let ended (t : State) (j : TierJob) : Prop := t.job x.toNat = none ∧ t.scd = s.scd ∧ t.lane = s.lane ∧
      t.fw.running = (match j.cmd with | some r => dropFirst (fun y => y == r) s.fw.running | none => s.fw.running)
    (∀ j, s.job x.toNat = some j → (∀ w ∈ s.tier.waiting, w.1 ≠ x.toNat) → j.out = [] → s.tier.ext.find x.toNat ≠ none →
      j.refetch = [] → j.resume = none →
      (j.kind = 0 → j.status = .ok → j.todo = [] →
        ∀ n, latchedAt s (fun d => d == .extState x.toNat 2) (.extState x.toNat 2) n → 1536 * n ≤ s.now →
        ∃ t, exec (.farCachedFillComplete x) s = .next t ∧ (t.extent x.toNat).st = 2 ∧ ended t j) ∧
      (j.kind = 1 → ∀ c, eventAt s (.flushDone x.toNat) c → ∃ t, momentRow s (.flushComplete x) c t ∧ t.extent x.toNat = s.extent x.toNat ∧ ended t j) ∧
      (j.kind = 2 → s.dirtyPages (s.extent x.toNat) 0 (s.extent x.toNat).pages = [] →
        ∀ n, latchedAt s (fun d => d == .extState x.toNat 0) (.extState x.toNat 0) n → 1536 * n ≤ s.now →
        ∃ t, exec (.evictComplete x) s = .next t ∧ (t.extent x.toNat).st = 0 ∧ ended t j)) ∧
    latchedRow s (.farCachedFillComplete x) (fun d => d == .extState x.toNat 2) ∧
    latchedRow s (.evictComplete x) (fun d => d == .extState x.toNat 0) ∧
    (s.timed.find? (fun e => e.2 == .flushDone x.toNat) = none → exec (.flushComplete x) s = .next s) ∧
    (∀ (op : Nat) (f : FtlOp) (o : LaneOp), s.ftlOp op = some f → s.findOp f.op = some o → o.path = .cold →
      let out (t : State) : Prop := (∀ g ∈ t.tier.ftl, g ∈ s.tier.ftl ∧ g.id ≠ f.id) ∧
        (∀ g ∈ s.tier.ftl, g.id ≠ f.id → g.move = false → g ∈ t.tier.ftl) ∧ t.tier.ext = s.tier.ext ∧ t.scd = s.scd
      (f.heldFor = none → f.write = true → ¬(f.reads = 0 ∧ f.progs = 0) →
        exec (.ftlWriteAck op) s = .next (s.setFtl { f with journalled := true })) ∧
      (f.heldFor = none → SMap.canon 0 s.tier.cold = true → f.write = true → f.move = false → f.reads = 0 → f.progs = 0 → ∃ t, exec (.ftlWriteAck op) s = .next t ∧ out t ∧
        (∀ i, i < f.data.length → SMap.get 0 t.tier.cold (f.off + i) = f.data.getD i 0) ∧
        (∀ a, a < f.off ∨ f.off + f.data.length ≤ a → SMap.get 0 t.tier.cold a = SMap.get 0 s.tier.cold a) ∧
        t.tier.journal = s.tier.journal + 1) ∧
      (f.heldFor ≠ none → exec (.ftlWriteAck op) s = .next s ∧
        ∃ t, momentRow s (.coldWriteHoldTimeout op) (1536 * (f.stroke + s.rf .lmtTmo 15 0)) t ∧ out t ∧ t.tier.cold = s.tier.cold ∧ t.tier.mapped = s.tier.mapped) ∧
      (f.heldFor = none → exec (.coldWriteHoldTimeout op) s = .next s)) ∧
    (∀ u : BitVec 34,
      (s.tier.mapped.find u.toNat = none → exec (.ftlRelocation u) s = .next s) ∧
      (s.tier.mapped.find u.toNat ≠ none → u.toNat ∉ s.tier.moving → s.tier.located.find u.toNat = none →
        exec (.ftlRelocation u) s = .next { s with tier := { s.tier with moving := s.tier.moving ++ [u.toNat] } }) ∧
      (s.tier.mapped.find u.toNat ≠ none → u.toNat ∉ s.tier.moving → s.tier.located.find u.toNat ≠ none →
        ∃ t f, exec (.ftlRelocation u) s = .next t ∧ t.tier.moving = s.tier.moving ++ [u.toNat] ∧ t.tier.ftl = s.tier.ftl ++ [f] ∧
          f.move = true ∧ f.off = 65536 * u.toNat ∧ f.len = 65536 ∧ f.heldFor = s.ftlHold u.toNat ∧ (s.now, .ftlGo f.id) ∈ t.timed) ∧
      (∀ f, s.tier.mapped.find u.toNat ≠ none → u.toNat ∈ s.tier.moving →
        s.tier.ftl.find? (fun f => f.move && f.off / 65536 == u.toNat) = some f → ¬(f.reads = 0 ∧ f.progs = 0) →
        exec (.ftlRelocation u) s = .next (s.setFtl { f with journalled := true })) ∧
      (∀ f a, s.tier.mapped.find u.toNat ≠ none → u.toNat ∈ s.tier.moving →
        s.tier.ftl.find? (fun f => f.move && f.off / 65536 == u.toNat) = some f → f.reads = 0 → f.progs = 0 → f.at_ = some a → f.data = [] →
        ∃ t, exec (.ftlRelocation u) s = .next t ∧ u.toNat ∉ t.tier.moving ∧ t.tier.located.find u.toNat = some (f.tray, a) ∧
          t.tier.mapped.find u.toNat = some s.tier.journal ∧ t.tier.journal = s.tier.journal + 1 ∧ t.tier.cold = s.tier.cold ∧
          t.mem = s.mem ∧ t.lane = s.lane) ∧
      (s.tier.mapped.find u.toNat ≠ none → u.toNat ∈ s.tier.moving →
        s.tier.ftl.find? (fun f => f.move && f.off / 65536 == u.toNat) = none → ∃ t, exec (.ftlRelocation u) s = .next t ∧
        u.toNat ∉ t.tier.moving ∧ t.tier.mapped.find u.toNat = some s.tier.journal ∧ t.tier.journal = s.tier.journal + 1 ∧
        t.tier.cold = s.tier.cold ∧ t.mem = s.mem ∧ t.lane = s.lane)) ∧
    (∀ (tray : Port) (free blocks : BitVec 32), ∃ t, exec (.ftlGarbageCollection tray free blocks) s = .next t ∧
      (tray ∈ t.tier.collecting ↔ 100 * free.toNat < 2 * blocks.toNat) ∧
      (tray ∈ t.tier.starved ↔ 1000 * free.toNat < 5 * blocks.toNat) ∧
      (∀ p, p ≠ tray → (p ∈ t.tier.starved ↔ p ∈ s.tier.starved) ∧ (p ∈ t.tier.collecting ↔ p ∈ s.tier.collecting)) ∧
      (5 * blocks.toNat ≤ 1000 * free.toNat → ∀ f ∈ t.tier.ftl, f.heldFor ≠ some tray.toNat) ∧ t.tier.cold = s.tier.cold ∧ t.scd = s.scd) ∧
    (s.noDelta = true → exec .ftlMapRebuildComplete s = .next s) ∧
    (s.noDelta = false → ∃ t, exec .ftlMapRebuildComplete s = .next t ∧ t.rf .ctlBringup 29 29 = 1 ∧ t.ready = s.ready ∧
      t.phase = s.phase ∧ t.mem = s.mem ∧ t.scd = s.scd)

/-- Tenants, keys and measurements (Tables 15.4, 15.5 and 15.7, R443 to R454, R466 to R468, R588). The wire format of KEYLOAD and the SPDM bytes are the model's (log
entries 6, 64, 65 and 96, DESIGN CHOICE); what an accepted key does is the spec's. Rows that name a moment are log entry 3. -/
def Obligations.TenantsAndKeys : Prop :=
  ∀ (s : State), SMap.canon TenantRec.fresh s.sec.tenants = true → SMap.canon KeySlot.fresh s.sec.slots = true →
    s.sec.grants.rising = true →
    let rest (t : State) : Prop := t.scd.v = s.scd.v ∧ t.sec.grants = s.sec.grants ∧ t.fab = s.fab
    (∀ c : Cmd, let u := begun s c 0x30
      let t := BitVec.ofNat 10 c.arg0.toNat
      bufOk c 48 = true → u.rotHeld = false →
      (u.plannedTenant t ≠ .free → exec (.tenantCreate c) s = .next (u.complete (Cmd.running c 0x30) .formatUnsupported)) ∧
      (u.plannedTenant t = .free → exec (.tenantCreate c) s = .next ((u.latchNext (.tenantCreate t
        (BitVec.ofNat 384 (beNat (u.laneRead c.buf.toNat 48))))).complete (Cmd.running c 0x30) .ok))) ∧
    (∀ c : Cmd, let u := begun s c 0x31
      let t := BitVec.ofNat 10 c.arg0.toNat
      let r := Cmd.running c 0x31
      bufOk c 0 = true → u.rotHeld = false →
      (t = 0 → exec (.tenantRemove c) s = .next (u.complete r .formatUnsupported)) ∧
      (t ≠ 0 → u.plannedTenant t ≠ .active → exec (.tenantRemove c) s = .next (u.complete r .tenantGone)) ∧
      (t ≠ 0 → u.plannedTenant t = .active → ∃ v, exec (.tenantRemove c) s = .next v ∧ v.fw = u.fw ∧
        v.due = u.due ++ [(u.boundary, .tenantRemove t)] ∧ v.sec = { u.sec with removals := u.sec.removals ++ [(t, some r)] } ∧
        v.mem = u.mem ∧ v.scd = u.scd)) ∧
    (∀ c : Cmd, let u := begun s c 0x32
      let t := BitVec.ofNat 10 c.arg0.toNat
      let good := u.plannedSlot (4 * t.toNat + 1) = .loaded ∧ u.plannedSlot (4 * t.toNat + 3) = .loaded ∧ (u.slot (4 * t.toNat + 3)).role = 3
      bufOk c 0 = true → u.rotHeld = false →
      (¬good → exec (.keyRotate c) s = .next (u.complete (Cmd.running c 0x32) .formatUnsupported)) ∧
      (good → exec (.keyRotate c) s = .next ((u.latchNext (.keyRotate t)).complete (Cmd.running c 0x32) .ok))) ∧
    (∀ c : Cmd, let u := begun s c 0x36
      let r := Cmd.running c 0x36
      let cap := c.arg2.toNat
      bufOk c c.buflen.toNat = true → u.rotHeld = false →
      (inControl c.arg1.toNat cap = false → exec (.spdmMsg c) s = .next (u.complete r .noGrant)) ∧
      (inControl c.arg1.toNat cap = true →
        let st := leBytes 1 (c.arg0.toNat % 8) ++ leBytes 8 (Config.freeValue u.free).toNat
        let q := u.laneRead c.buf.toNat c.buflen.toNat
        ∃ (v : State) (blocks : List (List Byte)),
          let resp := (Config.spdmRespond st q blocks [v.sec.edIdent.certificates, v.sec.mlIdent.certificates]
            v.sec.edIdent.alias_.priv).take cap
          exec (.spdmMsg c) s = .next ((v.ctlStore c.arg1.toNat resp).complete r .ok resp.length) ∧
          v.sec.tenants = u.sec.tenants ∧ v.sec.grants = u.sec.grants ∧ v.scd = u.scd ∧ v.lane = u.lane ∧
          v.sec.edIdent = u.sec.edIdent ∧ v.sec.mlIdent = u.sec.mlIdent ∧
          (Config.spdmAsks st q = none → blocks = [] ∧ v.free = u.free + 1) ∧
          (∀ asked nonce signed, Config.spdmAsks st q = some (none, asked, nonce, signed) → Config.spdmOpens st q = none →
            blocks = u.measurements none asked nonce) ∧
          (∀ n asked nonce signed x t, Config.spdmAsks st q = some (some n, asked, nonce, signed) → Config.spdmOpens st q = none →
            u.session n = some x → u.boundTenants x.kshash = [t] → blocks = u.measurements (some (BitVec.ofNat 10 t)) asked nonce ∧
            (signed = true → 0x20 ∈ asked → Config.spdmCloses st q = none → v.sessionFresh n (BitVec.ofNat 10 t) = true)) ∧
          (Config.spdmKeyload st q = none → Config.spdmResume st q = none → v.sec.slots = u.sec.slots) ∧
          (Config.spdmOpens st q = none → Config.spdmAsks st q = none → Config.spdmCloses st q = none →
            v.sec.sessions = u.sec.sessions ∧ v.mem = u.mem))) ∧
    (∀ (t : Option Tenant) (x : Nat),
      (2 ≤ x → x ≤ 7 → s.measurement t x = some (beBytes 48 (s.fwType (x - 1)).running.1.toNat)) ∧
      (x = 8 → s.measurement t x = some (sha384 (leBytes 4 s.ctlId ++ leBytes 4 s.ctlStep ++
        ((List.range 6).flatMap fun y => leBytes 4 (s.svnMin (y + 1)))))) ∧
      (x = 0x20 → s.measurement t x = t.map s.tenantBlock)) ∧
    (∀ (n : BitVec 3) (b : List Byte), let tn := beAt b 0 2
      let role := beAt b 2 1
      let t := BitVec.ofNat 10 tn
      let good := s.rotHeld = false ∧ tn < 1024 ∧ s.plannedTenant t = .active ∧ role ≤ 3 ∧ beAt b 3 1 = 0 ∧ s.sessionBound n t = true ∧
        (role = 2 → s.sessionFresh n t = true) ∧ b.length = 4 + (if role = 0 ∨ role = 2 then 64 else 32) ∧
        s.plannedSlot (4 * tn + role) = .empty
      (¬good → exec (.keyload n b) s = .next s) ∧
      (good → ∃ v, exec (.keyload n b) s = .next v ∧ v = { s with sec := { s.sec with slots := v.sec.slots } } ∧
        (v.slot (4 * tn + role)).st = .loaded ∧ (v.slot (4 * tn + role)).key = b.drop 4 ∧ (v.slot (4 * tn + role)).role = role ∧
        ∀ i, i ≠ 4 * tn + role → v.slot i = s.slot i)) ∧
    (∀ (n : BitVec 3) (t : Tenant), let i := 4 * t.toNat + 2
      let good := s.rotHeld = false ∧ s.plannedTenant t = .active ∧ s.sessionBound n t = true ∧ s.sessionFresh n t = true ∧
        s.plannedSlot i = .suspended
      (¬good → exec (.weightResume n t) s = .next s) ∧
      (good → ∃ v, exec (.weightResume n t) s = .next v ∧ v = { s with sec := { s.sec with slots := v.sec.slots } } ∧
        v.slot i = { s.slot i with st := .loaded } ∧ ∀ j, j ≠ i → v.slot j = s.slot j)) ∧
    (∀ t : Tenant, let x := s.tenant t
      let others (v : State) : Prop := (∀ u, u ≠ t → v.tenant u = s.tenant u) ∧ v.fab = { s.fab with seq := v.fab.seq } ∧ v.seg.length = s.seg.length
      let suspends (v : State) : Prop := ∀ i, v.slot i = if i = 4 * t.toNat + 2 ∧ (s.slot i).st = .loaded
        then { s.slot i with st := .suspended } else s.slot i
      let forgotten (v : State) : Prop := ∀ n, v.sessionFresh n t = false
      let comes (d : Due) : Prop := ∃ n, latchedAt s (epochDue t) d n ∧ 1536 * n ≤ s.now
      latchedRow s (.tenantEpochAdvance t) (epochDue t) ∧
      (∀ h, comes (.tenantCreate t h) → ∃ v, exec (.tenantEpochAdvance t) s = .next v ∧ others v ∧ suspends v ∧
        forgotten v ∧ v.tenant t = { st := .active, epoch := x.epoch + 1, kshash := h } ∧ v.sec.grants = s.sec.grants) ∧
      (comes (.tenantReset t) → ∃ v, exec (.tenantEpochAdvance t) s = .next v ∧ others v ∧ suspends v ∧
        forgotten v ∧ v.tenant t = { x with epoch := x.epoch + 1 } ∧ v.sec.grants = s.sec.grants) ∧
      (comes (.tenantRemove t) → ∃ v, exec (.tenantEpochAdvance t) s = .next v ∧ others v ∧ forgotten v ∧
        (v.tenant t).epoch = x.epoch + 1 ∧ ((v.tenant t).st = .retiring ∨ (v.tenant t).st = .free) ∧
        (∀ i, i / 4 = t.toNat → (s.slot i).st = .loaded ∨ (s.slot i).st = .suspended →
          v.slot i = { s.slot i with st := .retiring, zeros := 0, fromStroke := s.time.stroke, removal := true } ∧
            (v.tenant t).st = .retiring) ∧
        (∀ i, i / 4 ≠ t.toNat → v.slot i = s.slot i) ∧
        (∀ i g, s.sec.grants.find i = some g → g.tenant ≠ t → v.sec.grants.find i = some g) ∧
        (∀ i g, s.sec.grants.find i = some g → g.tenant = t → g.st = .active ∨ g.st = .zeroing → g.inflight ≠ 0 →
          v.sec.grants.find i = some { g with st := .revoking, revokeAt := s.time.stroke }))) ∧
    (∀ k : BitVec 12, let x := s.slot k.toNat
      let mine := BitVec.ofNat 10 (k.toNat / 4)
      (x.zeros < 4 → exec (.keySlotDrained k) s = .next s) ∧
      (4 ≤ x.zeros → s.time.cy ≠ 0 → exec (.keySlotDrained k) s = .next (State.run (1536 - s.time.cy) s)) ∧
      (s.time.cy = 0 → x.st ≠ .retiring ∨ s.rotHeld = true → exec (.keySlotDrained k) s = .next s) ∧
      (4 ≤ x.zeros → s.time.cy = 0 → x.st = .retiring → s.rotHeld = false → ∃ v, exec (.keySlotDrained k) s = .next v ∧ rest v ∧ v.sec.tenants = s.sec.tenants ∧
        v.slot k.toNat = { x with st := .scrubbing } ∧ (∀ j, j ≠ k.toNat → v.slot j = s.slot j) ∧
        (x.removal = false → v.tier = s.tier ∧ v.regs = s.regs) ∧
        (x.removal = true → (∀ j, j / 4 = k.toNat / 4 → j ≠ k.toNat → (s.slot j).st ≠ .retiring) →
          ∀ b y, v.tier.bases.find b = some y → y.tenant ≠ mine))) ∧
    (∀ k : BitVec 12, let x := s.slot k.toNat
      let mine := BitVec.ofNat 10 (k.toNat / 4)
      let owned := ∃ i g, (i, g) ∈ s.sec.grants ∧ g.tenant = mine ∧ g.owner = true ∧ (g.st = .revoking ∨ g.st = .scrubbing)
      (x.st ≠ .scrubbing ∨ s.rotHeld = true ∨ (x.removal = true ∧ owned) → exec (.slotScrubComplete k) s = .next s) ∧
      (x.st = .scrubbing → s.rotHeld = false → ¬(x.removal = true ∧ owned) → ∃ v, exec (.slotScrubComplete k) s = .next v ∧ rest v ∧
        v.slot k.toNat = KeySlot.fresh ∧ (∀ j, j ≠ k.toNat → v.slot j = s.slot j) ∧
        ((s.tenant mine).st ≠ .retiring → v = { s with sec := v.sec } ∧ v.sec.tenants = s.sec.tenants) ∧
        ((s.tenant mine).st = .retiring → (∀ j, j / 4 = k.toNat / 4 → j ≠ k.toNat → (s.slot j).st = .empty) →
          (∀ i g, (i, g) ∈ s.sec.grants → g.tenant ≠ mine) → (v.tenant mine).st = .free ∧ ∀ q, (mine, q) ∉ v.sec.removals)))

/-- The grant table (Tables 15.8 and 15.10, R457 to R465, R492, R493). Zero-filled and scrubbed bytes change when the fill or scrub completes (log
entry 44), and the revoke timeout is that of log entry 71. -/
def Obligations.GrantEntries : Prop :=
  ∀ (s : State), s.sec.grants.rising = true → SMap.canon 0 s.mem.bytes = true →
    (∀ c : Cmd, let u := begun s c 0x33
      let i := c.arg0.toNat % 2 ^ 16
      let b := u.laneRead c.buf.toNat 32
      let t := BitVec.ofNat 10 (leAt b 12 2)
      let done (st : Status) (v : State) : State := v.complete (Cmd.running c 0x33) st
      bufOk c 32 = true → u.rotHeld = false →
      (u.plannedTenant t ≠ .active → exec (.grantSet c) s = .next (done .tenantGone u)) ∧
      (u.plannedTenant t = .active → u.grantBad i b = true → exec (.grantSet c) s = .next (done .formatUnsupported u)) ∧
      (u.plannedTenant t = .active → u.grantBad i b = false → exec (.grantSet c) s =
        .next (done .ok (u.latchNext (.grantSet i (grantOf b)))))) ∧
    (∀ c : Cmd, let u := begun s c 0x34
      let g := u.grant (c.arg0.toNat % 2 ^ 16)
      bufOk c 32 = true → u.rotHeld = false →
      ∃ bs, exec (.grantGet c) s = .next ((u.ctlStore c.buf.toNat bs).complete (Cmd.running c 0x34) .ok) ∧ bs.length = 32 ∧
        leAt bs 0 8 = g.base % 2 ^ 64 ∧ leAt bs 8 4 = g.len % 2 ^ 32 ∧ leAt bs 12 2 = g.tenant.toNat ∧ leAt bs 14 2 = g.reqid.toNat ∧
        leAt bs 16 2 = g.reqmask.toNat ∧ leAt bs 18 1 = g.rights.toNat ∧ leAt bs 19 1 = g.st.code ∧ leAt bs 20 4 = g.rkey.toNat ∧
        leAt bs 24 4 = g.inflight % 2 ^ 32) ∧
    (∀ c : Cmd, let u := begun s c 0x35
      let i := c.arg0.toNat % 2 ^ 16
      let r := Cmd.running c 0x35
      let st := (u.plannedGrant i).st
      bufOk c 0 = true → u.rotHeld = false →
      (st = .free → exec (.grantRevoke c) s = .next (u.complete r .formatUnsupported)) ∧
      (st = .scrubbing → exec (.grantRevoke c) s = .next (u.complete r .ok (u.grant i).revokeAt)) ∧
      (st = .active ∨ st = .zeroing → ∃ v, exec (.grantRevoke c) s = .next v ∧ v.fw = u.fw ∧ v.mem = u.mem ∧ v.isDue (.grantRevoke i) = true ∧
        (v.grant i).st = (u.grant i).st ∧ v.scd = u.scd) ∧
      (st = .revoking → u.due = [] → ∃ v, exec (.grantRevoke c) s = .next v ∧ v.fw = u.fw ∧ v.mem = u.mem ∧ v.due = [] ∧
        v.grant i = { u.grant i with revokers := (u.grant i).revokers ++ [r] } ∧ v.scd = u.scd)) ∧
    (∀ g : BitVec 16, let i := g.toNat
      let x := s.grant i
      let others (v : State) : Prop := ∀ j, j ≠ i → v.grant j = s.grant j
      latchedRow s (.grantActivate g) (grantDue i) ∧
      (∀ e n, latchedAt s (grantDue i) (.grantSet i e) n → 1536 * n ≤ s.now → ∃ v, exec (.grantActivate g) s = .next v ∧ others v ∧ v.mem = s.mem ∧ v.regs = s.regs ∧
        v.grant i = { e with st := if e.rights.getLsbD 5 = true then .zeroing else .active, revokeAt := s.time.stroke }) ∧
      (x.st ≠ .zeroing → exec (.zeroFillComplete g) s = .next s) ∧
      (x.st = .zeroing → ∃ v, exec (.zeroFillComplete g) s = .next v ∧ others v ∧ v.grant i = { x with st := .active } ∧
        (∀ a, x.base ≤ a → a < x.base + x.len * 2 ^ 21 → v.bankByte a = 0) ∧
        (∀ a, a < x.base ∨ x.base + x.len * 2 ^ 21 ≤ a → v.bankByte a = s.bankByte a) ∧ v.scd = s.scd ∧ v.regs = s.regs) ∧
      (x.st ≠ .revoking ∨ x.inflight ≠ 0 ∨ s.rotHeld = true → (s.tenant x.tenant).st ≠ .retiring →
        exec (.grantInflightZero g) s = .next s) ∧
      (x.st = .revoking → x.inflight = 0 → s.rotHeld = false → ∃ v, exec (.grantInflightZero g) s = .next v ∧ others v ∧
        (x.rights.getLsbD 5 = false → v.grant i = Grant.fresh) ∧
        (x.rights.getLsbD 5 = true → v.grant i = { x with st := .scrubbing, revokeAt := s.time.stroke, revokers := [] }) ∧
        (∀ r, s.fw.running = [r] → x.revokers = [r] → (s.tenant x.tenant).st ≠ .retiring → v.fw.running = [])) ∧
      let late := 1536 * (x.revokeAt + s.rf .lmtTmo 15 0 + 2)
      (x.st ≠ .revoking → exec (.revokeTimeout g) s = .next s) ∧
      (x.st = .revoking → s.rotHeld = true → momentRow s (.revokeTimeout g) late s) ∧
      (x.st = .revoking → s.rotHeld = false → (∀ o ∈ s.lane.ops, o.grant = some i ∧ o.followers = []) → s.coh.txns = [] →
        s.eng.ops = [] → ∃ v, momentRow s (.revokeTimeout g) late v ∧ others v ∧ v.lane.ops = [] ∧ (v.grant i).st ≠ .revoking ∧
          (v.grant i).inflight = 0) ∧
      (x.st ≠ .scrubbing ∨ s.rotHeld = true → exec (.grantScrubComplete g) s = .next s) ∧
      (x.st = .scrubbing → s.rotHeld = false → ∃ v, exec (.grantScrubComplete g) s = .next v ∧ others v ∧ v.grant i = Grant.fresh ∧
        ((s.tenant x.tenant).st ≠ .retiring →
          (∀ a, x.base ≤ a → a < x.base + x.len * 2 ^ 21 → v.bankByte a = 0) ∧
          (∀ a, a < x.base ∨ x.base + x.len * 2 ^ 21 ≤ a → v.bankByte a = s.bankByte a) ∧ v.tier = s.tier)))

/-- The fabric protocol (Table 16.2, R475 to R485, R493). Framing, transport and the payload of REVOKE_DONE are the model's (log entries 37 and 66,
PRESUMED). -/
def Obligations.FabricMessages : Prop :=
  (∀ (s : State) (m : FabMsg) (i : Instr) (type : Nat), fabricRow m i type →
    (s.fabHeld = true → exec i s = .next s) ∧
    (s.fabHeld = false → s.fabOk m = false → exec i s = .next (s.bump .fabMsgdrop)) ∧
    (s.fabHeld = false → s.fabOk m = true → 2 ≤ m.nfrm.toNat →
      (∃ j < m.nfrm.toNat, ∀ x ∈ s.gathered type m, x.fidx.toNat ≠ j) →
      exec i s = .next { s with fab := { s.fab with parts := s.fab.parts ++ [(type, m)] } })) ∧
  ∀ (s : State) (m : FabMsg), s.fabHeld = false → s.fabOk m = true → m.nfrm.toNat ≤ 1 → s.regs.rising = true →
    let b := m.payload
    let c : MapChange := { epoch := m.epoch, capo := m.capo.toNat, image := mapOf b, full := false }
    let own := s.mapEpoch
    let ahead : Prop := s.fab.map = none ∨ epochAbove m.epoch own = true
    let member := m.serial ∈ s.council
    let enough (n : Nat) : Prop := s.council.length / 2 + 1 ≤ n
    let asks (i : Instr) : Prop := ∃ v, exec i s = .next v ∧ v.rf .fabMapstat 29 29 = 0 ∧ v.fab = { s.fab with seq := v.fab.seq } ∧
      v = (s.wf .fabMapstat 29 29 0).sendFabric m.serial 5 own 0 0 []
    (∃ v, exec (.heartbeat m) s = .next v ∧ v.fab.heard.find m.serial.toNat = some s.time.stroke ∧
      (∀ n, n ≠ m.serial.toNat → v.fab.heard.find n = s.fab.heard.find n) ∧ v.fab.map = s.fab.map ∧ v.scd = s.scd ∧ v.sec = s.sec) ∧
    (let may := s.serial ∈ s.council ∧ s.manager = some m.serial ∧ (∀ a, s.fab.acked = some a → a.epoch = m.epoch → a = c) ∧
        ¬(s.serial ∈ c.image.council ∧ s.lanes.straps.getLsbD 3 = false)
     (m.epoch = own + 1 → may → exec (.propose m) s =
        .next (({ s with fab := { s.fab with acked := some c } } : State).sendFabric m.serial 3 m.epoch 0 0 [])) ∧
     (m.epoch = own + 1 → ¬may → exec (.propose m) s = .next s) ∧
     (m.epoch ≠ own + 1 → ¬ahead → exec (.propose m) s = .next s) ∧
     (m.epoch ≠ own + 1 → ahead → asks (.propose m))) ∧
    (s.fab.proposal = none → exec (.fabricAck m) s = .next s) ∧
    (∀ d acks, s.fab.proposal = some (d, acks) →
      let counts := m.epoch = d.epoch ∧ member ∧ m.serial ∉ acks
      (¬counts → exec (.fabricAck m) s = .next s) ∧
      (counts → ¬enough (acks.length + 1) ∨ (d.capo < s.time.stroke + 16 ∧ s.fab.heir ≠ some d) →
        exec (.fabricAck m) s = .next { s with fab := { s.fab with proposal := some (d, acks ++ [m.serial]) } }) ∧
      (counts → enough (acks.length + 1) → s.time.stroke + 16 ≤ d.capo ∨ s.fab.heir = some d → ∃ v, exec (.fabricAck m) s = .next v ∧
        v.fab.proposal = none ∧ v.fab.pend = some d ∧ (max d.capo (s.time.stroke + 1), Due.capo) ∈ v.due ∧ v.fab.map = s.fab.map ∧ v.scd = s.scd)) ∧
    (m.epoch = own + 1 → ∃ v, exec (.commit m) s = .next v ∧ v.fab = { s.fab with pend := some c } ∧
      (max c.capo (s.time.stroke + 1), Due.capo) ∈ v.due ∧ v = { s with fab := v.fab, due := v.due }) ∧
    (m.epoch ≠ own + 1 → ¬ahead → exec (.commit m) s = .next s) ∧ (m.epoch ≠ own + 1 → ahead → asks (.commit m)) ∧
    (let im := (s.fab.map.getD MapImage.empty).bytes
     let behind : Prop := m.epoch ≠ own ∧ (m.epoch = 0 ∨ epochAbove own m.epoch = true)
     let state := match s.fab.acked with
        | some a => beBytes 2 a.epoch.toNat ++ beBytes 8 a.capo ++ a.image.bytes
        | none => []
     (¬member → ¬behind → exec (.syncReq m) s = .next s) ∧
     (member → ¬behind → exec (.syncReq m) s = .next (s.sendFabric m.serial 6 own 0 0 state)) ∧
     (¬member → behind → im.length ≤ 4096 → exec (.syncReq m) s = .next (s.fabFrame m.serial 7 0 1 own 0 0 im))) ∧
    (let new := s.fab.acting = true ∧ member ∧ ∀ x ∈ s.fab.states, x.1 ≠ m.serial
     let d : Option MapChange := if b.length < 74 then none else
        some { epoch := BitVec.ofNat 16 (beAt b 0 2), capo := beAt b 2 8, image := mapOf (b.drop 10), full := false }
     let w : State := { s with fab := { s.fab with states := s.fab.states ++ [(m.serial, m.epoch, d)] } }
     (¬new → exec (.fabricState m) s = .next s) ∧
     (new → ¬enough (s.fab.states.length + 1) ∨ s.fab.proposal ≠ none ∨ s.fab.pend ≠ none → exec (.fabricState m) s = .next w) ∧
     (∀ a, new → enough (s.fab.states.length + 1) → s.fab.proposal = none → s.fab.pend = none →
        (s.fab.map.getD MapImage.empty).capo + 256 ≤ s.time.stroke → w.inherited = some a →
        ∃ v, exec (.fabricState m) s = .next v ∧ v.fab.acked = some a ∧ v.fab.heir = some a ∧ v.fab.map = s.fab.map ∧ v.scd = s.scd)) ∧
    (m.chunk ≠ 0 → s.fab.chunks = [] →
      exec (.syncData m) s = .next { s with fab := { s.fab with chunks := [(m.chunk.toNat, b)] } }) ∧
    (m.chunk = 0 → s.fab.chunks = [] → mapSize b ≤ 4096 →
      let im := mapOf b
      ∃ v, exec (.syncData m) s = .next v ∧ v.rf .fabMapstat 29 29 = 1 ∧ v.fab.chunks = [] ∧ v.scd = s.scd ∧
        (s.fab.map = none ∨ epochAbove im.epoch own = true → v.fab.pend = some { epoch := im.epoch, capo := im.capo, image := im, full := true } ∧
          (max im.capo (s.time.stroke + 1), Due.capo) ∈ v.due ∧ v.fab.map = s.fab.map) ∧
        (s.fab.map ≠ none → own = im.epoch → v.fab.map = some im ∧ v.fab.pend = s.fab.pend)) ∧
    (let x := (BitVec.ofNat 64 (beAt b 0 8), beAt b 8 2)
     (s.fab.acting = false ∨ x ∈ s.fab.losses → exec (.loss m) s = .next s) ∧
     (s.fab.acting = true → x ∉ s.fab.losses → s.fab.proposal ≠ none →
        exec (.loss m) s = .next { s with fab := { s.fab with losses := s.fab.losses ++ [x] } })) ∧
    exec (.revokeDone m) s = .next { s with fab := { s.fab with reports := s.fab.reports ++ [(s.time.stroke, m.serial, b)] } }

/-- The fabric map in time (R476, R480 to R485). -/
def Obligations.FabricTimesAndMap : Prop :=
  ∀ (s : State), s.regs.rising = true → s.acts.rising = true →
    (∀ c : Cmd, bufOk c 64 = true → let u := begun s c 0x40
      let im := (u.fab.map.getD MapImage.empty).bytes
      let r := Cmd.running c 0x40
      (c.buflen.toNat < im.length → exec (.mapGet c) s = .next (u.complete r .formatUnsupported im.length)) ∧
      (im.length ≤ c.buflen.toNat → exec (.mapGet c) s = .next ((u.ctlStore c.buf.toNat im).complete r .ok im.length))) ∧
    (∀ c : Cmd, bufOk c 32 = true → let u := begun s c 0x41
      exec (.fabKey c) s = .next (({ u with fab := { u.fab with key := some (u.laneRead c.buf.toNat 32) } } : State).complete
        (Cmd.running c 0x41) .ok)) ∧
    (let n := if s.serial ∈ s.council then 8 else 64
      let beats := s.fab.map ≠ none ∧ s.time.stroke % n = 0 ∧ s.fabHeld = false
      (s.fab.map = none → exec .heartbeatSend s = .next s) ∧
      (s.fab.map ≠ none → exec .heartbeatSend s = .next (State.run (1536 * (n - s.time.stroke % n) - s.time.cy) s)) ∧
      (¬beats → s.heartbeats = s) ∧
      (beats → s.serial ∈ s.council →
        s.heartbeats = (s.council.filter fun x => x != s.serial).foldl (fun t x => t.sendFabric x 1 t.mapEpoch 0 0 []) s) ∧
      (∀ x, beats → s.serial ∉ s.council → s.manager = some x → x ≠ s.serial →
      s.heartbeats = s.sendFabric x 1 s.mapEpoch 0 0 [] ∧
      (∀ ip p key, s.fab.key = some key → s.deviceIp x = some ip →
        s.routeTo (s.sourceIp (ip.toNat / 2 ^ 32 == 0xFFFF)) ip = some p → 640 ≤ p.toNat →
        ∃ t f msg, s.heartbeats = t ∧ t.frames (.planned p.toNat) = s.frames (.planned p.toNat) ++ [f] ∧
          f.body = .fabric 1 msg ∧ f.cls = 6 ∧ f.key = some 0x800 ∧ f.dest = ip ∧ f.port = p ∧ f.sport = f.udp ∧ msg.serial = s.serial ∧
          msg.epoch = s.mapEpoch ∧ msg.nfrm = 1 ∧ msg.fidx = 0 ∧ msg.seq = BitVec.ofNat 32 s.fab.seq ∧ msg.payload = [] ∧
          t.fab = { s.fab with seq := (s.fab.seq + 1) % 2 ^ 32 } ∧ t.regs = s.regs ∧ t.scd = s.scd))) ∧
    (∀ x : Dword, let w : State := { s with fab := { s.fab with heard := s.fab.heard.erase x.toNat } }
      (s.fab.heard.find x.toNat = none → exec (.livenessExpiry (.device x)) s = .next s) ∧
      (∀ n, s.fab.heard.find x.toNat = some n →
        momentRow s (.livenessExpiry (.device x)) (1536 * (n + s.af .fabCfg 31 24 + if x ∈ s.council then 0 else 64))
          (s.silent (.device x)).managerCheck) ∧
      ((∃ n, s.fab.heard.find x.toNat = some n) → s.fabHeld = false →
      (∀ m, s.fab.acting = false → w.isManager = false → w.manager = some m → m ≠ s.serial →
        (s.silent (.device x)).managerCheck = (w.sendFabric m 8 w.mapEpoch 0 0 (beBytes 8 x.toNat ++ beBytes 2 0xFFFF))) ∧
      (s.fab.acting = true → w.isManager = true → s.fab.proposal ≠ none → (x, 0xFFFF) ∉ s.fab.losses →
        (s.silent (.device x)).managerCheck = { w with fab := { w.fab with losses := w.fab.losses ++ [(x, 0xFFFF)] } }))) ∧
    (∀ p : Port, let w : State := { s with lanes := { s.lanes with downAt := s.lanes.downAt.erase p.toNat } }
      let mine := s.mapOr.mems.any fun m => s.fabIndex == some m.dev.toNat && m.port.toNat == p.toNat
      (s.lanes.downAt.find p.toNat = none → exec (.livenessExpiry (.port p)) s = .next s) ∧
      (∀ n, s.lanes.downAt.find p.toNat = some n →
        momentRow s (.livenessExpiry (.port p)) (1536 * (n + s.af .fabCfg 31 24)) (s.silent (.port p)).managerCheck) ∧
      ((∃ n, s.lanes.downAt.find p.toNat = some n) → s.fab.map ≠ none → s.fabHeld = false → s.fab.acting = false →
      s.isManager = false →
        (mine = false → (s.silent (.port p)).managerCheck = w) ∧
        ∀ m, mine = true → s.manager = some m → m ≠ s.serial →
          (s.silent (.port p)).managerCheck = w.sendFabric m 8 w.mapEpoch 0 0 (beBytes 8 s.serial.toNat ++ beBytes 2 p.toNat))) ∧
    latchedRow s .capoApply (fun d => d == .capo) ∧
    (∀ n, latchedAt s (fun d => d == .capo) .capo n → 1536 * n ≤ s.now → s.fab.pend = none →
      ∃ v, exec .capoApply s = .next v ∧ v = { s with due := v.due }) ∧
    (∀ n c, latchedAt s (fun d => d == .capo) .capo n → 1536 * n ≤ s.now → s.fab.pend = some c → let old := s.fab.map.getD MapImage.empty
      let new := old.merge c
      ∃ v, exec .capoApply s = .next v ∧ v.fab.map = some new ∧ v.fab.pend = none ∧ v.fab.prevEpoch = s.mapEpoch ∧ v.fab.proposal = none ∧
        v.fab.acked = s.fab.acked.filter (fun a => epochAbove a.epoch c.epoch) ∧
        (∀ q, q ∈ v.fab.uplinks ↔ q < 640 ∧ v.role q = 2 ∧ v.portUp q = true) ∧
        v.rf .fabEpoch 15 0 = c.epoch.toNat ∧ v.rf .fabEpoch 31 16 = s.mapEpoch.toNat ∧ v.scd = s.scd ∧ v.sec = s.sec ∧
        v.fab.graceUntil = (if s.time.stroke < c.capo + 256 then some (c.capo + 256) else none) ∧
        (∀ m ∈ new.mems, m.reqid.toNat < 0xFFFE → m.port.toNat < 642 → (∀ x ∈ new.mems, x.reqid = m.reqid → x = m) →
          let here := v.fabIndex = some m.dev.toNat
          let up := firstBelow 640 fun q => v.role q == 2
          let bound (q : Nat) : Prop := v.rf .secBind 31 31 0 m.reqid.toNat = 1 ∧ v.rf .secBind 29 20 0 m.reqid.toNat = m.tenant.toNat % 1024 ∧
            v.rf .secBind 19 10 0 m.reqid.toNat = q
          (here → bound (v.bindPort m.port.toNat)) ∧ (¬here → ∀ q, up = some q → bound q) ∧
          (¬here → up = none → v.rf .secBind 31 31 0 m.reqid.toNat = 0)) ∧
        (∀ m ∈ old.mems, m.reqid.toNat < 0xFFFE → (∀ x ∈ new.mems, x.reqid ≠ m.reqid) → v.rf .secBind 31 31 0 m.reqid.toNat = 0)) ∧
    (s.fab.graceUntil = none → exec .graceEnd s = .next s) ∧
    (∀ g, s.time.cy < 1536 → s.fab.graceUntil = some g →
      momentRow s .graceEnd (1536 * g) { s with fab := { s.fab with graceUntil := none } })

/-- Segments (Table 3.13, R95 to R104, R547 to R550). The stroke on which a load completes, and the descriptor taken, are the model's choices (log
entry 55). -/
def Obligations.SegmentLifeCycle : Prop :=
  ∀ (s : State), SMap.canon 0 s.scd.ctr = true → SMap.canon KeySlot.fresh s.sec.slots = true →
    let suspends (w v : State) (t : Tenant) : Prop := (w.slot (weightSlot t)).st = .loaded → (v.slot (weightSlot t)).st = .suspended
    (∀ c : Cmd, bufOk c 0x40 = true → let u := begun s c 0x10
      let b := u.laneRead c.buf.toNat c.buflen.toNat
      ∃ v, exec (.segLoad c) s = .next v ∧ v = { u with fw := v.fw, seg := v.seg } ∧
        v.fw = { u.fw with loads := u.fw.loads ++ [(Cmd.running c 0x10, b, u.time.stroke + 256 + leAt b 6 2)] } ∧
        (u.fw.loads ≠ [] ∨ headerOk b = false ∨ u.segment (imageStub b).no ≠ none → v.seg = u.seg) ∧
        (u.fw.loads = [] → headerOk b = true → u.segment (imageStub b).no = none → ∀ i, u.freeDescriptor = some i →
          ∃ g, v.seg.find i = some g ∧ g.image.no = BitVec.ofNat 16 (leAt b 2 2) ∧ g.image.tenant = BitVec.ofNat 10 (leAt b 4 2) ∧
            g.st = .verifying ∧ ∀ j, j ≠ i → v.seg.find j = u.seg.find j)) ∧
    (∀ c : Cmd, bufOk c 0 = true → let u := begun s c 0x11
      let no := BitVec.ofNat 16 c.arg0.toNat
      let r := Cmd.running c 0x11
      let good := no ≠ 0 ∧ ∃ g, u.segment no = some g ∧ g.st ≠ .verifying ∧ g.unloading = false
      (¬good → exec (.segUnload c) s = .next (u.complete r .formatUnsupported)) ∧
      (good → exec (.segUnload c) s =
        .next (((u.updSegment no fun g => { g with unloading := true }).latchNext (.segRemove no)).complete r .ok))) ∧
    (∀ c : Cmd, bufOk c 0 = true → let u := begun s c 0x12
      let no := BitVec.ofNat 16 c.arg0.toNat
      let r := Cmd.running c 0x12
      let good := ∃ g, u.segment no = some g ∧ g.st = .ready
      (¬good → exec (.segDisable c) s = .next (u.complete r .formatUnsupported)) ∧
      (good → ∃ v, exec (.segDisable c) s = .next v ∧ v.due = u.due ++ [(u.boundary, .segDisable no)] ∧
        v.fw = { u.fw with disabling := u.fw.disabling ++ [(no, some r)] } ∧ v.seg = u.seg ∧ v.mem = u.mem)) ∧
    (∀ no : SegNo, (∀ r b n xs, s.fw.loads = (r, b, n) :: xs → (imageStub b).no ≠ no) → exec (.segmentLoadComplete no) s = .next s) ∧
    (∀ (no : SegNo) r b n xs, s.fw.loads = (r, b, n) :: xs → (imageStub b).no = no →
      let fresh := (∃ g, s.segment no = some g ∧ g.st = .verifying) ∧ s.isDue (.segReady no) = false
      let passes (w : State) : Prop := w.fw = { s.fw with loads := xs } ∧
        exec (.segmentLoadComplete no) s = .next (((w.complete r .ok).trace w.loadCore 2 0x5001 [no.toNat, 0]).loadNext)
      reported ((loading s no xs).loadFails b) = none →
        (fresh → ∃ w, passes w ∧ w.isDue (.segReady no) = true ∧ w.regs = s.regs ∧
          ∀ g, s.segment no = some g → w.segment no = some { g with image := imageOf b }) ∧
        (¬fresh → ∃ w, passes w ∧ w.isDue (.segReplace (imageOf b)) = true ∧ w.regs = s.regs ∧
          ∀ g, s.segment no = some g → w.segment no = some { g with pendRepl := true })) ∧
    (∀ no : SegNo,
      let comes (d : Due) : Prop := ∃ n, latchedAt s (fun x => x == d) d n ∧ 1536 * n ≤ s.now
      latchedRow s (.segmentReady no) (fun d => d == .segReady no) ∧ latchedRow s (.segmentReplace no) (replaceDue no) ∧
      latchedRow s (.segmentRemove no) (fun d => d == .segRemove no) ∧
      latchedRow s (.segmentDisableApply no) (fun d => d == .segDisable no) ∧
      (∀ g, comes (.segReady no) → s.segment no = some g → g.st = .verifying → ∃ v, exec (.segmentReady no) s = .next v ∧
        v.segment no = some { g with st := .ready, epoch := (s.tenant g.image.tenant).epoch } ∧ suspends s v g.image.tenant ∧
        (∀ x, x ≠ no → v.segment x = s.segment x) ∧ v.mem = s.mem ∧ v.scd = s.scd ∧ v.sec.grants = s.sec.grants) ∧
      (∀ n img old, latchedAt s (replaceDue no) (.segReplace img) n → 1536 * n ≤ s.now →
        s.segment no = some old → ∃ v, exec (.segmentReplace no) s = .next v ∧
          v.segment no = some { image := img, st := .ready, pendRepl := false, epoch := (s.tenant img.tenant).epoch, unloading := false } ∧
          suspends s v img.tenant ∧ suspends s v old.image.tenant ∧ (∀ x, x ≠ no → v.segment x = s.segment x) ∧
          v.mem = s.mem ∧ v.scd = s.scd) ∧
      (∀ g, comes (.segRemove no) → s.segment no = some g → ∃ v, exec (.segmentRemove no) s = .next v ∧
        v.segment no = none ∧ suspends s v g.image.tenant ∧ (∀ x, x ≠ no → v.segment x = s.segment x) ∧ v.mem = s.mem ∧ v.scd = s.scd) ∧
      (∀ g, comes (.segDisable no) → s.segment no = some g → ∃ v, exec (.segmentDisableApply no) s = .next v ∧
        v.segment no = some (if g.st = .ready then { g with st := .disabled } else g) ∧ (∀ x, x ≠ no → v.segment x = s.segment x) ∧
        v.mem = s.mem ∧ v.scd = s.scd ∧ v.fw = s.fw) ∧
      (let waits := (∃ g, s.segment no = some g ∧ g.st = .ready) ∨ s.isDue (.segDisable no) = true ∨ ∃ o ∈ s.eng.ops, o.seg = no
       ((∀ x ∈ s.fw.disabling, x.1 ≠ no) ∨ waits → exec (.segDisableCleanup no) s = .next s) ∧
       (∀ g r xs, s.fw.disabling = (no, some r) :: xs → ¬waits → s.segment no = some g → ∃ w : State,
         exec (.segDisableCleanup no) s = .next (w.complete r .ok) ∧ w.fw = { s.fw with disabling := xs } ∧ w.regs = s.regs ∧
         (∀ k ∈ s.scds, ∀ i o, (i, o) ∈ g.image.ops.flatMap (fun x => x.2) → ∀ n ∈ o.counters,
           w.ctr k n = 0 ∧ w.ctr k (n ^^^ 0x100) = 0) ∧
         (∀ k ∈ s.scds, ∀ i o, (i, o) ∈ g.image.ops.flatMap (fun x => x.2) → ∀ f ∈ o.dests, ∀ j,
           s.region (fretBase (s.fretEntry g.image k f)) = .scratch j → ∀ a, fretBase (s.fretEntry g.image k f) ≤ a →
             a < fretBase (s.fretEntry g.image k f) + 128 * fretExtent (s.fretEntry g.image k f) → w.bankByte a = 0)))) ∧
    ((∀ k, s.isDue (.remap k) = false) → exec .tileRemap s = .next s) ∧
    (∀ k n, latchedAt s remapDue (.remap k) n → momentRow s .tileRemap (1536 * n) (s.installTiles true)) ∧
    (∃ v, s.installTiles true = v ∧ v.scd = { s.scd with layout31 := true } ∧ v.mem = s.mem ∧ v.seg = s.seg ∧
      v.regs = s.regs ∧ ∃ es, v.fw.events = s.fw.events ++ es ∧ (∀ e ∈ es, e.code = 0x0022 ∧ e.kind = kindSegment) ∧
        es.map (fun e => e.unit) = (s.seg.filter fun e => e.2.st != .verifying && e.2.image.fret31.isNone).map fun e => e.2.image.no.toNat)

/-- R99: the status a failed load reports. (R98 and Table 3.13 say which checks there are; the clauses on checks 3, 4 and 6 are part of them
only.) -/
def Obligations.LoadChecks : Prop :=
  (∀ (s : State) (b : List Byte),
    let fails := s.loadFails b
    let g := imageOf b
    let order := [Status.tenantGone, .noGrant, .unitAbsent, .formatUnsupported]
    (sha384 (b.drop 0x40) ≠ sub b 0x10 48 → fails.map (fun f => f.check) = [1]) ∧
    (sha384 (b.drop 0x40) = sub b 0x10 48 → headerOk b = false → fails.map (fun f => f.check) = [2]) ∧
    (1023 < leAt b 4 2 → headerOk b = false) ∧
    (sha384 (b.drop 0x40) = sub b 0x10 48 → headerOk b = true →
      (fails.map (fun f => f.check)).Pairwise (· < ·) ∧ (∀ f ∈ fails, 3 ≤ f.check ∧ f.check ≤ 14) ∧
      (s.segment g.no = none → s.seg.length = 64 → ∃ f ∈ fails, f.check = 3) ∧
      ((s.tenant g.tenant).st ≠ .active → ∃ f ∈ fails, f.check = 4) ∧
      (s.noDistance = true → ∀ i < g.len, ∀ c, g.chords[i]? = some c → (∃ n < 5, slotOn c (11 + n) = true) →
        ∃ f ∈ fails, f.check = 6 ∧ f.where_ ≤ i)) ∧
    (∀ n, checkStatus n = if n = 4 then .tenantGone else if n = 10 then .noGrant else if n = 6 then .unitAbsent else .formatUnsupported) ∧
    (reported fails = none ↔ fails = []) ∧
    (∀ f, reported fails = some f → f ∈ fails ∧
      (∀ x ∈ fails, order.idxOf (checkStatus f.check) ≤ order.idxOf (checkStatus x.check)) ∧
      (∀ x ∈ fails, checkStatus x.check = checkStatus f.check → f.check ≤ x.check))) ∧
  (∀ (s : State) (no : SegNo) r b n xs f, s.regs.rising = true → s.fw.loads = (r, b, n) :: xs → (imageStub b).no = no →
    reported ((loading s no xs).loadFails b) = some f →
    ∃ w : State, exec (.segmentLoadComplete no) s =
        .next (((w.complete r (checkStatus f.check)).trace w.loadCore 2 0x5001 [no.toNat, (checkStatus f.check).code]).loadNext) ∧
      w.rv .seqLoaderr = ((checkStatus f.check).code * 2 ^ 24 + f.check * 2 ^ 20 + (if f.sect31 then 2 ^ 16 else 0) +
        f.tile * 2 ^ 11 + f.where_) % 2 ^ 32 ∧
      w.rv .seqLoaderrSeg = no.toNat ∧ w.seg = (if headerOk b = true then (loading s no xs).seg else s.seg) ∧ w.due = s.due ∧
      w.scd = s.scd ∧ w.mem = s.mem)

/-- Firmware (Tables 15.2, 17.1, 17.7 and 17.8, R498 to R500, R516 to R521). What an activation and a watchdog do where the spec is silent are the
model's choices (log entries 56 and 57). -/
def Obligations.FirmwareAndWatchdogs : Prop :=
  ∀ (s : State), s.regs.rising = true → SMap.canon FwType.fresh s.fw.types = true → SMap.canon 0 s.sec.svnMin = true →
    (∀ c : Cmd, bufOk c 1 = true → let u := begun s c 0x50
      let y := c.arg0.toNat % 16
      let b := u.laneRead c.buf.toNat c.buflen.toNat
      let r := Cmd.running c 0x50
      (s.lanes.frstN = false → exec (.fwStage c) s = .next s) ∧
      (s.lanes.frstN = true → u.rotHeld = false →
      let good := 1 ≤ y ∧ y ≤ 6 ∧ (u.fwType y).st < 2 ∧ u.imageOk y b = true
      (¬good → exec (.fwStage c) s = .next (u.complete r .formatUnsupported)) ∧
      (good → ∃ w : State, exec (.fwStage c) s = .next (w.complete r .ok) ∧ (∀ z, z ≠ y → w.fwType z = u.fwType z) ∧
        w.fwType y = { u.fwType y with st := 1, scommit := false, staged := some (digestOf (sub b 0x020 48), leAt b 8 4) } ∧
        w.sec = u.sec ∧ w.scd = u.scd ∧
        u.svnMin y ≤ leAt b 8 4 ∧ leAt b 0 4 = 0x4657494D ∧ leAt b 4 2 = y ∧ sha384 (sub b 0x1600 (leAt b 0xC 4)) = sub b 0x020 48))) ∧
    (∀ c : Cmd, bufOk c 0 = true → let u := begun s c 0x51
      let y := c.arg0.toNat % 16
      let r := Cmd.running c 0x51
      let x := u.fwType y
      (s.lanes.frstN = false → exec (.fwCommit c) s = .next s) ∧
      (s.lanes.frstN = true → u.rotHeld = false →
      (y = 0 ∨ 6 < y → exec (.fwCommit c) s = .next (u.complete r .formatUnsupported)) ∧
      (1 ≤ y → y ≤ 6 → ∃ (w : State) (x' : FwType), exec (.fwCommit c) s = .next (w.complete r .ok (w.svnMin y)) ∧ w.fwType y = x' ∧
        (∀ z, z ≠ y → w.fwType z = u.fwType z ∧ w.svnMin z = u.svnMin z) ∧
        w.svnMin y = (if c.arg0.getLsbD 8 then max (u.svnMin y) x'.boot.2 else u.svnMin y) ∧
        (x.st = 1 → x' = { x with scommit := true, boot := x.staged.getD x.boot }) ∧
        (x.st = 4 → x' = { x with st := 0, scommit := false, boot := x.running, staged := none }) ∧
        (x.st ≠ 1 → x.st ≠ 4 → x' = x) ∧ w.scd = u.scd ∧ w.mem = u.mem))) ∧
    (∀ c : Cmd, bufOk c 0 = true → let u := begun s c 0x52
      let y := c.arg0.toNat % 16
      let r := Cmd.running c 0x52
      let x := u.fwType y
      let good := 2 ≤ y ∧ y ≤ 6 ∧ x.st = 1
      (s.lanes.frstN = false → exec (.fwActivate c) s = .next s) ∧
      (s.lanes.frstN = true →
      (¬good → exec (.fwActivate c) s = .next (u.complete r .formatUnsupported)) ∧
      (good → u.emergency = true → ∃ w : State, exec (.fwActivate c) s = .next (w.complete r .deferred) ∧
        w.fwType y = { x with st := 2, waiting := some r, retryAt := none } ∧ w.scd = u.scd) ∧
      (good → u.emergency = false → ∃ v, exec (.fwActivate c) s = .next v ∧ v.fw.running = u.fw.running ∧ v.mem = u.mem ∧
        v.fwType y = { x with st := 3, waiting := some r, doneAt := some (u.time.stroke + 64 * (coresOf y).length), retryAt := none }))) ∧
    (∀ y : BitVec 3, let x := s.fwType y.toNat
      (x.retryAt = none → exec (.fwActivationRetry y) s = .next s) ∧
      (∀ n, x.retryAt = some n → momentRow s (.fwActivationRetry y) (1536 * n) (s.fwRetry y.toNat)) ∧
      (x.st ≠ 2 ∨ s.emergency = true → s.fwRetry y.toNat = s) ∧
      (x.st = 2 → s.emergency = false → ∃ v, s.fwRetry y.toNat = v ∧ v.mem = s.mem ∧
        v.fwType y.toNat = { x with st := 3, doneAt := some (s.time.stroke + 64 * (coresOf y.toNat).length), retryAt := none } ∧
        ∀ z, z ≠ y.toNat → v.fwType z = s.fwType z) ∧
      (x.st ≠ 3 ∨ s.lanes.frstN = false → exec (.fwActivationComplete y) s = .next s) ∧
      (x.st = 3 → s.lanes.frstN = true → ∃ w : State, (∀ z, z ≠ y.toNat → w.fwType z = s.fwType z) ∧ w.scd = s.scd ∧ w.sec = s.sec ∧
        (x.scommit = true → (w.fwType y.toNat).st = 0 ∧ (w.fwType y.toNat).staged = none) ∧
        (x.scommit = false → (w.fwType y.toNat).st = 4 ∧ (w.fwType y.toNat).staged = x.staged) ∧
        (w.fwType y.toNat).running = x.staged.getD x.running ∧ (w.fwType y.toNat).boot = x.boot ∧ (w.fwType y.toNat).waiting = none ∧
        (x.waiting = none → exec (.fwActivationComplete y) s = .next w) ∧
        (∀ r, x.waiting = some r → s.ring r.q.toNat ≠ none → exec (.fwActivationComplete y) s = .next (w.complete r .ok)) ∧
        (∀ r, x.waiting = some r → s.ring r.q.toNat = none → exec (.fwActivationComplete y) s = .next (w.complete { r with q := 0 } .ok)))) ∧
    (∀ core : BitVec 5, let k := core.toNat
      let n := s.rf .ctlWdtstat 7 0 0 k
      let again := ∃ m, s.fw.expired.find k = some m ∧ s.time.stroke ≤ m + 65536
      (20 < k → exec (.watchdogExpire core) s = .refused (.reservedOperand "WATCHDOG_EXPIRE")) ∧
      (k ≤ 20 → s.rf .ctlWdtstat 31 30 0 k ≠ 1 → exec (.watchdogExpire core) s = .next s) ∧
      (k ≤ 20 → s.rf .ctlWdtstat 31 30 0 k = 1 → ∃ v, exec (.watchdogExpire core) s = .next v ∧
        v.rf .ctlWdtstat 7 0 0 k = min 255 (n + 1) ∧ v.rf .ctlAlert 3 3 = 1 ∧ v.fw.expired.find k = some s.time.stroke ∧
        (again → v.rf .ctlWdtstat 31 30 0 k = 2) ∧ (¬again → v.rf .ctlWdtstat 31 30 0 k = 1) ∧
        (∃ e ∈ v.fw.events, e.code = 0x0031 ∧ e.kind = kindCore ∧ e.unit = k ∧ e.stroke = s.time.stroke) ∧
        (k = 0 → v.sec.sessions = []) ∧ (5 ≤ k → k ≤ 8 → v.fab.parts = [] ∧ v.fab.chunks = []) ∧
        ((s.fwType (typeOfCore k)).st = 4 → (v.fwType (typeOfCore k)).st = 1 ∧
          (v.fwType (typeOfCore k)).running = (s.fwType (typeOfCore k)).boot) ∧ v.scd.v = s.scd.v))

/-- Reset and power commands (R537 to R543, R551). A reset of an SCD while one is out is refused by the model (log entry 53). -/
def Obligations.ResetAndPowerCommands : Prop :=
  ∀ (s : State) (c : Cmd), bufOk c 0 = true →
    (let u := begun s c 0x60
     let ok (d : Due) : State := (u.complete (Cmd.running c 0x60) .ok).latchNext d
     let bad (st : Status) : State := u.complete (Cmd.running c 0x60) st
     let shape (kind : Nat) : Prop := (Cmd.withLow c 3 kind).arg0.toNat = kind + c.arg0.toNat / 2 ^ 16 % 2 ^ 10 * 2 ^ 16
     let target := c.arg0.toNat / 2 ^ 16 % 2 ^ 10
     let free := target < 32 ∧ u.scds.length = 32 ∧ ∀ b k, (b, Due.resetScd k) ∉ u.due
     (shape 1 → exec (.resetWarm c) s = .next (ok .resetWarm)) ∧
     (¬shape 1 → exec (.resetWarm c) s = .next (bad .formatUnsupported)) ∧
     (shape 2 → free → exec (.resetScd c) s = .next (ok (.resetScd (BitVec.ofNat 5 target)))) ∧
     (¬(shape 2 ∧ free) → exec (.resetScd c) s = .next (bad .formatUnsupported)) ∧
     (shape 3 → u.plannedTenant (BitVec.ofNat 10 target) = .active →
       exec (.resetTenant c) s = .next (ok (.tenantReset (BitVec.ofNat 10 target)))) ∧
     (shape 3 → u.plannedTenant (BitVec.ofNat 10 target) ≠ .active → exec (.resetTenant c) s = .next (bad .tenantGone)) ∧
     (¬shape 3 → exec (.resetTenant c) s = .next (bad .formatUnsupported))) ∧
    (let u := begun s c 0x61
     let ok (n : Nat) : State := (u.complete (Cmd.running c 0x61) .ok).latchNext (.power n)
     let bad := u.complete (Cmd.running c 0x61) .formatUnsupported
     let may := c.arg0.toNat < 4 ∧ u.rf .ctlBringup 25 24 < 2
     (may → exec (.pwrStateL0 c) s = .next (ok 0) ∧ exec (.pwrStateL1 c) s = .next (ok 1)) ∧
     (may → u.l2Refused = false → exec (.pwrStateL2 c) s = .next (ok 2)) ∧
     (may → u.fwBusy = false → exec (.pwrStateL3 c) s = .next (ok 3)) ∧
     (¬may → ∀ i, i ∈ [Instr.pwrStateL0 c, .pwrStateL1 c, .pwrStateL2 c, .pwrStateL3 c] → exec i s = .next bad) ∧
     (u.l2Refused = true → exec (.pwrStateL2 c) s = .next bad) ∧ (u.fwBusy = true → exec (.pwrStateL3 c) s = .next bad) ∧
     ((∃ x e, (x, e) ∈ u.tier.ext ∧ e.form = 2 ∧ (e.st = 1 ∨ e.st = 2 ∨ e.st = 3)) → u.l2Refused = true) ∧
     ((∃ i g, (i, g) ∈ u.sec.grants ∧ (g.st = .zeroing ∨ g.st = .revoking ∨ g.st = .scrubbing)) → u.l2Refused = true) ∧
     (u.fwBusy = true → u.l2Refused = true)) ∧
    (let u := begun s c 0x62
     (2 ≤ u.rf .ctlBringup 25 24 → exec (.shutdown c) s = .next (u.complete (Cmd.running c 0x62) .formatUnsupported)) ∧
     (u.rf .ctlBringup 25 24 < 2 →
       exec (.shutdown c) s = .next ((u.complete (Cmd.running c 0x62) .ok).latchNext .shutdown)))

/-- Resets and power states in effect (Table 18.8, R52, R405 to R410, R525, R531 to R545, R551). Bytes read after power was lost are zero, and the
return of an SCD at b + 4096, are the model's choices (log entries 4, 53, 58 to 60). -/
def Obligations.ResetsAndPowerStates : Prop :=
  ∀ (s : State), s.regs.rising = true → s.lanes.up.rising = true → SMap.canon TenantRec.fresh s.sec.tenants = true →
    SMap.canon FwType.fresh s.fw.types = true → s.mem.wbuf = [] →
    let ended (v : State) : Prop := v.lane.ops = [] ∧ v.eng.ops = [] ∧ v.timed = [] ∧ v.rcx = [] ∧ v.scd.v = [] ∧ v.fw.running = [] ∧
      v.tier.cold = s.tier.cold
    let dark (v : State) : Prop := ∀ p < 640, v.portUp p = false
    let comes (d : Due) : Prop := ∃ n, latchedAt s resetDue d n ∧ 1536 * n ≤ s.now
    latchedRow s .resetBegin resetDue ∧
    (comes .resetWarm → s.sec.removals = [] → ∃ v, exec .resetBegin s = .next v ∧ ended v ∧ dark v ∧ v.phase = 2 ∧
      v.ready = false ∧ v.seg = [] ∧ v.tier.ext = [] ∧ v.sec.tenants = s.sec.tenants ∧ v.sec.slots = s.sec.slots ∧
      v.sec.sessions = [] ∧ v.fab.map = s.fab.map ∧ v.fab.key = none ∧
      (∀ y, 2 ≤ y → y ≤ 6 → (v.fwType y).running = (s.fwType y).boot) ∧ (v.fwType 1) = (s.fwType 1)) ∧
    (∀ k, comes (.resetScd k) → s.isLost (.scd k) = false → ∃ v, exec .resetBegin s = .next v ∧
      v.isLost (.scd k) = true ∧ (s.time.stroke + 4096, Due.scdReturn k) ∈ v.due ∧ (s.time.stroke + 4096 - 16, Due.handback k) ∈ v.due ∧
      (∀ r, v.vreg k r = 0) ∧ (∀ j r, j ≠ k → v.vreg j r = s.vreg j r) ∧ (∀ n, v.ctr k n = 0) ∧
      (∀ o ∈ v.lane.ops, o.k ≠ k) ∧ v.seg = s.seg ∧ v.tier.cold = s.tier.cold) ∧
    (∀ t, comes (.tenantReset t) → ∃ v, exec .resetBegin s = .next v ∧
      (v.tenant t).epoch = (s.tenant t).epoch + 1 ∧ (v.tenant t).st = (s.tenant t).st ∧ v.sec.grants = s.sec.grants ∧
      v.scd.v = s.scd.v ∧ v.phase = s.phase) ∧
    (s.pwr.target = none → exec .lowPowerDrainComplete s = .next s) ∧
    (∀ level b, s.pwr.target = some (level, b) →
      (s.workDone = true → exec .lowPowerDrainComplete s = .next s.drained) ∧
      (s.workDone = false → momentRow s .lowPowerDrainComplete (1536 * b) s.drained)) ∧
    (∀ b, s.pwr.target = some (2, b) → ∃ v, s.drained = v ∧ ended v ∧ dark v ∧ v.phase = 0x20 ∧ v.pstate = 2 ∧
      v.ready = false ∧ v.sec.tenants = s.sec.tenants ∧ v.sec.slots = s.sec.slots ∧ v.tier.ext = s.tier.ext ∧ v.fab = s.fab ∧
      ∀ a, a < nearTop → v.bankByte a = s.bankByte a) ∧
    (∀ b, s.pwr.target = some (3, b) → ∃ v, s.drained = v ∧ ended v ∧ dark v ∧ v.phase = 0x30 ∧ v.pstate = 3 ∧
      v.ready = false ∧ v.sec.slots = [] ∧ v.sec.grants = [] ∧ (∀ t, (v.tenant t).st = .free) ∧ v.tier.ext = [] ∧
      v.fab = FabSt.reset ∧ (∀ a, v.bankByte a = 0) ∧ v.time.stroke = s.time.stroke) ∧
    (∀ b, s.pwr.target = some (4, b) → ∃ v, s.drained = v ∧ v.phase = 0x41 ∧ v.pwr = { s.pwr with target := none } ∧
      v.mem = s.mem ∧ v.sec = s.sec) ∧
    (∀ w : Word, let may := w = 0 ∧ s.pwr.trip = false ∧ 0x20 ≤ s.phase ∧ s.phase ≤ 0x42
      (¬may → exec (.pwrreqExit w) s = .next s) ∧
      (may → s.pstate = 2 → ∃ v, exec (.pwrreqExit w) s = .next v ∧ v.phase = 4 ∧ v.pstate = 2 ∧ v.mem = s.mem ∧ v.sec = s.sec) ∧
      (may → s.pstate = 3 → ∃ v, exec (.pwrreqExit w) s = .next v ∧ v.phase = 2 ∧ v.pstate = 3 ∧ v.rf .ctlWdtstat 31 30 0 0 = 1 ∧
        v.mem = s.mem ∧ v.sec = s.sec)) ∧
    (∀ straps : BitVec 4, ∀ i, i = Instr.powerOnReset straps ∨ i = .pinReset straps → ∃ v, exec i s = .next v ∧ v.phase = 1 ∧
      v.ready = false ∧ v.rv .ctlStraps = straps.toNat ∧ v.lanes.straps = straps ∧ v.scd = ScdSt.reset ∧ v.lane = LaneSt.reset ∧
      v.timed = [] ∧ v.due = [] ∧ v.sec.tenants = [] ∧ v.sec.slots = [] ∧ v.sec.grants = [] ∧ v.sec.svnMin = s.sec.svnMin ∧
      v.sec.serial = s.sec.serial ∧ v.pwr.half0 = s.pwr.half0 ∧ v.pwr.half1 = s.pwr.half1 ∧ v.tier.trays = s.tier.trays ∧
      v.lanes.lsrFltN = s.lanes.lsrFltN ∧ v.tier.cold = s.tier.cold ∧ v.tier.ext = [] ∧ v.fab = FabSt.reset ∧ v.pending = s.pending ∧
      (∀ y, 1 ≤ y → y ≤ 6 → (v.fwType y).running = (s.fwType y).boot) ∧
      (i = .powerOnReset straps → v.lanes.thermTripN = true) ∧ (i = .pinReset straps → v.lanes.thermTripN = s.lanes.thermTripN)) ∧
    (∃ v, exec .frstNAssert s = .next v ∧ dark v ∧ v.lanes.frstN = false ∧ v.lanes.i3cAddr = none ∧ v.lanes.ppsOut = false ∧
      v.mem = s.mem ∧ v.sec = s.sec ∧ v.scd = s.scd) ∧
    exec (.pwrGoodChange true) s = .next { s with lanes := { s.lanes with pwrGood := true } } ∧
    (∃ v, exec (.pwrGoodChange false) s = .next v ∧ ended v ∧ dark v ∧ v.lanes.pwrGood = false ∧ v.phase = 0 ∧ v.ready = false)

/-- Thermal limits (Table 18.3, R520, R526 to R530). The readings are operands (log entry 7); the mean over the readings held and the argument of the
record are the model's readings (log entry 49). -/
def Obligations.EmergencyLevels : Prop :=
  ∀ (s : State), s.regs.rising = true →
    (∀ x : Sensors, s.pwr.trip = true → exec (.temperatureSample x) s = .next s) ∧
    (∀ x : Sensors, s.pwr.trip = false →
      let log := (x.power.toNat :: if s.pwr.powerAt = s.time.stroke then s.pwr.powerLog.drop 1 else s.pwr.powerLog).take 1024
      let mean := log.sum / log.length % 2 ^ 16
      let die := x.die.toNat
      let stack := x.stack.toNat
      let board := s.rf .ctlEmerg 29 29 = 1
      let at3 := 110 ≤ die ∨ 95 ≤ stack
      let at2 := 102 ≤ die ∨ 90 ≤ stack ∨ 2750 ≤ mean ∨ board
      let at1 := 95 ≤ die ∨ 85 ≤ stack ∨ 2600 ≤ mean
      let clear1 := die ≤ 90 ∧ stack ≤ 80 ∧ mean ≤ 2500
      let clear2 := die ≤ 97 ∧ stack ≤ 85 ∧ mean ≤ 2650 ∧ ¬board
      let cur := s.rf .ctlEmerg 31 30
      let user := s.rf .ctlEmerg 7 0
      ∃ v, exec (.temperatureSample x) s = .next v ∧ v.rf .ctlTemp 31 24 = stack ∧ v.rf .ctlTemp 23 16 = die ∧ v.rf .ctlTemp 15 0 = mean ∧
        v.sec.tenants = s.sec.tenants ∧ v.rf .ctlEmerg 7 0 = user ∧ v.pwr.sensors = some x ∧ v.pwr.powerLog = log ∧
        (at3 → cur < 3 → v.rf .ctlEmerg 31 30 = 3 ∧ v.lanes.thermTripN = false ∧ v.phase = 0xF0 ∧ v.ready = false ∧ v.pwr.trip = true ∧
          v.lane.ops = [] ∧ v.rf .seqSkipctl 7 0 = user ||| 0xAA) ∧
        (¬at3 → at2 → cur < 2 → v.rf .ctlEmerg 31 30 = 2 ∧ v.rf .seqSkipctl 7 0 = user ||| 0xAA ∧ v.rf .ctlAlert 4 4 = 1 ∧
          ∃ e ∈ v.fw.events, e.code = 0x0032 ∧ e.sev = 2) ∧
        (¬at3 → ¬at2 → at1 → cur = 0 → v.rf .ctlEmerg 31 30 = 1 ∧ v.rf .seqSkipctl 7 0 = user ||| 0x80 ∧ v.rf .ctlAlert 4 4 = 1 ∧
          ∃ e ∈ v.fw.events, e.code = 0x0032 ∧ e.sev = 2) ∧
        ((at3 → cur = 3) → (at2 → 2 ≤ cur) → (at1 → 1 ≤ cur) → v.rf .ctlEmerg 31 30 = cur ∧ v.rv .seqSkipctl = s.rv .seqSkipctl ∧
          v.fw = s.fw ∧ v.mem = s.mem ∧ v.scd = s.scd ∧
          (cur = 1 ∧ ¬clear1 ∨ cur = 2 ∧ ¬clear2 → v.pwr.clearFrom = none) ∧
          (cur = 1 ∧ clear1 ∨ cur = 2 ∧ clear2 → v.pwr.clearFrom = some (s.pwr.clearFrom.getD s.time.stroke)))) ∧
    (∀ x, s.pwr.sensors = some x → s.pwr.trip = false → s.sensorsRead = s.levelFall.sample x) ∧
    (let cur := s.rf .ctlEmerg 31 30
     (cur = 0 ∨ cur = 3 ∨ s.pwr.clearFrom = none → exec .emergencyLevelFall s = .next s ∧ s.levelFall = s) ∧
     (∀ n, cur = 1 ∨ cur = 2 → s.pwr.clearFrom = some n →
       momentRow s .emergencyLevelFall (1536 * (n + 1024)) s.levelFall ∧ (s.time.stroke < n + 1024 → s.levelFall = s)) ∧
     (∀ n, cur = 1 ∨ cur = 2 → s.pwr.clearFrom = some n → n + 1024 ≤ s.time.stroke → ∃ v, s.levelFall = v ∧ v.rf .ctlEmerg 31 30 = cur - 1 ∧
       v.rf .seqSkipctl 7 0 = s.rf .ctlEmerg 7 0 ||| (if cur = 2 then 0x80 else 0) ∧ v.pwr.clearFrom = none ∧ v.mem = s.mem ∧ v.scd = s.scd ∧
       (∃ e, v.fw.events = s.fw.events ++ [e] ∧ e.code = 0x0032 ∧ e.args.take 2 = [cur, cur - 1])))

/-- Bring-up (Table 18.5, R531 to R536, R551 to R556). How rows end phases is the sender's timing (log entries 3 and 58). -/
def Obligations.BringupPhases : Prop :=
  ∀ (s : State) (x : PhaseEnd), s.regs.rising = true → s.acts.rising = true →
    let failed : Prop := ∃ v, exec (.bringupPhaseEnd x) s = .next v ∧ v.phase = 0xE0 ∧ v.rf .ctlBringup 23 16 = 1 ∧
      v.rf .secBootstat 31 30 = 1 ∧ v.rf .secBootstat 19 16 = x.imgType.toNat ∧ v.rf .secBootstat 15 8 = x.imgCheck.toNat ∧
      v.rf .ctlAlert 2 2 = 1 ∧ v.scd = s.scd ∧ v.mem = s.mem
    (s.phase = 1 ∨ s.phase = 2 → x.ok = false → failed) ∧
    (s.phase = 2 → x.ok = false → x.imgType ≠ 1 → ∃ v, exec (.bringupPhaseEnd x) s = .next v ∧
      ∀ c, 1 ≤ c → c ≤ 20 → coreType c ≠ x.imgType.toNat → ¬((c = 9 ∨ c = 10) ∧ s.noDelta = true) → v.rf .ctlWdtstat 31 30 0 c = 1) ∧
    (s.phase = 1 → x.ok = true → ∃ v, exec (.bringupPhaseEnd x) s = .next v ∧ v.phase = 2 ∧ v.rf .ctlWdtstat 31 30 0 0 = 1 ∧
      v.scd = s.scd ∧ v.mem = s.mem) ∧
    (s.phase = 2 → x.ok = true → ∃ v, exec (.bringupPhaseEnd x) s = .next v ∧ v.phase = 4 ∧ v.rf .secBootstat 31 30 = 2 ∧
      v.sec = s.aliasesOnce.sec ∧ (s.sec.edIdent = s.sec.edIdent.fused → s.aliasesOnce.sec = { s.sec with
        edIdent := s.sec.edIdent.derive false (s.fwType 1).running.1, mlIdent := s.sec.mlIdent.derive true (s.fwType 1).running.1 }) ∧
      (∀ c, 1 ≤ c → c ≤ 20 → ¬((c = 9 ∨ c = 10) ∧ s.noDelta = true) → v.rf .ctlWdtstat 31 30 0 c = 1) ∧ v.mem = s.mem) ∧
    (s.phase = 4 → s.pwr.marksDone = false → ∃ v b n, exec (.bringupPhaseEnd x) s = .next v ∧ v.pwr.marksDone = true ∧
      v.rf .ctlStrec 31 30 = s.strecState ∧
      (s.lanes.frstN = false → v.pwr.half0 = s.pwr.half0 ∧ v.pwr.half1 = s.pwr.half1) ∧
      (s.lanes.frstN = true → v.pwr.runHalf = some b ∧ (v.half b).stamp = some n ∧
      (∀ m, s.pwr.half0.stamp = some m ∨ s.pwr.half1.stamp = some m → m < n) ∧ (v.half b).shut = none ∧ (v.half b).boot = none ∧
      v.half (!b) = s.half (!b)) ∧ (s.strecState ≠ 0 → v.rf .ctlAlert 5 5 = 1) ∧ (v.phase = 4 ∨ v.phase = 0xE0) ∧
      (v.scds.length < 31 → v.phase = 0xE0 ∧ v.rf .ctlBringup 23 16 = 2)) ∧
    (s.phase = 4 → s.pwr.marksDone = true → s.lanes.straps.getLsbD 0 = true → s.pwr.tested = false →
      exec (.bringupPhaseEnd x) s = .next s) ∧
    (s.phase = 4 → s.pwr.marksDone = true → s.lanes.straps.getLsbD 0 = false ∨ s.pwr.tested = true →
      s.scds.length < 31 ∨ s.rf .ctlStkout 25 24 = 3 → ∃ v, exec (.bringupPhaseEnd x) s = .next v ∧ v.phase = 0xE0 ∧
        v.rf .ctlBringup 23 16 = (if s.scds.length < 31 then 2 else 3) ∧ v.mem = s.mem) ∧
    (s.phase = 4 → s.pwr.marksDone = true → s.lanes.straps.getLsbD 0 = false ∨ s.pwr.tested = true →
      31 ≤ s.scds.length → s.rf .ctlStkout 25 24 ≠ 3 → ∃ v, exec (.bringupPhaseEnd x) s = .next v ∧ v.phase = 5 ∧ v.rf .ctlBringup 30 30 = 1 ∧
        v.ring 0 = some ((s.ring 0).getD Ring.pair0) ∧ (∀ q, q ≠ 0 → v.ring q = s.ring q) ∧ v.mem = s.mem) ∧
    (s.phase = 5 → ∃ v, exec (.bringupPhaseEnd x) s = .next v ∧ v.phase = 6 ∧ (v.tenant 0).st = .active ∧
      (∀ t, t ≠ 0 → v.tenant t = s.tenant t) ∧
      (∀ q, q = 0xFFFE ∨ q = 0xFFFF → v.rf .secBind 31 31 0 q = 1 ∧ v.rf .secBind 29 20 0 q = 0 ∧
        v.rf .secBind 19 10 0 q = if q = 0xFFFE then 640 else 641)) ∧
    (s.phase = 6 → x.ok = false → exec (.bringupPhaseEnd x) s = .next s) ∧
    (s.phase = 6 → x.ok = true → let d := x.ptp.toNat - (s.rv .seqOriginHi * 2 ^ 32 + s.rv .seqOriginLo)
      ∃ v, exec (.bringupPhaseEnd x) s = .next v ∧ v.phase = 7 ∧ v.rf .seqAlign 31 31 = 1 ∧ v.time.stroke = d / 1024 ∧
        v.time.cy = d % 1024 * 1536 / 1024 ∧ v.time.ptp = x.ptp ∧ v.time.aligned = true ∧ v.mem = s.mem ∧ v.scd = s.scd) ∧
    (s.phase = 7 → ∃ v, exec (.bringupPhaseEnd x) s = .next v ∧ v.phase = 0x10 ∧ v.ready = true ∧ v.pstate = 0 ∧
      v.rf .ctlNearmap 7 0 = (s.coldCapacity + 8 * 2 ^ 40 - 1) / (8 * 2 ^ 40) % 2 ^ 8 ∧ (s.noDelta = true → v.rf .ctlNearmap 7 0 = 0) ∧
      v.rf .seqSkipctl 7 0 = s.rf .ctlEmerg 7 0 ||| (if s.rf .ctlEmerg 31 30 = 0 then 0 else if s.rf .ctlEmerg 31 30 = 1 then 0x80 else 0xAA) ∧
      v.scd.layout31 = (s.scd.layout31 || decide (s.scds.length < 32)) ∧ v.mem = s.mem) ∧
    (s.phase ∉ [1, 2, 4, 5, 6, 7] → exec (.bringupPhaseEnd x) s = .next s) ∧
    (s.phase ≠ 6 ∨ s.rf .seqAlign 31 31 = 1 → exec .alignmentTimeout s = .next s) ∧
    (s.phase = 6 → s.rf .seqAlign 31 31 = 0 → let d := s.time.ptp.toNat - (s.rv .seqOriginHi * 2 ^ 32 + s.rv .seqOriginLo)
      ∃ v, exec .alignmentTimeout s = .next v ∧ v.phase = 7 ∧ v.rf .ctlAlert 0 0 = 1 ∧ v.rf .seqAlign 31 31 = 0 ∧ v.time.aligned = true ∧
        (s.time.ptp = 0 → v.time.stroke = 0 ∧ v.time.cy = 0) ∧
        (s.time.ptp ≠ 0 → v.time.stroke = d / 1024 ∧ v.time.cy = d % 1024 * 1536 / 1024)) ∧
    (∀ r : List Byte,
      (s.phase = 0x41 → ∃ v, exec (.selfTestComplete r) s = .next v ∧ v.phase = 0x42 ∧ v.pstate = 3) ∧
      (∀ b, s.phase = 0x41 → s.lanes.frstN = true → s.pwr.runHalf = some b → ∃ v bs, exec (.selfTestComplete r) s = .next v ∧ v.phase = 0x42 ∧
        v.pstate = 3 ∧ v.half (!b) = s.half (!b) ∧ (v.half b).shut = some bs ∧ bs.length = 0x1000 ∧ leAt bs 0 4 = 0x46575354 ∧
        leAt bs 4 2 = 1 ∧ leAt bs 6 1 = 0 ∧ leAt bs 8 4 = ((s.half b).stamp.getD 0) % 2 ^ 32 ∧ leAt bs 0x18 8 = s.time.stroke % 2 ^ 64 ∧
        sub bs 0x40 0x1C0 = padTo 0x1C0 r ∧
        sub bs 0x200 64 = padTo 64 (Config.ed25519Sign s.sec.edIdent.device.priv (bs.take 0x200)) ∧
        sub bs 0x240 3309 = padTo 3309 (Config.mldsaSign s.sec.mlIdent.device.priv (bs.take 0x200))) ∧
      (let boot := s.phase = 4 ∧ s.lanes.straps.getLsbD 0 = true ∧ s.pwr.marksDone = true ∧ s.pwr.tested = false
       (∀ b, boot → s.lanes.frstN = true → s.pwr.runHalf = some b → ∃ v bs, exec (.selfTestComplete r) s = .next v ∧ (v.half b).boot = some bs ∧
         leAt bs 6 1 = 1 ∧ sub bs 0x40 0x1C0 = padTo 0x1C0 r ∧ v.pwr.tested = true ∧ v.pwr.marks = some bs ∧
         v.rv .ctlScdout = leAt bs 0xC0 4) ∧
       (s.phase ≠ 0x41 → ¬boot → exec (.selfTestComplete r) s = .next s)))

/-- Losses (Tables 19.1 and 19.2, R30, R539, R540, R567 to R574). What becomes of transactions in progress at a return is the model's choice (log
entry 53). -/
def Obligations.UnitsLostAndReturned : Prop :=
  ∀ (s : State), s.regs.rising = true → s.live.rising = true →
    (∀ x (cause : BitVec 3), (∃ n, x = .stack n ∧ 24 ≤ n.toNat) →
      exec (.unitLossDetect x cause) s = .refused (.reservedOperand "UNIT_LOSS_DETECT")) ∧
    (∀ x (cause : BitVec 3), (∀ n, x = .stack n → n.toNat < 24) →
      (s.isLost x = true → exec (.unitLossDetect x cause) s = .next s) ∧
      (s.isLost x = false → ∃ v, exec (.unitLossDetect x cause) s = .next v ∧ v.isLost x = true ∧
        v.pwr.detected = s.pwr.detected ++ [(x, cause.toNat, s.now)] ∧ v.sec.tenants = s.sec.tenants ∧ v.time = s.time ∧
        ((∀ k, x ≠ .scd k) → (∀ i, x ≠ .seq i) → v.scd = s.scd ∧ v.eng = s.eng ∧ v.mem = s.mem ∧ v.seg = s.seg) ∧
        (∀ k, x = .scd k → (∀ r, v.vreg k r = 0) ∧ (∀ n, v.ctr k n = 0) ∧ (∀ j r, j ≠ k → v.vreg j r = s.vreg j r) ∧
          (∀ o ∈ v.lane.ops, o.k ≠ k) ∧ (∀ o ∈ v.eng.ops, o.k ≠ k) ∧ v.tier.cold = s.tier.cold) ∧
        (∀ m, x = .mid m → ∀ i < 3, v.stackOut (3 * m.toNat + i) = true))) ∧
    (s.pwr.detected = [] → exec .unitLossRecord s = .next s) ∧
    (s.pwr.detected ≠ [] → s.time.cy ≠ 1408 → exec .unitLossRecord s = .next (State.run (cysUntil s 1408) s)) ∧
    (∀ x cause t, s.time.cy = 1408 → s.pwr.detected = [(x, cause, t)] → ∃ v e es, exec .unitLossRecord s = .next v ∧ v.pwr.detected = [] ∧
      v.fw.events = s.fw.events ++ e :: es ∧ e.sev = 1 ∧ e.cy = 1408 ∧ e.stroke = s.time.stroke ∧ e.args.head? = some cause ∧
      (∀ k, x = .scd k → e.code = 0x0001 ∧ e.unit = k.toNat ∧ (s.time.stroke + 1, Due.substitute k) ∈ v.due ∧
        (s.time.stroke + 8, Due.remap k) ∈ v.due ∧ v.time.remapUntil = some (s.time.stroke + 7) ∧
        (s.scds.length < 31 → s.phase ≠ 0xE0 → v.phase = 0xE0 ∧ v.ready = false)) ∧
      (∀ n, x = .stack n → e.code = 0x0002 ∧ e.unit = n.toNat ∧
        (s.tier.ext.rising = true → ∀ y c, (y, c) ∈ s.lostExtents n.toNat → ∃ d, v.tier.ext.find y = some d ∧ d.st = 4)) ∧
      (∀ m, x = .mid m → e.code = 0x0004 ∧ e.unit = m.toNat) ∧
      (∀ i, x = .seq i → e.code = 0x0005 ∧ e.unit = i.toNat ∧ v.time.resyncUntil = some (s.time.stroke + 8)) ∧
      (∀ n, x = .phe n → e.code = 0x0006 ∧ e.kind = kindPhe ∧ e.unit = n.toNat) ∧
      (∀ n, x = .eio n → e.code = 0x0006 ∧ e.kind = kindEio ∧ e.unit = n.toNat)) ∧
    (latchedRow s .scdLossRemap remapDue ∧
     (∀ k n, latchedAt s remapDue (.remap k) n → 1536 * n ≤ s.now → ∃ v, exec .scdLossRemap s = .next v ∧ v.scd = { s.scd with layout31 := true } ∧
       k ∈ v.pwr.portSub ∧ v.mem = s.mem ∧ v.regs = s.regs)) ∧
    (∀ k : Scd,
      latchedRow s (.scdHandbackStart k) (fun d => d == .handback k) ∧
      (∀ b r n, latchedAt s (fun d => d == .handback k) (.handback k) n → 1536 * n ≤ s.now → s.pwr.resetScd = some (k, b, r) → ∃ v, exec (.scdHandbackStart k) s = .next v ∧
        v.pwr.handback = some k ∧ v.scd = s.scd ∧ v.seg = s.seg ∧
        (s.coh.entries = [] → v = { s with pwr := { s.pwr with handback := some k }, due := v.due })) ∧
      ((∀ b r, s.pwr.resetScd ≠ some (k, b, r)) → exec (.scdReturnToService k) s = .next s) ∧
      (∀ b r, s.pwr.resetScd = some (k, b, r) → momentRow s (.scdReturnToService k) (1536 * r) (s.scdReturn k)) ∧
      (∀ b r, s.pwr.resetScd = some (k, b, r) → ∃ v, s.scdReturn k = v ∧ v.pwr.lostScd.getLsbD k.toNat = false ∧
        v.pwr.resetScd = none ∧ v.pwr.handback = none ∧ k ∉ v.pwr.substituted ∧ k ∉ v.pwr.portSub ∧ v.scd = { s.scd with layout31 := false } ∧
        (∀ e ∈ v.coh.entries, rawHome (128 * e.1) ≠ k) ∧ (∀ a < 32, v.rv .dirAgent k.toNat a = s.rv .dirAgent (k ^^^ 1).toNat a) ∧
        v.mem = s.mem ∧ v.seg = s.seg)) ∧
    (∀ (k : Scd) (x : BitVec 14), exec (.tableEntryRepair (.extent k x)) s =
      .next { s with tier := { s.tier with bad := s.tier.bad.filter fun e => e != (k.toNat, x.toNat) } }) ∧
    (∀ g : BitVec 16, exec (.tableEntryRepair (.grant g)) s =
      .next { s with sec := { s.sec with badGrant := s.sec.badGrant.filter fun e => e != g.toNat } }) ∧
    (s.time.resyncUntil = none → exec .seqResyncComplete s = .next s) ∧
    (∀ n, s.time.resyncUntil = some n →
      momentRow s .seqResyncComplete (1536 * (n + 1)) { s with time := { s.time with resyncUntil := none } })

/-- COMMAND_TAKE (R504, R508, R509): firmware takes the next command of the ring whose turn it is, and executes it at once (log entry 21, DESIGN
CHOICE): the row's next state is that of the command's own row, its head counted on and the turn passed to the next ring. -/
def Obligations.CommandTaken : Prop :=
  ∀ (s : State) (q : BitVec 4) (g : Ring), s.ring q.toNat = some g → s.nextTake = some q.toNat →
    let b := s.laneRead (g.cring + 64 * (g.chead % 2 ^ g.n)) 64
    let opc := leAt b 0 2
    let c := entryCmd q b
    let u := s.setRing q.toNat { g with chead := (g.chead + 1) % 2 ^ 32 }
    let v : State := { u with fw := { u.fw with nextRing := (q.toNat + 1) % 16 } }
    let refused := (begun v c opc).complete (Cmd.running c opc) .formatUnsupported
    (∃ t, exec (.commandTake q) s = .next t) ∧
    (∀ i need, entryZeros b = true → commandRow c i opc need → ∃ t, exec (.commandTake q) s = .next t ∧ exec i v = .next t) ∧
    (∀ i low, entryZeros b = true → (i, opc, low) ∈ [(Instr.resetWarm c, 0x60, 1), (.resetScd c, 0x60, 2), (.resetTenant c, 0x60, 3)] →
      c.arg0.toNat % 16 = low → ∃ t, exec (.commandTake q) s = .next t ∧ exec i v = .next t) ∧
    (∀ i low, entryZeros b = true → opc = 0x61 →
      (i, low) ∈ [(Instr.pwrStateL0 c, 0), (.pwrStateL1 c, 1), (.pwrStateL2 c, 2), (.pwrStateL3 c, 3)] →
      c.arg0.toNat % 4 = low → ∃ t, exec (.commandTake q) s = .next t ∧ exec i v = .next t) ∧
    (∀ n, n = 0 ∨ 3 < n → entryZeros b = true → opc = 0x60 → c.arg0.toNat % 16 = n → bufOk c 0 = true →
      exec (.commandTake q) s = .next refused) ∧
    (entryZeros b = false ∨ (opc ≠ 0x60 ∧ opc ≠ 0x61 ∧ ∀ i need, ¬commandRow c i opc need) →
      exec (.commandTake q) s = .next refused)

end
end

