-- ==== Sys2Proof/Laws/Bits.lean ====
section
/-! SUPPORT. Laws of bit fields, byte lists and list updates. -/

namespace Sys2Proof.Machine

/-! ### Fields -/

theorem bits_lt (w hi lo : Nat) : bits w hi lo < 2 ^ (hi - lo + 1) := Nat.mod_lt _ (Nat.two_pow_pos _)

theorem bits_eq (w hi lo : Nat) : bits w hi lo = w / 2 ^ lo % 2 ^ (hi - lo + 1) := by rw [bits, Nat.shiftRight_eq_div_pow]

theorem setBits_eq (w hi lo v : Nat) :
    setBits w hi lo v = w - w / 2 ^ lo % 2 ^ (hi - lo + 1) * 2 ^ lo + v % 2 ^ (hi - lo + 1) * 2 ^ lo := by
  rw [setBits, bits_eq, Nat.shiftLeft_eq, Nat.shiftLeft_eq]

/-- A word is what lies above a field, the field, and what lies below it. -/
theorem word_split (w lo n : Nat) : w = w / 2 ^ (lo + n) * 2 ^ (lo + n) + w / 2 ^ lo % 2 ^ n * 2 ^ lo + w % 2 ^ lo := by
  have h1 := Nat.div_add_mod w (2 ^ lo)
  have h2 := Nat.div_add_mod (w / 2 ^ lo) (2 ^ n)
  rw [Nat.div_div_eq_div_mul, ← pow_add] at h2
  calc w = 2 ^ lo * (w / 2 ^ lo) + w % 2 ^ lo := h1.symm
    _ = 2 ^ lo * (2 ^ n * (w / 2 ^ (lo + n)) + w / 2 ^ lo % 2 ^ n) + w % 2 ^ lo := by rw [h2]
    _ = _ := by rw [pow_add]; ring

/-- A replaced field: the part above it, the new value, the part below it. -/
theorem setBits_split (w hi lo v : Nat) :
    setBits w hi lo v = w / 2 ^ (lo + (hi - lo + 1)) * 2 ^ (lo + (hi - lo + 1)) + v % 2 ^ (hi - lo + 1) * 2 ^ lo + w % 2 ^ lo := by
  rw [setBits_eq]
  have := word_split w lo (hi - lo + 1)
  omega

theorem bits_setBits_self (w hi lo v : Nat) : bits (setBits w hi lo v) hi lo = v % 2 ^ (hi - lo + 1) := by
  rw [setBits_split, bits_eq]
  have hp : 0 < 2 ^ lo := Nat.two_pow_pos lo
  have h : (w / 2 ^ (lo + (hi - lo + 1)) * 2 ^ (lo + (hi - lo + 1)) + v % 2 ^ (hi - lo + 1) * 2 ^ lo + w % 2 ^ lo) / 2 ^ lo =
      w / 2 ^ (lo + (hi - lo + 1)) * 2 ^ (hi - lo + 1) + v % 2 ^ (hi - lo + 1) := by
    rw [show w / 2 ^ (lo + (hi - lo + 1)) * 2 ^ (lo + (hi - lo + 1)) + v % 2 ^ (hi - lo + 1) * 2 ^ lo + w % 2 ^ lo =
        w % 2 ^ lo + (w / 2 ^ (lo + (hi - lo + 1)) * 2 ^ (hi - lo + 1) + v % 2 ^ (hi - lo + 1)) * 2 ^ lo by rw [pow_add]; ring,
      Nat.add_mul_div_right _ _ hp, Nat.div_eq_of_lt (Nat.mod_lt _ hp), Nat.zero_add]
  rw [h, Nat.add_comm, Nat.add_mul_mod_self_right, Nat.mod_mod]

/-- A field below the replaced one. -/
theorem bits_setBits_below (w hi lo v : Nat) {hi' lo' : Nat} (h : hi' < lo) (h' : lo' ≤ hi') : bits (setBits w hi lo v) hi' lo' = bits w hi' lo' := by
  rw [bits_eq, bits_eq]
  have key : ∀ x : Nat, x / 2 ^ lo' % 2 ^ (hi' - lo' + 1) = x % 2 ^ lo / 2 ^ lo' % 2 ^ (hi' - lo' + 1) := by
    intro x
    have e : (2 : Nat) ^ lo = 2 ^ lo' * 2 ^ (lo - lo') := by rw [← pow_add]; congr 1; omega
    rw [e, Nat.mod_mul_right_div_self, Nat.mod_mod_of_dvd]
    exact pow_dvd_pow 2 (by omega)
  rw [key, key w]
  congr 2
  rw [setBits_split]
  have e : w / 2 ^ (lo + (hi - lo + 1)) * 2 ^ (lo + (hi - lo + 1)) + v % 2 ^ (hi - lo + 1) * 2 ^ lo + w % 2 ^ lo =
      w % 2 ^ lo + (w / 2 ^ (lo + (hi - lo + 1)) * 2 ^ (hi - lo + 1) + v % 2 ^ (hi - lo + 1)) * 2 ^ lo := by rw [pow_add]; ring
  rw [e, Nat.add_mul_mod_self_right, Nat.mod_mod]

/-- A field above the replaced one. -/
theorem bits_setBits_above (w hi lo v : Nat) {hi' lo' : Nat} (h : hi < lo') (h' : lo ≤ hi) : bits (setBits w hi lo v) hi' lo' = bits w hi' lo' := by
  rw [bits_eq, bits_eq]
  have key : ∀ x : Nat, x / 2 ^ lo' = x / 2 ^ (lo + (hi - lo + 1)) / 2 ^ (lo' - (hi + 1)) := by
    intro x
    rw [Nat.div_div_eq_div_mul, ← pow_add]
    congr 2; omega
  rw [key, key w]
  congr 2
  rw [setBits_split]
  have hlow : v % 2 ^ (hi - lo + 1) * 2 ^ lo + w % 2 ^ lo < 2 ^ (lo + (hi - lo + 1)) := by
    have h1 : v % 2 ^ (hi - lo + 1) + 1 ≤ 2 ^ (hi - lo + 1) := Nat.mod_lt _ (Nat.two_pow_pos _)
    have h2 := Nat.mod_lt w (Nat.two_pow_pos lo)
    have h3 := Nat.mul_le_mul_right (2 ^ lo) h1
    have e := pow_add 2 lo (hi - lo + 1)
    rw [Nat.mul_comm (2 ^ (hi - lo + 1))] at h3
    rw [← e, Nat.add_mul, Nat.one_mul] at h3
    omega
  rw [Nat.add_assoc, Nat.add_comm, Nat.add_mul_div_right _ _ (Nat.two_pow_pos _), Nat.div_eq_of_lt hlow, Nat.zero_add]

theorem setBits_lt {w hi lo : Nat} (v : Nat) (hw : w < 2 ^ 32) (h : hi < 32) (h' : lo ≤ hi) : setBits w hi lo v < 2 ^ 32 := by
  rw [setBits_split]
  have h1 : v % 2 ^ (hi - lo + 1) + 1 ≤ 2 ^ (hi - lo + 1) := Nat.mod_lt _ (Nat.two_pow_pos _)
  have h2 := Nat.mod_lt w (Nat.two_pow_pos lo)
  have h3 := Nat.mul_le_mul_right (2 ^ lo) h1
  have e : (2 : Nat) ^ 32 = 2 ^ (lo + (hi - lo + 1)) * 2 ^ (31 - hi) := by rw [← pow_add]; congr 1; omega
  have h4 : w / 2 ^ (lo + (hi - lo + 1)) + 1 ≤ 2 ^ (31 - hi) := by
    apply Nat.div_lt_of_lt_mul
    rw [← e]; exact hw
  have h5 := Nat.mul_le_mul_right (2 ^ (lo + (hi - lo + 1))) h4
  have e2 := pow_add 2 lo (hi - lo + 1)
  rw [Nat.mul_comm (2 ^ (hi - lo + 1)), ← e2, Nat.add_mul, Nat.one_mul] at h3
  rw [Nat.add_mul, Nat.one_mul, Nat.mul_comm (2 ^ (31 - hi)), ← e] at h5
  omega

/-! ### Bytes -/

@[simp] theorem leBytes_length (n v : Nat) : (leBytes n v).length = n := by
  induction n generalizing v with
  | zero => rfl
  | succ n ih => simp [leBytes, ih]

@[simp] theorem beBytes_length (n v : Nat) : (beBytes n v).length = n := by simp [beBytes]

theorem leNat_lt (bs : List Byte) : leNat bs < 256 ^ bs.length := by
  induction bs with
  | nil => simp [leNat]
  | cons b bs ih =>
    have hb := b.isLt
    simp only [leNat, List.length_cons, pow_succ]
    omega

theorem leNat_leBytes (n v : Nat) : leNat (leBytes n v) = v % 256 ^ n := by
  induction n generalizing v with
  | zero => simp [leBytes, leNat, Nat.mod_one]
  | succ n ih =>
    simp only [leBytes, leNat, ih, BitVec.toNat_ofNat]
    rw [show 256 ^ (n + 1) = 256 * 256 ^ n by rw [Nat.pow_succ, Nat.mul_comm], Nat.mod_mul]

theorem leBytes_leNat (bs : List Byte) : leBytes bs.length (leNat bs) = bs := by
  induction bs with
  | nil => rfl
  | cons b bs ih =>
    have hb := b.isLt
    simp only [List.length_cons, leBytes, leNat]
    congr 1
    · apply BitVec.eq_of_toNat_eq; simp; omega
    · rw [show (b.toNat + 256 * leNat bs) / 256 = leNat bs by omega]; exact ih

@[simp] theorem padTo_length (n : Nat) (bs : List Byte) : (padTo n bs).length = n := by simp [padTo]

/-! ### Lists -/

@[simp] theorem dropFirst_nil {α : Type} (p : α → Bool) : dropFirst p [] = [] := rfl

theorem dropFirst_of_none {α : Type} {p : α → Bool} {xs : List α} (h : ∀ x ∈ xs, p x = false) : dropFirst p xs = xs := by
  induction xs with
  | nil => rfl
  | cons x xs ih => simp [dropFirst, h x, ih fun y hy => h y (List.mem_cons_of_mem _ hy)]

theorem mem_of_mem_dropFirst {α : Type} {p : α → Bool} {xs : List α} {x : α} (h : x ∈ dropFirst p xs) : x ∈ xs := by
  induction xs with
  | nil => simp at h
  | cons y xs ih =>
    unfold dropFirst at h
    split at h
    · exact List.mem_cons_of_mem _ h
    · rcases List.mem_cons.1 h with rfl | h
      · exact List.mem_cons_self ..
      · exact List.mem_cons_of_mem _ (ih h)

theorem mem_dropFirst_of_not {α : Type} {p : α → Bool} {xs : List α} {x : α} (h : x ∈ xs) (hp : p x = false) : x ∈ dropFirst p xs := by
  induction xs with
  | nil => simp at h
  | cons y xs ih =>
    unfold dropFirst
    rcases List.mem_cons.1 h with rfl | h
    · simp [hp]
    · split
      · exact h
      · exact List.mem_cons_of_mem _ (ih h)

end Sys2Proof.Machine
end

