-- ==== Sys2Proof/Laws/Sparse.lean ====
section
/-! SUPPORT. Laws of sparse maps: what a key reads after each operation, and that each operation keeps the canonical form. -/

namespace Sys2Proof.Machine

namespace SMap

variable {α : Type}

@[simp] theorem find_nil (a : Nat) : SMap.find ([] : SMap α) a = none := rfl

theorem find_insert_self (m : SMap α) (a : Nat) (x : α) : (m.insert a x).find a = some x := by
  induction m with
  | nil => simp [insert, find]
  | cons e m ih =>
    obtain ⟨k, v⟩ := e
    unfold insert
    split
    · simp [find]
    · split
      · simp [find]
      · next h => simp [find, h, ih]

theorem find_insert_of_ne (m : SMap α) {a b : Nat} (x : α) (h : b ≠ a) : (m.insert a x).find b = m.find b := by
  induction m with
  | nil => simp [insert, find, h]
  | cons e m ih =>
    obtain ⟨k, v⟩ := e
    unfold insert
    split
    · simp [find, h]
    · split
      · next hk => subst hk; simp [find, h]
      · simp [find, ih]

theorem find_insert (m : SMap α) (a b : Nat) (x : α) : (m.insert a x).find b = if b = a then some x else m.find b := by
  by_cases h : b = a
  · subst h; simp [find_insert_self]
  · simp [h, find_insert_of_ne m x h]

theorem risingFrom_mono {lo lo' : Nat} {m : SMap α} (h : lo' ≤ lo) (hm : risingFrom lo m = true) : risingFrom lo' m = true := by
  cases m with
  | nil => rfl
  | cons e m =>
    simp only [risingFrom, Bool.and_eq_true, decide_eq_true_eq] at hm ⊢
    exact ⟨by omega, hm.2⟩

theorem risingFrom_tail {lo k : Nat} {v : α} {m : SMap α} (h : risingFrom lo ((k, v) :: m) = true) : lo < k ∧ risingFrom k m = true := by
  simpa [risingFrom] using h

theorem rising_of_risingFrom {lo : Nat} {m : SMap α} (h : risingFrom lo m = true) : m.rising = true := by
  cases m with
  | nil => rfl
  | cons e m => exact (risingFrom_tail (k := e.1) (v := e.2) h).2

theorem rising_tail {e : Nat × α} {m : SMap α} (h : rising (e :: m) = true) : m.rising = true := rising_of_risingFrom h

/-- No key at or below the bound is listed. -/
theorem find_eq_none_of_risingFrom {lo a : Nat} {m : SMap α} (h : risingFrom lo m = true) (ha : a ≤ lo) : m.find a = none := by
  induction m generalizing lo with
  | nil => rfl
  | cons e m ih =>
    obtain ⟨k, v⟩ := e
    have := risingFrom_tail h
    simp only [find]
    rw [if_neg (by omega)]
    exact ih this.2 (by omega)

theorem lt_of_mem_of_risingFrom {lo : Nat} {m : SMap α} (h : risingFrom lo m = true) {e : Nat × α} (he : e ∈ m) : lo < e.1 := by
  induction m generalizing lo with
  | nil => simp at he
  | cons x m ih =>
    obtain ⟨k, v⟩ := x
    have ht := risingFrom_tail h
    rcases List.mem_cons.1 he with rfl | he
    · exact ht.1
    · exact Nat.lt_trans ht.1 (ih ht.2 he)

/-- In a rising map the listed pairs are those that `find` answers. -/
theorem find_eq_some_iff {m : SMap α} (h : m.rising = true) (a : Nat) (x : α) : m.find a = some x ↔ (a, x) ∈ m := by
  induction m with
  | nil => simp [find]
  | cons e m ih =>
    obtain ⟨k, v⟩ := e
    simp only [find]
    split
    · next hk =>
      subst hk
      constructor
      · rintro ⟨⟩; simp
      · intro hm
        rcases List.mem_cons.1 hm with hm | hm
        · cases hm; rfl
        · exact absurd (lt_of_mem_of_risingFrom h hm) (Nat.lt_irrefl _)
    · next hk =>
      rw [ih (rising_tail h)]
      simp [hk]

theorem find_isSome_of_mem {m : SMap α} {e : Nat × α} (he : e ∈ m) : ∃ x, m.find e.1 = some x := by
  induction m with
  | nil => simp at he
  | cons y m ih =>
    obtain ⟨k, v⟩ := y
    simp only [find]
    by_cases hk : e.1 = k
    · exact ⟨v, by simp [hk]⟩
    · rcases List.mem_cons.1 he with rfl | he
      · exact absurd rfl hk
      · obtain ⟨x, hx⟩ := ih he
        exact ⟨x, by simp [hk, hx]⟩

theorem find_erase_self {m : SMap α} (h : m.rising = true) (a : Nat) : (m.erase a).find a = none := by
  induction m with
  | nil => rfl
  | cons e m ih =>
    obtain ⟨k, v⟩ := e
    unfold erase
    split
    · next hk =>
      simp only [find]
      rw [if_neg (by omega)]
      exact find_eq_none_of_risingFrom (lo := k) h (by omega)
    · split
      · next hk => subst hk; exact find_eq_none_of_risingFrom h (Nat.le_refl _)
      · next hk => simp [find, hk, ih (rising_tail h)]

theorem find_erase_of_ne {m : SMap α} (h : m.rising = true) {a b : Nat} (hb : b ≠ a) : (m.erase a).find b = m.find b := by
  induction m with
  | nil => rfl
  | cons e m ih =>
    obtain ⟨k, v⟩ := e
    unfold erase
    split
    · rfl
    · split
      · next hk => subst hk; simp [find, hb]
      · simp [find, ih (rising_tail h)]

theorem find_erase {m : SMap α} (h : m.rising = true) (a b : Nat) : (m.erase a).find b = if b = a then none else m.find b := by
  by_cases hb : b = a
  · subst hb; simp [find_erase_self h]
  · simp [hb, find_erase_of_ne h hb]

theorem risingFrom_insert {lo a : Nat} {m : SMap α} (x : α) (h : risingFrom lo m = true) (ha : lo < a) :
    risingFrom lo (m.insert a x) = true := by
  induction m generalizing lo with
  | nil => simp [insert, risingFrom, ha]
  | cons e m ih =>
    obtain ⟨k, v⟩ := e
    have := risingFrom_tail h
    unfold insert
    split
    · next hk => simp [risingFrom, ha, hk, this.2]
    · split
      · next hk => subst hk; simp [risingFrom, ha, this.2]
      · next h1 h2 => simp [risingFrom, this.1, ih this.2 (by omega)]

theorem rising_insert {m : SMap α} (a : Nat) (x : α) (h : m.rising = true) : (m.insert a x).rising = true := by
  cases m with
  | nil => rfl
  | cons e m =>
    obtain ⟨k, v⟩ := e
    unfold insert
    split
    · next hk => simpa [rising, risingFrom, hk] using h
    · split
      · next hk => subst hk; exact h
      · next h1 h2 => exact risingFrom_insert x h (by omega)

theorem risingFrom_erase {lo : Nat} {m : SMap α} (a : Nat) (h : risingFrom lo m = true) : risingFrom lo (m.erase a) = true := by
  induction m generalizing lo with
  | nil => rfl
  | cons e m ih =>
    obtain ⟨k, v⟩ := e
    have := risingFrom_tail h
    unfold erase
    split
    · exact h
    · split
      · exact risingFrom_mono (by omega) this.2
      · simp [risingFrom, this.1, ih this.2]

theorem rising_erase {m : SMap α} (a : Nat) (h : m.rising = true) : (m.erase a).rising = true := by
  cases m with
  | nil => rfl
  | cons e m =>
    obtain ⟨k, v⟩ := e
    unfold erase
    split
    · exact h
    · split
      · exact rising_tail h
      · exact risingFrom_erase a h

theorem risingFrom_filter {lo : Nat} {m : SMap α} (p : Nat × α → Bool) (h : risingFrom lo m = true) :
    risingFrom lo (List.filter p m) = true := by
  induction m generalizing lo with
  | nil => rfl
  | cons e m ih =>
    have ht := risingFrom_tail (k := e.1) (v := e.2) h
    by_cases he : p e = true
    · rw [List.filter_cons_of_pos he]
      show risingFrom lo ((e.1, e.2) :: List.filter p m) = true
      simp [risingFrom, ht.1, ih ht.2]
    · rw [List.filter_cons_of_neg he]
      exact risingFrom_mono (Nat.le_of_lt ht.1) (ih ht.2)

theorem rising_filter {m : SMap α} (p : Nat × α → Bool) (h : m.rising = true) : rising (List.filter p m) = true := by
  cases m with
  | nil => rfl
  | cons e m =>
    by_cases he : p e = true
    · rw [List.filter_cons_of_pos he]; exact risingFrom_filter p h
    · rw [List.filter_cons_of_neg he]; exact rising_of_risingFrom (risingFrom_filter p h)

theorem risingFrom_map {β : Type} {lo : Nat} {m : SMap α} (f : Nat × α → Nat × β) (hf : ∀ e, (f e).1 = e.1) (h : risingFrom lo m = true) :
    risingFrom lo (List.map f m) = true := by
  induction m generalizing lo with
  | nil => rfl
  | cons e m ih =>
    have ht := risingFrom_tail (k := e.1) (v := e.2) h
    have e1 : List.map f (e :: m) = ((f e).1, (f e).2) :: List.map f m := rfl
    rw [e1, hf e]
    simp [risingFrom, ht.1, ih ht.2]

theorem rising_map {β : Type} {m : SMap α} (f : Nat × α → Nat × β) (hf : ∀ e, (f e).1 = e.1) (h : m.rising = true) :
    rising (List.map f m) = true := by
  cases m with
  | nil => rfl
  | cons e m =>
    have e1 : List.map f (e :: m) = ((f e).1, (f e).2) :: List.map f m := rfl
    rw [e1, hf e]
    exact risingFrom_map f hf h

theorem rising_mapVal {m : SMap α} (f : Nat → α → α) (h : m.rising = true) : (m.mapVal f).rising = true := rising_map _ (fun _ => rfl) h

theorem find_mapVal (m : SMap α) (f : Nat → α → α) (a : Nat) : (m.mapVal f).find a = (m.find a).map (f a) := by
  induction m with
  | nil => rfl
  | cons e m ih =>
    obtain ⟨k, v⟩ := e
    show SMap.find ((k, f k v) :: SMap.mapVal f m) a = _
    simp only [find]
    split
    · next h => subst h; rfl
    · exact ih

theorem mem_insert {m : SMap α} {a : Nat} {x : α} {e : Nat × α} (h : e ∈ m.insert a x) : e = (a, x) ∨ e ∈ m := by
  induction m with
  | nil => simpa [insert] using h
  | cons y m ih =>
    obtain ⟨k, v⟩ := y
    unfold insert at h
    split at h
    · simpa using h
    · split at h
      · rcases List.mem_cons.1 h with h | h
        · exact Or.inl h
        · exact Or.inr (List.mem_cons_of_mem _ h)
      · rcases List.mem_cons.1 h with h | h
        · exact Or.inr (by simp [h])
        · rcases ih h with h | h
          · exact Or.inl h
          · exact Or.inr (List.mem_cons_of_mem _ h)

theorem mem_of_mem_erase {m : SMap α} {a : Nat} {e : Nat × α} (h : e ∈ m.erase a) : e ∈ m := by
  induction m with
  | nil => simp [erase] at h
  | cons y m ih =>
    obtain ⟨k, v⟩ := y
    unfold erase at h
    split at h
    · exact h
    · split at h
      · exact List.mem_cons_of_mem _ h
      · rcases List.mem_cons.1 h with h | h
        · simp [h]
        · exact List.mem_cons_of_mem _ (ih h)

/-! ### Values -/

variable [DecidableEq α]

theorem canon_iff (d : α) (m : SMap α) : canon d m = true ↔ m.rising = true ∧ ∀ e ∈ m, e.2 ≠ d := by
  simp [canon]

theorem canon_rising {d : α} {m : SMap α} (h : canon d m = true) : m.rising = true := ((canon_iff d m).1 h).1

@[simp] theorem canon_nil (d : α) : canon d ([] : SMap α) = true := rfl

theorem get_set_self {d : α} {m : SMap α} (h : m.rising = true) (a : Nat) (x : α) : SMap.get d (SMap.set d m a x) a = x := by
  unfold SMap.get SMap.set
  split
  · next hx => simp [find_erase_self h, hx]
  · simp [find_insert_self]

theorem get_set_of_ne {d : α} {m : SMap α} (h : m.rising = true) {a b : Nat} (x : α) (hb : b ≠ a) :
    SMap.get d (SMap.set d m a x) b = SMap.get d m b := by
  unfold SMap.get SMap.set
  split
  · rw [find_erase_of_ne h hb]
  · rw [find_insert_of_ne m x hb]

theorem get_set {d : α} {m : SMap α} (h : m.rising = true) (a b : Nat) (x : α) :
    SMap.get d (SMap.set d m a x) b = if b = a then x else SMap.get d m b := by
  by_cases hb : b = a
  · subst hb; simp [get_set_self h]
  · simp [hb, get_set_of_ne h x hb]

theorem rising_set {d : α} {m : SMap α} (a : Nat) (x : α) (h : m.rising = true) : (SMap.set d m a x).rising = true := by
  unfold SMap.set
  split
  · exact rising_erase a h
  · exact rising_insert a x h

theorem canon_set {d : α} {m : SMap α} (a : Nat) (x : α) (h : canon d m = true) : canon d (SMap.set d m a x) = true := by
  rw [canon_iff] at h ⊢
  refine ⟨rising_set a x h.1, fun e he => ?_⟩
  unfold SMap.set at he
  split at he
  · exact h.2 e (mem_of_mem_erase he)
  · next hx =>
    rcases mem_insert he with rfl | he
    · exact hx
    · exact h.2 e he

theorem canon_erase {d : α} {m : SMap α} (a : Nat) (h : canon d m = true) : canon d (m.erase a) = true := by
  rw [canon_iff] at h ⊢
  exact ⟨rising_erase a h.1, fun e he => h.2 e (mem_of_mem_erase he)⟩

theorem canon_filter {d : α} {m : SMap α} (p : Nat × α → Bool) (h : canon d m = true) : canon d (List.filter p m) = true := by
  rw [canon_iff] at h ⊢
  exact ⟨rising_filter p h.1, fun e he => h.2 e (List.mem_filter.1 he).1⟩

theorem canon_remap {d : α} {m : SMap α} (f : Nat → α → α) (h : m.rising = true) : canon d (SMap.remap d f m) = true := by
  rw [canon_iff]
  refine ⟨rising_filter _ (rising_mapVal f h), fun e he => ?_⟩
  simpa using (List.mem_filter.1 he).2

theorem canon_foldl_set {β : Type} {d : α} (key : β → Nat) (val : β → α) (xs : List β) {m : SMap α} (h : canon d m = true) :
    canon d (xs.foldl (fun m e => SMap.set d m (key e) (val e)) m) = true := by
  induction xs generalizing m with
  | nil => exact h
  | cons x xs ih => exact ih (canon_set _ _ h)

/-- A key that no pair of a list of writes names reads as before. -/
theorem get_foldl_set_of_not_mem {d : α} (xs : List (Nat × α)) {m : SMap α} (h : m.rising = true) {a : Nat}
    (ha : ∀ e ∈ xs, e.1 ≠ a) : SMap.get d (xs.foldl (fun m e => SMap.set d m e.1 e.2) m) a = SMap.get d m a := by
  induction xs generalizing m with
  | nil => rfl
  | cons x xs ih =>
    rw [List.foldl_cons, ih (rising_set _ _ h) (fun e he => ha e (List.mem_cons_of_mem _ he))]
    exact get_set_of_ne h _ (fun hx => ha x (List.mem_cons_self ..) hx.symm)

end SMap

end Sys2Proof.Machine
end

