-- ==== Sys2Proof/Laws/State.lean ====
section
/-! SUPPORT. What each shared update of the state leaves as it is: one lemma per field per update. -/

namespace Sys2Proof.Machine

/-! ### latch -/

@[simp] theorem State.latch_time (s : State) (b : Nat) (d : Due) : (s.latch b d).time = s.time := rfl
@[simp] theorem State.latch_regs (s : State) (b : Nat) (d : Due) : (s.latch b d).regs = s.regs := rfl
@[simp] theorem State.latch_live (s : State) (b : Nat) (d : Due) : (s.latch b d).live = s.live := rfl
@[simp] theorem State.latch_acts (s : State) (b : Nat) (d : Due) : (s.latch b d).acts = s.acts := rfl
@[simp] theorem State.latch_seg (s : State) (b : Nat) (d : Due) : (s.latch b d).seg = s.seg := rfl
@[simp] theorem State.latch_scd (s : State) (b : Nat) (d : Due) : (s.latch b d).scd = s.scd := rfl
@[simp] theorem State.latch_mem (s : State) (b : Nat) (d : Due) : (s.latch b d).mem = s.mem := rfl
@[simp] theorem State.latch_lane (s : State) (b : Nat) (d : Due) : (s.latch b d).lane = s.lane := rfl
@[simp] theorem State.latch_coh (s : State) (b : Nat) (d : Due) : (s.latch b d).coh = s.coh := rfl
@[simp] theorem State.latch_rcx (s : State) (b : Nat) (d : Due) : (s.latch b d).rcx = s.rcx := rfl
@[simp] theorem State.latch_eng (s : State) (b : Nat) (d : Due) : (s.latch b d).eng = s.eng := rfl
@[simp] theorem State.latch_tier (s : State) (b : Nat) (d : Due) : (s.latch b d).tier = s.tier := rfl
@[simp] theorem State.latch_net (s : State) (b : Nat) (d : Due) : (s.latch b d).net = s.net := rfl
@[simp] theorem State.latch_lanes (s : State) (b : Nat) (d : Due) : (s.latch b d).lanes = s.lanes := rfl
@[simp] theorem State.latch_sec (s : State) (b : Nat) (d : Due) : (s.latch b d).sec = s.sec := rfl
@[simp] theorem State.latch_fab (s : State) (b : Nat) (d : Due) : (s.latch b d).fab = s.fab := rfl
@[simp] theorem State.latch_fw (s : State) (b : Nat) (d : Due) : (s.latch b d).fw = s.fw := rfl
@[simp] theorem State.latch_pwr (s : State) (b : Nat) (d : Due) : (s.latch b d).pwr = s.pwr := rfl
@[simp] theorem State.latch_timed (s : State) (b : Nat) (d : Due) : (s.latch b d).timed = s.timed := rfl
@[simp] theorem State.latch_free (s : State) (b : Nat) (d : Due) : (s.latch b d).free = s.free := rfl
@[simp] theorem State.latch_pending (s : State) (b : Nat) (d : Due) : (s.latch b d).pending = s.pending := rfl

/-! ### latchNext -/

@[simp] theorem State.latchNext_time (s : State) (d : Due) : (s.latchNext d).time = s.time := rfl
@[simp] theorem State.latchNext_regs (s : State) (d : Due) : (s.latchNext d).regs = s.regs := rfl
@[simp] theorem State.latchNext_live (s : State) (d : Due) : (s.latchNext d).live = s.live := rfl
@[simp] theorem State.latchNext_acts (s : State) (d : Due) : (s.latchNext d).acts = s.acts := rfl
@[simp] theorem State.latchNext_seg (s : State) (d : Due) : (s.latchNext d).seg = s.seg := rfl
@[simp] theorem State.latchNext_scd (s : State) (d : Due) : (s.latchNext d).scd = s.scd := rfl
@[simp] theorem State.latchNext_mem (s : State) (d : Due) : (s.latchNext d).mem = s.mem := rfl
@[simp] theorem State.latchNext_lane (s : State) (d : Due) : (s.latchNext d).lane = s.lane := rfl
@[simp] theorem State.latchNext_coh (s : State) (d : Due) : (s.latchNext d).coh = s.coh := rfl
@[simp] theorem State.latchNext_rcx (s : State) (d : Due) : (s.latchNext d).rcx = s.rcx := rfl
@[simp] theorem State.latchNext_eng (s : State) (d : Due) : (s.latchNext d).eng = s.eng := rfl
@[simp] theorem State.latchNext_tier (s : State) (d : Due) : (s.latchNext d).tier = s.tier := rfl
@[simp] theorem State.latchNext_net (s : State) (d : Due) : (s.latchNext d).net = s.net := rfl
@[simp] theorem State.latchNext_lanes (s : State) (d : Due) : (s.latchNext d).lanes = s.lanes := rfl
@[simp] theorem State.latchNext_sec (s : State) (d : Due) : (s.latchNext d).sec = s.sec := rfl
@[simp] theorem State.latchNext_fab (s : State) (d : Due) : (s.latchNext d).fab = s.fab := rfl
@[simp] theorem State.latchNext_fw (s : State) (d : Due) : (s.latchNext d).fw = s.fw := rfl
@[simp] theorem State.latchNext_pwr (s : State) (d : Due) : (s.latchNext d).pwr = s.pwr := rfl
@[simp] theorem State.latchNext_timed (s : State) (d : Due) : (s.latchNext d).timed = s.timed := rfl
@[simp] theorem State.latchNext_free (s : State) (d : Due) : (s.latchNext d).free = s.free := rfl
@[simp] theorem State.latchNext_pending (s : State) (d : Due) : (s.latchNext d).pending = s.pending := rfl

/-! ### after -/

@[simp] theorem State.after_time (s : State) (t : Nat) (x : Timed) : (s.after t x).time = s.time := rfl
@[simp] theorem State.after_regs (s : State) (t : Nat) (x : Timed) : (s.after t x).regs = s.regs := rfl
@[simp] theorem State.after_live (s : State) (t : Nat) (x : Timed) : (s.after t x).live = s.live := rfl
@[simp] theorem State.after_acts (s : State) (t : Nat) (x : Timed) : (s.after t x).acts = s.acts := rfl
@[simp] theorem State.after_seg (s : State) (t : Nat) (x : Timed) : (s.after t x).seg = s.seg := rfl
@[simp] theorem State.after_scd (s : State) (t : Nat) (x : Timed) : (s.after t x).scd = s.scd := rfl
@[simp] theorem State.after_mem (s : State) (t : Nat) (x : Timed) : (s.after t x).mem = s.mem := rfl
@[simp] theorem State.after_lane (s : State) (t : Nat) (x : Timed) : (s.after t x).lane = s.lane := rfl
@[simp] theorem State.after_coh (s : State) (t : Nat) (x : Timed) : (s.after t x).coh = s.coh := rfl
@[simp] theorem State.after_rcx (s : State) (t : Nat) (x : Timed) : (s.after t x).rcx = s.rcx := rfl
@[simp] theorem State.after_eng (s : State) (t : Nat) (x : Timed) : (s.after t x).eng = s.eng := rfl
@[simp] theorem State.after_tier (s : State) (t : Nat) (x : Timed) : (s.after t x).tier = s.tier := rfl
@[simp] theorem State.after_net (s : State) (t : Nat) (x : Timed) : (s.after t x).net = s.net := rfl
@[simp] theorem State.after_lanes (s : State) (t : Nat) (x : Timed) : (s.after t x).lanes = s.lanes := rfl
@[simp] theorem State.after_sec (s : State) (t : Nat) (x : Timed) : (s.after t x).sec = s.sec := rfl
@[simp] theorem State.after_fab (s : State) (t : Nat) (x : Timed) : (s.after t x).fab = s.fab := rfl
@[simp] theorem State.after_fw (s : State) (t : Nat) (x : Timed) : (s.after t x).fw = s.fw := rfl
@[simp] theorem State.after_pwr (s : State) (t : Nat) (x : Timed) : (s.after t x).pwr = s.pwr := rfl
@[simp] theorem State.after_due (s : State) (t : Nat) (x : Timed) : (s.after t x).due = s.due := rfl
@[simp] theorem State.after_free (s : State) (t : Nat) (x : Timed) : (s.after t x).free = s.free := rfl
@[simp] theorem State.after_pending (s : State) (t : Nat) (x : Timed) : (s.after t x).pending = s.pending := rfl

/-! ### land -/

@[simp] theorem State.land_time (s : State) (lat : Nat) (x : Landing) : (s.land lat x).time = s.time := rfl
@[simp] theorem State.land_regs (s : State) (lat : Nat) (x : Landing) : (s.land lat x).regs = s.regs := rfl
@[simp] theorem State.land_live (s : State) (lat : Nat) (x : Landing) : (s.land lat x).live = s.live := rfl
@[simp] theorem State.land_acts (s : State) (lat : Nat) (x : Landing) : (s.land lat x).acts = s.acts := rfl
@[simp] theorem State.land_seg (s : State) (lat : Nat) (x : Landing) : (s.land lat x).seg = s.seg := rfl
@[simp] theorem State.land_scd (s : State) (lat : Nat) (x : Landing) : (s.land lat x).scd = s.scd := rfl
@[simp] theorem State.land_mem (s : State) (lat : Nat) (x : Landing) : (s.land lat x).mem = s.mem := rfl
@[simp] theorem State.land_lane (s : State) (lat : Nat) (x : Landing) : (s.land lat x).lane = s.lane := rfl
@[simp] theorem State.land_coh (s : State) (lat : Nat) (x : Landing) : (s.land lat x).coh = s.coh := rfl
@[simp] theorem State.land_rcx (s : State) (lat : Nat) (x : Landing) : (s.land lat x).rcx = s.rcx := rfl
@[simp] theorem State.land_eng (s : State) (lat : Nat) (x : Landing) : (s.land lat x).eng = s.eng := rfl
@[simp] theorem State.land_tier (s : State) (lat : Nat) (x : Landing) : (s.land lat x).tier = s.tier := rfl
@[simp] theorem State.land_net (s : State) (lat : Nat) (x : Landing) : (s.land lat x).net = s.net := rfl
@[simp] theorem State.land_lanes (s : State) (lat : Nat) (x : Landing) : (s.land lat x).lanes = s.lanes := rfl
@[simp] theorem State.land_sec (s : State) (lat : Nat) (x : Landing) : (s.land lat x).sec = s.sec := rfl
@[simp] theorem State.land_fab (s : State) (lat : Nat) (x : Landing) : (s.land lat x).fab = s.fab := rfl
@[simp] theorem State.land_fw (s : State) (lat : Nat) (x : Landing) : (s.land lat x).fw = s.fw := rfl
@[simp] theorem State.land_pwr (s : State) (lat : Nat) (x : Landing) : (s.land lat x).pwr = s.pwr := rfl
@[simp] theorem State.land_due (s : State) (lat : Nat) (x : Landing) : (s.land lat x).due = s.due := rfl
@[simp] theorem State.land_free (s : State) (lat : Nat) (x : Landing) : (s.land lat x).free = s.free := rfl
@[simp] theorem State.land_pending (s : State) (lat : Nat) (x : Landing) : (s.land lat x).pending = s.pending := rfl

/-! ### cancel -/

@[simp] theorem State.cancel_time (s : State) (p : Timed → Bool) : (s.cancel p).time = s.time := rfl
@[simp] theorem State.cancel_regs (s : State) (p : Timed → Bool) : (s.cancel p).regs = s.regs := rfl
@[simp] theorem State.cancel_live (s : State) (p : Timed → Bool) : (s.cancel p).live = s.live := rfl
@[simp] theorem State.cancel_acts (s : State) (p : Timed → Bool) : (s.cancel p).acts = s.acts := rfl
@[simp] theorem State.cancel_seg (s : State) (p : Timed → Bool) : (s.cancel p).seg = s.seg := rfl
@[simp] theorem State.cancel_scd (s : State) (p : Timed → Bool) : (s.cancel p).scd = s.scd := rfl
@[simp] theorem State.cancel_mem (s : State) (p : Timed → Bool) : (s.cancel p).mem = s.mem := rfl
@[simp] theorem State.cancel_lane (s : State) (p : Timed → Bool) : (s.cancel p).lane = s.lane := rfl
@[simp] theorem State.cancel_coh (s : State) (p : Timed → Bool) : (s.cancel p).coh = s.coh := rfl
@[simp] theorem State.cancel_rcx (s : State) (p : Timed → Bool) : (s.cancel p).rcx = s.rcx := rfl
@[simp] theorem State.cancel_eng (s : State) (p : Timed → Bool) : (s.cancel p).eng = s.eng := rfl
@[simp] theorem State.cancel_tier (s : State) (p : Timed → Bool) : (s.cancel p).tier = s.tier := rfl
@[simp] theorem State.cancel_net (s : State) (p : Timed → Bool) : (s.cancel p).net = s.net := rfl
@[simp] theorem State.cancel_lanes (s : State) (p : Timed → Bool) : (s.cancel p).lanes = s.lanes := rfl
@[simp] theorem State.cancel_sec (s : State) (p : Timed → Bool) : (s.cancel p).sec = s.sec := rfl
@[simp] theorem State.cancel_fab (s : State) (p : Timed → Bool) : (s.cancel p).fab = s.fab := rfl
@[simp] theorem State.cancel_fw (s : State) (p : Timed → Bool) : (s.cancel p).fw = s.fw := rfl
@[simp] theorem State.cancel_pwr (s : State) (p : Timed → Bool) : (s.cancel p).pwr = s.pwr := rfl
@[simp] theorem State.cancel_due (s : State) (p : Timed → Bool) : (s.cancel p).due = s.due := rfl
@[simp] theorem State.cancel_free (s : State) (p : Timed → Bool) : (s.cancel p).free = s.free := rfl
@[simp] theorem State.cancel_pending (s : State) (p : Timed → Bool) : (s.cancel p).pending = s.pending := rfl

/-! ### wv -/

@[simp] theorem State.wv_time (s : State) (r : Reg) (v u i j : Nat) : (s.wv r v u i j).time = s.time := rfl
@[simp] theorem State.wv_live (s : State) (r : Reg) (v u i j : Nat) : (s.wv r v u i j).live = s.live := rfl
@[simp] theorem State.wv_acts (s : State) (r : Reg) (v u i j : Nat) : (s.wv r v u i j).acts = s.acts := rfl
@[simp] theorem State.wv_seg (s : State) (r : Reg) (v u i j : Nat) : (s.wv r v u i j).seg = s.seg := rfl
@[simp] theorem State.wv_scd (s : State) (r : Reg) (v u i j : Nat) : (s.wv r v u i j).scd = s.scd := rfl
@[simp] theorem State.wv_mem (s : State) (r : Reg) (v u i j : Nat) : (s.wv r v u i j).mem = s.mem := rfl
@[simp] theorem State.wv_lane (s : State) (r : Reg) (v u i j : Nat) : (s.wv r v u i j).lane = s.lane := rfl
@[simp] theorem State.wv_coh (s : State) (r : Reg) (v u i j : Nat) : (s.wv r v u i j).coh = s.coh := rfl
@[simp] theorem State.wv_rcx (s : State) (r : Reg) (v u i j : Nat) : (s.wv r v u i j).rcx = s.rcx := rfl
@[simp] theorem State.wv_eng (s : State) (r : Reg) (v u i j : Nat) : (s.wv r v u i j).eng = s.eng := rfl
@[simp] theorem State.wv_tier (s : State) (r : Reg) (v u i j : Nat) : (s.wv r v u i j).tier = s.tier := rfl
@[simp] theorem State.wv_net (s : State) (r : Reg) (v u i j : Nat) : (s.wv r v u i j).net = s.net := rfl
@[simp] theorem State.wv_lanes (s : State) (r : Reg) (v u i j : Nat) : (s.wv r v u i j).lanes = s.lanes := rfl
@[simp] theorem State.wv_sec (s : State) (r : Reg) (v u i j : Nat) : (s.wv r v u i j).sec = s.sec := rfl
@[simp] theorem State.wv_fab (s : State) (r : Reg) (v u i j : Nat) : (s.wv r v u i j).fab = s.fab := rfl
@[simp] theorem State.wv_fw (s : State) (r : Reg) (v u i j : Nat) : (s.wv r v u i j).fw = s.fw := rfl
@[simp] theorem State.wv_pwr (s : State) (r : Reg) (v u i j : Nat) : (s.wv r v u i j).pwr = s.pwr := rfl
@[simp] theorem State.wv_due (s : State) (r : Reg) (v u i j : Nat) : (s.wv r v u i j).due = s.due := rfl
@[simp] theorem State.wv_timed (s : State) (r : Reg) (v u i j : Nat) : (s.wv r v u i j).timed = s.timed := rfl
@[simp] theorem State.wv_free (s : State) (r : Reg) (v u i j : Nat) : (s.wv r v u i j).free = s.free := rfl
@[simp] theorem State.wv_pending (s : State) (r : Reg) (v u i j : Nat) : (s.wv r v u i j).pending = s.pending := rfl

/-! ### wf -/

@[simp] theorem State.wf_time (s : State) (r : Reg) (hi lo v u i j : Nat) : (s.wf r hi lo v u i j).time = s.time := rfl
@[simp] theorem State.wf_live (s : State) (r : Reg) (hi lo v u i j : Nat) : (s.wf r hi lo v u i j).live = s.live := rfl
@[simp] theorem State.wf_acts (s : State) (r : Reg) (hi lo v u i j : Nat) : (s.wf r hi lo v u i j).acts = s.acts := rfl
@[simp] theorem State.wf_seg (s : State) (r : Reg) (hi lo v u i j : Nat) : (s.wf r hi lo v u i j).seg = s.seg := rfl
@[simp] theorem State.wf_scd (s : State) (r : Reg) (hi lo v u i j : Nat) : (s.wf r hi lo v u i j).scd = s.scd := rfl
@[simp] theorem State.wf_mem (s : State) (r : Reg) (hi lo v u i j : Nat) : (s.wf r hi lo v u i j).mem = s.mem := rfl
@[simp] theorem State.wf_lane (s : State) (r : Reg) (hi lo v u i j : Nat) : (s.wf r hi lo v u i j).lane = s.lane := rfl
@[simp] theorem State.wf_coh (s : State) (r : Reg) (hi lo v u i j : Nat) : (s.wf r hi lo v u i j).coh = s.coh := rfl
@[simp] theorem State.wf_rcx (s : State) (r : Reg) (hi lo v u i j : Nat) : (s.wf r hi lo v u i j).rcx = s.rcx := rfl
@[simp] theorem State.wf_eng (s : State) (r : Reg) (hi lo v u i j : Nat) : (s.wf r hi lo v u i j).eng = s.eng := rfl
@[simp] theorem State.wf_tier (s : State) (r : Reg) (hi lo v u i j : Nat) : (s.wf r hi lo v u i j).tier = s.tier := rfl
@[simp] theorem State.wf_net (s : State) (r : Reg) (hi lo v u i j : Nat) : (s.wf r hi lo v u i j).net = s.net := rfl
@[simp] theorem State.wf_lanes (s : State) (r : Reg) (hi lo v u i j : Nat) : (s.wf r hi lo v u i j).lanes = s.lanes := rfl
@[simp] theorem State.wf_sec (s : State) (r : Reg) (hi lo v u i j : Nat) : (s.wf r hi lo v u i j).sec = s.sec := rfl
@[simp] theorem State.wf_fab (s : State) (r : Reg) (hi lo v u i j : Nat) : (s.wf r hi lo v u i j).fab = s.fab := rfl
@[simp] theorem State.wf_fw (s : State) (r : Reg) (hi lo v u i j : Nat) : (s.wf r hi lo v u i j).fw = s.fw := rfl
@[simp] theorem State.wf_pwr (s : State) (r : Reg) (hi lo v u i j : Nat) : (s.wf r hi lo v u i j).pwr = s.pwr := rfl
@[simp] theorem State.wf_due (s : State) (r : Reg) (hi lo v u i j : Nat) : (s.wf r hi lo v u i j).due = s.due := rfl
@[simp] theorem State.wf_timed (s : State) (r : Reg) (hi lo v u i j : Nat) : (s.wf r hi lo v u i j).timed = s.timed := rfl
@[simp] theorem State.wf_free (s : State) (r : Reg) (hi lo v u i j : Nat) : (s.wf r hi lo v u i j).free = s.free := rfl
@[simp] theorem State.wf_pending (s : State) (r : Reg) (hi lo v u i j : Nat) : (s.wf r hi lo v u i j).pending = s.pending := rfl

/-! ### put -/

@[simp] theorem State.put_time (s : State) (x : RegRef) (v : Nat) : (s.put x v).time = s.time := rfl
@[simp] theorem State.put_live (s : State) (x : RegRef) (v : Nat) : (s.put x v).live = s.live := rfl
@[simp] theorem State.put_acts (s : State) (x : RegRef) (v : Nat) : (s.put x v).acts = s.acts := rfl
@[simp] theorem State.put_seg (s : State) (x : RegRef) (v : Nat) : (s.put x v).seg = s.seg := rfl
@[simp] theorem State.put_scd (s : State) (x : RegRef) (v : Nat) : (s.put x v).scd = s.scd := rfl
@[simp] theorem State.put_mem (s : State) (x : RegRef) (v : Nat) : (s.put x v).mem = s.mem := rfl
@[simp] theorem State.put_lane (s : State) (x : RegRef) (v : Nat) : (s.put x v).lane = s.lane := rfl
@[simp] theorem State.put_coh (s : State) (x : RegRef) (v : Nat) : (s.put x v).coh = s.coh := rfl
@[simp] theorem State.put_rcx (s : State) (x : RegRef) (v : Nat) : (s.put x v).rcx = s.rcx := rfl
@[simp] theorem State.put_eng (s : State) (x : RegRef) (v : Nat) : (s.put x v).eng = s.eng := rfl
@[simp] theorem State.put_tier (s : State) (x : RegRef) (v : Nat) : (s.put x v).tier = s.tier := rfl
@[simp] theorem State.put_net (s : State) (x : RegRef) (v : Nat) : (s.put x v).net = s.net := rfl
@[simp] theorem State.put_lanes (s : State) (x : RegRef) (v : Nat) : (s.put x v).lanes = s.lanes := rfl
@[simp] theorem State.put_sec (s : State) (x : RegRef) (v : Nat) : (s.put x v).sec = s.sec := rfl
@[simp] theorem State.put_fab (s : State) (x : RegRef) (v : Nat) : (s.put x v).fab = s.fab := rfl
@[simp] theorem State.put_fw (s : State) (x : RegRef) (v : Nat) : (s.put x v).fw = s.fw := rfl
@[simp] theorem State.put_pwr (s : State) (x : RegRef) (v : Nat) : (s.put x v).pwr = s.pwr := rfl
@[simp] theorem State.put_due (s : State) (x : RegRef) (v : Nat) : (s.put x v).due = s.due := rfl
@[simp] theorem State.put_timed (s : State) (x : RegRef) (v : Nat) : (s.put x v).timed = s.timed := rfl
@[simp] theorem State.put_free (s : State) (x : RegRef) (v : Nat) : (s.put x v).free = s.free := rfl
@[simp] theorem State.put_pending (s : State) (x : RegRef) (v : Nat) : (s.put x v).pending = s.pending := rfl

/-! ### bump -/

@[simp] theorem State.bump_time (s : State) (r : Reg) (n u i : Nat) : (s.bump r n u i).time = s.time := rfl
@[simp] theorem State.bump_live (s : State) (r : Reg) (n u i : Nat) : (s.bump r n u i).live = s.live := rfl
@[simp] theorem State.bump_acts (s : State) (r : Reg) (n u i : Nat) : (s.bump r n u i).acts = s.acts := rfl
@[simp] theorem State.bump_seg (s : State) (r : Reg) (n u i : Nat) : (s.bump r n u i).seg = s.seg := rfl
@[simp] theorem State.bump_scd (s : State) (r : Reg) (n u i : Nat) : (s.bump r n u i).scd = s.scd := rfl
@[simp] theorem State.bump_mem (s : State) (r : Reg) (n u i : Nat) : (s.bump r n u i).mem = s.mem := rfl
@[simp] theorem State.bump_lane (s : State) (r : Reg) (n u i : Nat) : (s.bump r n u i).lane = s.lane := rfl
@[simp] theorem State.bump_coh (s : State) (r : Reg) (n u i : Nat) : (s.bump r n u i).coh = s.coh := rfl
@[simp] theorem State.bump_rcx (s : State) (r : Reg) (n u i : Nat) : (s.bump r n u i).rcx = s.rcx := rfl
@[simp] theorem State.bump_eng (s : State) (r : Reg) (n u i : Nat) : (s.bump r n u i).eng = s.eng := rfl
@[simp] theorem State.bump_tier (s : State) (r : Reg) (n u i : Nat) : (s.bump r n u i).tier = s.tier := rfl
@[simp] theorem State.bump_net (s : State) (r : Reg) (n u i : Nat) : (s.bump r n u i).net = s.net := rfl
@[simp] theorem State.bump_lanes (s : State) (r : Reg) (n u i : Nat) : (s.bump r n u i).lanes = s.lanes := rfl
@[simp] theorem State.bump_sec (s : State) (r : Reg) (n u i : Nat) : (s.bump r n u i).sec = s.sec := rfl
@[simp] theorem State.bump_fab (s : State) (r : Reg) (n u i : Nat) : (s.bump r n u i).fab = s.fab := rfl
@[simp] theorem State.bump_fw (s : State) (r : Reg) (n u i : Nat) : (s.bump r n u i).fw = s.fw := rfl
@[simp] theorem State.bump_pwr (s : State) (r : Reg) (n u i : Nat) : (s.bump r n u i).pwr = s.pwr := rfl
@[simp] theorem State.bump_due (s : State) (r : Reg) (n u i : Nat) : (s.bump r n u i).due = s.due := rfl
@[simp] theorem State.bump_timed (s : State) (r : Reg) (n u i : Nat) : (s.bump r n u i).timed = s.timed := rfl
@[simp] theorem State.bump_free (s : State) (r : Reg) (n u i : Nat) : (s.bump r n u i).free = s.free := rfl
@[simp] theorem State.bump_pending (s : State) (r : Reg) (n u i : Nat) : (s.bump r n u i).pending = s.pending := rfl

/-! ### alert -/

@[simp] theorem State.alert_time (s : State) (bit : Nat) : (s.alert bit).time = s.time := rfl
@[simp] theorem State.alert_live (s : State) (bit : Nat) : (s.alert bit).live = s.live := rfl
@[simp] theorem State.alert_acts (s : State) (bit : Nat) : (s.alert bit).acts = s.acts := rfl
@[simp] theorem State.alert_seg (s : State) (bit : Nat) : (s.alert bit).seg = s.seg := rfl
@[simp] theorem State.alert_scd (s : State) (bit : Nat) : (s.alert bit).scd = s.scd := rfl
@[simp] theorem State.alert_mem (s : State) (bit : Nat) : (s.alert bit).mem = s.mem := rfl
@[simp] theorem State.alert_lane (s : State) (bit : Nat) : (s.alert bit).lane = s.lane := rfl
@[simp] theorem State.alert_coh (s : State) (bit : Nat) : (s.alert bit).coh = s.coh := rfl
@[simp] theorem State.alert_rcx (s : State) (bit : Nat) : (s.alert bit).rcx = s.rcx := rfl
@[simp] theorem State.alert_eng (s : State) (bit : Nat) : (s.alert bit).eng = s.eng := rfl
@[simp] theorem State.alert_tier (s : State) (bit : Nat) : (s.alert bit).tier = s.tier := rfl
@[simp] theorem State.alert_net (s : State) (bit : Nat) : (s.alert bit).net = s.net := rfl
@[simp] theorem State.alert_lanes (s : State) (bit : Nat) : (s.alert bit).lanes = s.lanes := rfl
@[simp] theorem State.alert_sec (s : State) (bit : Nat) : (s.alert bit).sec = s.sec := rfl
@[simp] theorem State.alert_fab (s : State) (bit : Nat) : (s.alert bit).fab = s.fab := rfl
@[simp] theorem State.alert_fw (s : State) (bit : Nat) : (s.alert bit).fw = s.fw := rfl
@[simp] theorem State.alert_pwr (s : State) (bit : Nat) : (s.alert bit).pwr = s.pwr := rfl
@[simp] theorem State.alert_due (s : State) (bit : Nat) : (s.alert bit).due = s.due := rfl
@[simp] theorem State.alert_timed (s : State) (bit : Nat) : (s.alert bit).timed = s.timed := rfl
@[simp] theorem State.alert_free (s : State) (bit : Nat) : (s.alert bit).free = s.free := rfl
@[simp] theorem State.alert_pending (s : State) (bit : Nat) : (s.alert bit).pending = s.pending := rfl

/-! ### setPhase -/

@[simp] theorem State.setPhase_time (s : State) (v : Nat) : (s.setPhase v).time = s.time := rfl
@[simp] theorem State.setPhase_live (s : State) (v : Nat) : (s.setPhase v).live = s.live := rfl
@[simp] theorem State.setPhase_acts (s : State) (v : Nat) : (s.setPhase v).acts = s.acts := rfl
@[simp] theorem State.setPhase_seg (s : State) (v : Nat) : (s.setPhase v).seg = s.seg := rfl
@[simp] theorem State.setPhase_scd (s : State) (v : Nat) : (s.setPhase v).scd = s.scd := rfl
@[simp] theorem State.setPhase_mem (s : State) (v : Nat) : (s.setPhase v).mem = s.mem := rfl
@[simp] theorem State.setPhase_lane (s : State) (v : Nat) : (s.setPhase v).lane = s.lane := rfl
@[simp] theorem State.setPhase_coh (s : State) (v : Nat) : (s.setPhase v).coh = s.coh := rfl
@[simp] theorem State.setPhase_rcx (s : State) (v : Nat) : (s.setPhase v).rcx = s.rcx := rfl
@[simp] theorem State.setPhase_eng (s : State) (v : Nat) : (s.setPhase v).eng = s.eng := rfl
@[simp] theorem State.setPhase_tier (s : State) (v : Nat) : (s.setPhase v).tier = s.tier := rfl
@[simp] theorem State.setPhase_net (s : State) (v : Nat) : (s.setPhase v).net = s.net := rfl
@[simp] theorem State.setPhase_lanes (s : State) (v : Nat) : (s.setPhase v).lanes = s.lanes := rfl
@[simp] theorem State.setPhase_sec (s : State) (v : Nat) : (s.setPhase v).sec = s.sec := rfl
@[simp] theorem State.setPhase_fab (s : State) (v : Nat) : (s.setPhase v).fab = s.fab := rfl
@[simp] theorem State.setPhase_fw (s : State) (v : Nat) : (s.setPhase v).fw = s.fw := rfl
@[simp] theorem State.setPhase_pwr (s : State) (v : Nat) : (s.setPhase v).pwr = s.pwr := rfl
@[simp] theorem State.setPhase_due (s : State) (v : Nat) : (s.setPhase v).due = s.due := rfl
@[simp] theorem State.setPhase_timed (s : State) (v : Nat) : (s.setPhase v).timed = s.timed := rfl
@[simp] theorem State.setPhase_free (s : State) (v : Nat) : (s.setPhase v).free = s.free := rfl
@[simp] theorem State.setPhase_pending (s : State) (v : Nat) : (s.setPhase v).pending = s.pending := rfl

/-! ### bumpLive -/

@[simp] theorem State.bumpLive_time (s : State) (r : Reg) (n u : Nat) : (s.bumpLive r n u).time = s.time := rfl
@[simp] theorem State.bumpLive_regs (s : State) (r : Reg) (n u : Nat) : (s.bumpLive r n u).regs = s.regs := rfl
@[simp] theorem State.bumpLive_acts (s : State) (r : Reg) (n u : Nat) : (s.bumpLive r n u).acts = s.acts := rfl
@[simp] theorem State.bumpLive_seg (s : State) (r : Reg) (n u : Nat) : (s.bumpLive r n u).seg = s.seg := rfl
@[simp] theorem State.bumpLive_scd (s : State) (r : Reg) (n u : Nat) : (s.bumpLive r n u).scd = s.scd := rfl
@[simp] theorem State.bumpLive_mem (s : State) (r : Reg) (n u : Nat) : (s.bumpLive r n u).mem = s.mem := rfl
@[simp] theorem State.bumpLive_lane (s : State) (r : Reg) (n u : Nat) : (s.bumpLive r n u).lane = s.lane := rfl
@[simp] theorem State.bumpLive_coh (s : State) (r : Reg) (n u : Nat) : (s.bumpLive r n u).coh = s.coh := rfl
@[simp] theorem State.bumpLive_rcx (s : State) (r : Reg) (n u : Nat) : (s.bumpLive r n u).rcx = s.rcx := rfl
@[simp] theorem State.bumpLive_eng (s : State) (r : Reg) (n u : Nat) : (s.bumpLive r n u).eng = s.eng := rfl
@[simp] theorem State.bumpLive_tier (s : State) (r : Reg) (n u : Nat) : (s.bumpLive r n u).tier = s.tier := rfl
@[simp] theorem State.bumpLive_net (s : State) (r : Reg) (n u : Nat) : (s.bumpLive r n u).net = s.net := rfl
@[simp] theorem State.bumpLive_lanes (s : State) (r : Reg) (n u : Nat) : (s.bumpLive r n u).lanes = s.lanes := rfl
@[simp] theorem State.bumpLive_sec (s : State) (r : Reg) (n u : Nat) : (s.bumpLive r n u).sec = s.sec := rfl
@[simp] theorem State.bumpLive_fab (s : State) (r : Reg) (n u : Nat) : (s.bumpLive r n u).fab = s.fab := rfl
@[simp] theorem State.bumpLive_fw (s : State) (r : Reg) (n u : Nat) : (s.bumpLive r n u).fw = s.fw := rfl
@[simp] theorem State.bumpLive_pwr (s : State) (r : Reg) (n u : Nat) : (s.bumpLive r n u).pwr = s.pwr := rfl
@[simp] theorem State.bumpLive_due (s : State) (r : Reg) (n u : Nat) : (s.bumpLive r n u).due = s.due := rfl
@[simp] theorem State.bumpLive_timed (s : State) (r : Reg) (n u : Nat) : (s.bumpLive r n u).timed = s.timed := rfl
@[simp] theorem State.bumpLive_free (s : State) (r : Reg) (n u : Nat) : (s.bumpLive r n u).free = s.free := rfl
@[simp] theorem State.bumpLive_pending (s : State) (r : Reg) (n u : Nat) : (s.bumpLive r n u).pending = s.pending := rfl

/-! ### actOn -/

@[simp] theorem State.actOn_time (s : State) (a : Nat) (v : Word) : (s.actOn a v).time = s.time := rfl
@[simp] theorem State.actOn_regs (s : State) (a : Nat) (v : Word) : (s.actOn a v).regs = s.regs := rfl
@[simp] theorem State.actOn_live (s : State) (a : Nat) (v : Word) : (s.actOn a v).live = s.live := rfl
@[simp] theorem State.actOn_seg (s : State) (a : Nat) (v : Word) : (s.actOn a v).seg = s.seg := rfl
@[simp] theorem State.actOn_scd (s : State) (a : Nat) (v : Word) : (s.actOn a v).scd = s.scd := rfl
@[simp] theorem State.actOn_mem (s : State) (a : Nat) (v : Word) : (s.actOn a v).mem = s.mem := rfl
@[simp] theorem State.actOn_lane (s : State) (a : Nat) (v : Word) : (s.actOn a v).lane = s.lane := rfl
@[simp] theorem State.actOn_coh (s : State) (a : Nat) (v : Word) : (s.actOn a v).coh = s.coh := rfl
@[simp] theorem State.actOn_rcx (s : State) (a : Nat) (v : Word) : (s.actOn a v).rcx = s.rcx := rfl
@[simp] theorem State.actOn_eng (s : State) (a : Nat) (v : Word) : (s.actOn a v).eng = s.eng := rfl
@[simp] theorem State.actOn_tier (s : State) (a : Nat) (v : Word) : (s.actOn a v).tier = s.tier := rfl
@[simp] theorem State.actOn_net (s : State) (a : Nat) (v : Word) : (s.actOn a v).net = s.net := rfl
@[simp] theorem State.actOn_lanes (s : State) (a : Nat) (v : Word) : (s.actOn a v).lanes = s.lanes := rfl
@[simp] theorem State.actOn_sec (s : State) (a : Nat) (v : Word) : (s.actOn a v).sec = s.sec := rfl
@[simp] theorem State.actOn_fab (s : State) (a : Nat) (v : Word) : (s.actOn a v).fab = s.fab := rfl
@[simp] theorem State.actOn_fw (s : State) (a : Nat) (v : Word) : (s.actOn a v).fw = s.fw := rfl
@[simp] theorem State.actOn_pwr (s : State) (a : Nat) (v : Word) : (s.actOn a v).pwr = s.pwr := rfl
@[simp] theorem State.actOn_due (s : State) (a : Nat) (v : Word) : (s.actOn a v).due = s.due := rfl
@[simp] theorem State.actOn_timed (s : State) (a : Nat) (v : Word) : (s.actOn a v).timed = s.timed := rfl
@[simp] theorem State.actOn_free (s : State) (a : Nat) (v : Word) : (s.actOn a v).free = s.free := rfl
@[simp] theorem State.actOn_pending (s : State) (a : Nat) (v : Word) : (s.actOn a v).pending = s.pending := rfl

/-! ### putWaiting -/

@[simp] theorem State.putWaiting_time (s : State) (x : RegRef) (v : Nat) : (s.putWaiting x v).time = s.time := rfl
@[simp] theorem State.putWaiting_live (s : State) (x : RegRef) (v : Nat) : (s.putWaiting x v).live = s.live := rfl
@[simp] theorem State.putWaiting_seg (s : State) (x : RegRef) (v : Nat) : (s.putWaiting x v).seg = s.seg := rfl
@[simp] theorem State.putWaiting_scd (s : State) (x : RegRef) (v : Nat) : (s.putWaiting x v).scd = s.scd := rfl
@[simp] theorem State.putWaiting_mem (s : State) (x : RegRef) (v : Nat) : (s.putWaiting x v).mem = s.mem := rfl
@[simp] theorem State.putWaiting_lane (s : State) (x : RegRef) (v : Nat) : (s.putWaiting x v).lane = s.lane := rfl
@[simp] theorem State.putWaiting_coh (s : State) (x : RegRef) (v : Nat) : (s.putWaiting x v).coh = s.coh := rfl
@[simp] theorem State.putWaiting_rcx (s : State) (x : RegRef) (v : Nat) : (s.putWaiting x v).rcx = s.rcx := rfl
@[simp] theorem State.putWaiting_eng (s : State) (x : RegRef) (v : Nat) : (s.putWaiting x v).eng = s.eng := rfl
@[simp] theorem State.putWaiting_tier (s : State) (x : RegRef) (v : Nat) : (s.putWaiting x v).tier = s.tier := rfl
@[simp] theorem State.putWaiting_net (s : State) (x : RegRef) (v : Nat) : (s.putWaiting x v).net = s.net := rfl
@[simp] theorem State.putWaiting_lanes (s : State) (x : RegRef) (v : Nat) : (s.putWaiting x v).lanes = s.lanes := rfl
@[simp] theorem State.putWaiting_sec (s : State) (x : RegRef) (v : Nat) : (s.putWaiting x v).sec = s.sec := rfl
@[simp] theorem State.putWaiting_fab (s : State) (x : RegRef) (v : Nat) : (s.putWaiting x v).fab = s.fab := rfl
@[simp] theorem State.putWaiting_fw (s : State) (x : RegRef) (v : Nat) : (s.putWaiting x v).fw = s.fw := rfl
@[simp] theorem State.putWaiting_pwr (s : State) (x : RegRef) (v : Nat) : (s.putWaiting x v).pwr = s.pwr := rfl
@[simp] theorem State.putWaiting_due (s : State) (x : RegRef) (v : Nat) : (s.putWaiting x v).due = s.due := rfl
@[simp] theorem State.putWaiting_timed (s : State) (x : RegRef) (v : Nat) : (s.putWaiting x v).timed = s.timed := rfl
@[simp] theorem State.putWaiting_free (s : State) (x : RegRef) (v : Nat) : (s.putWaiting x v).free = s.free := rfl
@[simp] theorem State.putWaiting_pending (s : State) (x : RegRef) (v : Nat) : (s.putWaiting x v).pending = s.pending := rfl

/-! ### writeDeferred -/

@[simp] theorem State.writeDeferred_time (s : State) (x : RegRef) (v : Nat) : (s.writeDeferred x v).time = s.time := rfl
@[simp] theorem State.writeDeferred_live (s : State) (x : RegRef) (v : Nat) : (s.writeDeferred x v).live = s.live := rfl
@[simp] theorem State.writeDeferred_seg (s : State) (x : RegRef) (v : Nat) : (s.writeDeferred x v).seg = s.seg := rfl
@[simp] theorem State.writeDeferred_scd (s : State) (x : RegRef) (v : Nat) : (s.writeDeferred x v).scd = s.scd := rfl
@[simp] theorem State.writeDeferred_mem (s : State) (x : RegRef) (v : Nat) : (s.writeDeferred x v).mem = s.mem := rfl
@[simp] theorem State.writeDeferred_lane (s : State) (x : RegRef) (v : Nat) : (s.writeDeferred x v).lane = s.lane := rfl
@[simp] theorem State.writeDeferred_coh (s : State) (x : RegRef) (v : Nat) : (s.writeDeferred x v).coh = s.coh := rfl
@[simp] theorem State.writeDeferred_rcx (s : State) (x : RegRef) (v : Nat) : (s.writeDeferred x v).rcx = s.rcx := rfl
@[simp] theorem State.writeDeferred_eng (s : State) (x : RegRef) (v : Nat) : (s.writeDeferred x v).eng = s.eng := rfl
@[simp] theorem State.writeDeferred_tier (s : State) (x : RegRef) (v : Nat) : (s.writeDeferred x v).tier = s.tier := rfl
@[simp] theorem State.writeDeferred_net (s : State) (x : RegRef) (v : Nat) : (s.writeDeferred x v).net = s.net := rfl
@[simp] theorem State.writeDeferred_lanes (s : State) (x : RegRef) (v : Nat) : (s.writeDeferred x v).lanes = s.lanes := rfl
@[simp] theorem State.writeDeferred_sec (s : State) (x : RegRef) (v : Nat) : (s.writeDeferred x v).sec = s.sec := rfl
@[simp] theorem State.writeDeferred_fab (s : State) (x : RegRef) (v : Nat) : (s.writeDeferred x v).fab = s.fab := rfl
@[simp] theorem State.writeDeferred_fw (s : State) (x : RegRef) (v : Nat) : (s.writeDeferred x v).fw = s.fw := rfl
@[simp] theorem State.writeDeferred_pwr (s : State) (x : RegRef) (v : Nat) : (s.writeDeferred x v).pwr = s.pwr := rfl
@[simp] theorem State.writeDeferred_timed (s : State) (x : RegRef) (v : Nat) : (s.writeDeferred x v).timed = s.timed := rfl
@[simp] theorem State.writeDeferred_free (s : State) (x : RegRef) (v : Nat) : (s.writeDeferred x v).free = s.free := rfl
@[simp] theorem State.writeDeferred_pending (s : State) (x : RegRef) (v : Nat) : (s.writeDeferred x v).pending = s.pending := rfl

/-! ### bankWrite -/

@[simp] theorem State.bankWrite_time (s : State) (ws : List (Nat × Byte)) : (s.bankWrite ws).time = s.time := rfl
@[simp] theorem State.bankWrite_regs (s : State) (ws : List (Nat × Byte)) : (s.bankWrite ws).regs = s.regs := rfl
@[simp] theorem State.bankWrite_live (s : State) (ws : List (Nat × Byte)) : (s.bankWrite ws).live = s.live := rfl
@[simp] theorem State.bankWrite_acts (s : State) (ws : List (Nat × Byte)) : (s.bankWrite ws).acts = s.acts := rfl
@[simp] theorem State.bankWrite_seg (s : State) (ws : List (Nat × Byte)) : (s.bankWrite ws).seg = s.seg := rfl
@[simp] theorem State.bankWrite_scd (s : State) (ws : List (Nat × Byte)) : (s.bankWrite ws).scd = s.scd := rfl
@[simp] theorem State.bankWrite_lane (s : State) (ws : List (Nat × Byte)) : (s.bankWrite ws).lane = s.lane := rfl
@[simp] theorem State.bankWrite_coh (s : State) (ws : List (Nat × Byte)) : (s.bankWrite ws).coh = s.coh := rfl
@[simp] theorem State.bankWrite_rcx (s : State) (ws : List (Nat × Byte)) : (s.bankWrite ws).rcx = s.rcx := rfl
@[simp] theorem State.bankWrite_eng (s : State) (ws : List (Nat × Byte)) : (s.bankWrite ws).eng = s.eng := rfl
@[simp] theorem State.bankWrite_net (s : State) (ws : List (Nat × Byte)) : (s.bankWrite ws).net = s.net := rfl
@[simp] theorem State.bankWrite_lanes (s : State) (ws : List (Nat × Byte)) : (s.bankWrite ws).lanes = s.lanes := rfl
@[simp] theorem State.bankWrite_sec (s : State) (ws : List (Nat × Byte)) : (s.bankWrite ws).sec = s.sec := rfl
@[simp] theorem State.bankWrite_fab (s : State) (ws : List (Nat × Byte)) : (s.bankWrite ws).fab = s.fab := rfl
@[simp] theorem State.bankWrite_fw (s : State) (ws : List (Nat × Byte)) : (s.bankWrite ws).fw = s.fw := rfl
@[simp] theorem State.bankWrite_pwr (s : State) (ws : List (Nat × Byte)) : (s.bankWrite ws).pwr = s.pwr := rfl
@[simp] theorem State.bankWrite_due (s : State) (ws : List (Nat × Byte)) : (s.bankWrite ws).due = s.due := rfl
@[simp] theorem State.bankWrite_timed (s : State) (ws : List (Nat × Byte)) : (s.bankWrite ws).timed = s.timed := rfl
@[simp] theorem State.bankWrite_free (s : State) (ws : List (Nat × Byte)) : (s.bankWrite ws).free = s.free := rfl
@[simp] theorem State.bankWrite_pending (s : State) (ws : List (Nat × Byte)) : (s.bankWrite ws).pending = s.pending := rfl

/-! ### store -/

@[simp] theorem State.store_time (s : State) (a : Nat) (bs : List Byte) : (s.store a bs).time = s.time := rfl
@[simp] theorem State.store_regs (s : State) (a : Nat) (bs : List Byte) : (s.store a bs).regs = s.regs := rfl
@[simp] theorem State.store_live (s : State) (a : Nat) (bs : List Byte) : (s.store a bs).live = s.live := rfl
@[simp] theorem State.store_acts (s : State) (a : Nat) (bs : List Byte) : (s.store a bs).acts = s.acts := rfl
@[simp] theorem State.store_seg (s : State) (a : Nat) (bs : List Byte) : (s.store a bs).seg = s.seg := rfl
@[simp] theorem State.store_scd (s : State) (a : Nat) (bs : List Byte) : (s.store a bs).scd = s.scd := rfl
@[simp] theorem State.store_lane (s : State) (a : Nat) (bs : List Byte) : (s.store a bs).lane = s.lane := rfl
@[simp] theorem State.store_coh (s : State) (a : Nat) (bs : List Byte) : (s.store a bs).coh = s.coh := rfl
@[simp] theorem State.store_rcx (s : State) (a : Nat) (bs : List Byte) : (s.store a bs).rcx = s.rcx := rfl
@[simp] theorem State.store_eng (s : State) (a : Nat) (bs : List Byte) : (s.store a bs).eng = s.eng := rfl
@[simp] theorem State.store_net (s : State) (a : Nat) (bs : List Byte) : (s.store a bs).net = s.net := rfl
@[simp] theorem State.store_lanes (s : State) (a : Nat) (bs : List Byte) : (s.store a bs).lanes = s.lanes := rfl
@[simp] theorem State.store_sec (s : State) (a : Nat) (bs : List Byte) : (s.store a bs).sec = s.sec := rfl
@[simp] theorem State.store_fab (s : State) (a : Nat) (bs : List Byte) : (s.store a bs).fab = s.fab := rfl
@[simp] theorem State.store_fw (s : State) (a : Nat) (bs : List Byte) : (s.store a bs).fw = s.fw := rfl
@[simp] theorem State.store_pwr (s : State) (a : Nat) (bs : List Byte) : (s.store a bs).pwr = s.pwr := rfl
@[simp] theorem State.store_due (s : State) (a : Nat) (bs : List Byte) : (s.store a bs).due = s.due := rfl
@[simp] theorem State.store_timed (s : State) (a : Nat) (bs : List Byte) : (s.store a bs).timed = s.timed := rfl
@[simp] theorem State.store_free (s : State) (a : Nat) (bs : List Byte) : (s.store a bs).free = s.free := rfl
@[simp] theorem State.store_pending (s : State) (a : Nat) (bs : List Byte) : (s.store a bs).pending = s.pending := rfl

/-! ### cacheUpdate -/

@[simp] theorem State.cacheUpdate_time (s : State) (ws : List (Nat × Byte)) : (s.cacheUpdate ws).time = s.time := rfl
@[simp] theorem State.cacheUpdate_regs (s : State) (ws : List (Nat × Byte)) : (s.cacheUpdate ws).regs = s.regs := rfl
@[simp] theorem State.cacheUpdate_live (s : State) (ws : List (Nat × Byte)) : (s.cacheUpdate ws).live = s.live := rfl
@[simp] theorem State.cacheUpdate_acts (s : State) (ws : List (Nat × Byte)) : (s.cacheUpdate ws).acts = s.acts := rfl
@[simp] theorem State.cacheUpdate_seg (s : State) (ws : List (Nat × Byte)) : (s.cacheUpdate ws).seg = s.seg := rfl
@[simp] theorem State.cacheUpdate_scd (s : State) (ws : List (Nat × Byte)) : (s.cacheUpdate ws).scd = s.scd := rfl
@[simp] theorem State.cacheUpdate_lane (s : State) (ws : List (Nat × Byte)) : (s.cacheUpdate ws).lane = s.lane := rfl
@[simp] theorem State.cacheUpdate_coh (s : State) (ws : List (Nat × Byte)) : (s.cacheUpdate ws).coh = s.coh := rfl
@[simp] theorem State.cacheUpdate_rcx (s : State) (ws : List (Nat × Byte)) : (s.cacheUpdate ws).rcx = s.rcx := rfl
@[simp] theorem State.cacheUpdate_eng (s : State) (ws : List (Nat × Byte)) : (s.cacheUpdate ws).eng = s.eng := rfl
@[simp] theorem State.cacheUpdate_tier (s : State) (ws : List (Nat × Byte)) : (s.cacheUpdate ws).tier = s.tier := rfl
@[simp] theorem State.cacheUpdate_net (s : State) (ws : List (Nat × Byte)) : (s.cacheUpdate ws).net = s.net := rfl
@[simp] theorem State.cacheUpdate_lanes (s : State) (ws : List (Nat × Byte)) : (s.cacheUpdate ws).lanes = s.lanes := rfl
@[simp] theorem State.cacheUpdate_sec (s : State) (ws : List (Nat × Byte)) : (s.cacheUpdate ws).sec = s.sec := rfl
@[simp] theorem State.cacheUpdate_fab (s : State) (ws : List (Nat × Byte)) : (s.cacheUpdate ws).fab = s.fab := rfl
@[simp] theorem State.cacheUpdate_fw (s : State) (ws : List (Nat × Byte)) : (s.cacheUpdate ws).fw = s.fw := rfl
@[simp] theorem State.cacheUpdate_pwr (s : State) (ws : List (Nat × Byte)) : (s.cacheUpdate ws).pwr = s.pwr := rfl
@[simp] theorem State.cacheUpdate_due (s : State) (ws : List (Nat × Byte)) : (s.cacheUpdate ws).due = s.due := rfl
@[simp] theorem State.cacheUpdate_timed (s : State) (ws : List (Nat × Byte)) : (s.cacheUpdate ws).timed = s.timed := rfl
@[simp] theorem State.cacheUpdate_free (s : State) (ws : List (Nat × Byte)) : (s.cacheUpdate ws).free = s.free := rfl
@[simp] theorem State.cacheUpdate_pending (s : State) (ws : List (Nat × Byte)) : (s.cacheUpdate ws).pending = s.pending := rfl

/-! ### cacheDrop -/

@[simp] theorem State.cacheDrop_time (s : State) (line : Nat) : (s.cacheDrop line).time = s.time := rfl
@[simp] theorem State.cacheDrop_regs (s : State) (line : Nat) : (s.cacheDrop line).regs = s.regs := rfl
@[simp] theorem State.cacheDrop_live (s : State) (line : Nat) : (s.cacheDrop line).live = s.live := rfl
@[simp] theorem State.cacheDrop_acts (s : State) (line : Nat) : (s.cacheDrop line).acts = s.acts := rfl
@[simp] theorem State.cacheDrop_seg (s : State) (line : Nat) : (s.cacheDrop line).seg = s.seg := rfl
@[simp] theorem State.cacheDrop_scd (s : State) (line : Nat) : (s.cacheDrop line).scd = s.scd := rfl
@[simp] theorem State.cacheDrop_lane (s : State) (line : Nat) : (s.cacheDrop line).lane = s.lane := rfl
@[simp] theorem State.cacheDrop_coh (s : State) (line : Nat) : (s.cacheDrop line).coh = s.coh := rfl
@[simp] theorem State.cacheDrop_rcx (s : State) (line : Nat) : (s.cacheDrop line).rcx = s.rcx := rfl
@[simp] theorem State.cacheDrop_eng (s : State) (line : Nat) : (s.cacheDrop line).eng = s.eng := rfl
@[simp] theorem State.cacheDrop_tier (s : State) (line : Nat) : (s.cacheDrop line).tier = s.tier := rfl
@[simp] theorem State.cacheDrop_net (s : State) (line : Nat) : (s.cacheDrop line).net = s.net := rfl
@[simp] theorem State.cacheDrop_lanes (s : State) (line : Nat) : (s.cacheDrop line).lanes = s.lanes := rfl
@[simp] theorem State.cacheDrop_sec (s : State) (line : Nat) : (s.cacheDrop line).sec = s.sec := rfl
@[simp] theorem State.cacheDrop_fab (s : State) (line : Nat) : (s.cacheDrop line).fab = s.fab := rfl
@[simp] theorem State.cacheDrop_fw (s : State) (line : Nat) : (s.cacheDrop line).fw = s.fw := rfl
@[simp] theorem State.cacheDrop_pwr (s : State) (line : Nat) : (s.cacheDrop line).pwr = s.pwr := rfl
@[simp] theorem State.cacheDrop_due (s : State) (line : Nat) : (s.cacheDrop line).due = s.due := rfl
@[simp] theorem State.cacheDrop_timed (s : State) (line : Nat) : (s.cacheDrop line).timed = s.timed := rfl
@[simp] theorem State.cacheDrop_free (s : State) (line : Nat) : (s.cacheDrop line).free = s.free := rfl
@[simp] theorem State.cacheDrop_pending (s : State) (line : Nat) : (s.cacheDrop line).pending = s.pending := rfl

/-! ### overtake -/

@[simp] theorem State.overtake_time (s : State) (w : WBuf) : (s.overtake w).time = s.time := rfl
@[simp] theorem State.overtake_regs (s : State) (w : WBuf) : (s.overtake w).regs = s.regs := rfl
@[simp] theorem State.overtake_live (s : State) (w : WBuf) : (s.overtake w).live = s.live := rfl
@[simp] theorem State.overtake_acts (s : State) (w : WBuf) : (s.overtake w).acts = s.acts := rfl
@[simp] theorem State.overtake_seg (s : State) (w : WBuf) : (s.overtake w).seg = s.seg := rfl
@[simp] theorem State.overtake_scd (s : State) (w : WBuf) : (s.overtake w).scd = s.scd := rfl
@[simp] theorem State.overtake_lane (s : State) (w : WBuf) : (s.overtake w).lane = s.lane := rfl
@[simp] theorem State.overtake_coh (s : State) (w : WBuf) : (s.overtake w).coh = s.coh := rfl
@[simp] theorem State.overtake_rcx (s : State) (w : WBuf) : (s.overtake w).rcx = s.rcx := rfl
@[simp] theorem State.overtake_eng (s : State) (w : WBuf) : (s.overtake w).eng = s.eng := rfl
@[simp] theorem State.overtake_tier (s : State) (w : WBuf) : (s.overtake w).tier = s.tier := rfl
@[simp] theorem State.overtake_net (s : State) (w : WBuf) : (s.overtake w).net = s.net := rfl
@[simp] theorem State.overtake_lanes (s : State) (w : WBuf) : (s.overtake w).lanes = s.lanes := rfl
@[simp] theorem State.overtake_sec (s : State) (w : WBuf) : (s.overtake w).sec = s.sec := rfl
@[simp] theorem State.overtake_fab (s : State) (w : WBuf) : (s.overtake w).fab = s.fab := rfl
@[simp] theorem State.overtake_fw (s : State) (w : WBuf) : (s.overtake w).fw = s.fw := rfl
@[simp] theorem State.overtake_pwr (s : State) (w : WBuf) : (s.overtake w).pwr = s.pwr := rfl
@[simp] theorem State.overtake_due (s : State) (w : WBuf) : (s.overtake w).due = s.due := rfl
@[simp] theorem State.overtake_timed (s : State) (w : WBuf) : (s.overtake w).timed = s.timed := rfl
@[simp] theorem State.overtake_free (s : State) (w : WBuf) : (s.overtake w).free = s.free := rfl
@[simp] theorem State.overtake_pending (s : State) (w : WBuf) : (s.overtake w).pending = s.pending := rfl

/-! ### sramRewrite -/

@[simp] theorem State.sramRewrite_time (s : State) : (s.sramRewrite).time = s.time := rfl
@[simp] theorem State.sramRewrite_regs (s : State) : (s.sramRewrite).regs = s.regs := rfl
@[simp] theorem State.sramRewrite_live (s : State) : (s.sramRewrite).live = s.live := rfl
@[simp] theorem State.sramRewrite_acts (s : State) : (s.sramRewrite).acts = s.acts := rfl
@[simp] theorem State.sramRewrite_seg (s : State) : (s.sramRewrite).seg = s.seg := rfl
@[simp] theorem State.sramRewrite_scd (s : State) : (s.sramRewrite).scd = s.scd := rfl
@[simp] theorem State.sramRewrite_lane (s : State) : (s.sramRewrite).lane = s.lane := rfl
@[simp] theorem State.sramRewrite_coh (s : State) : (s.sramRewrite).coh = s.coh := rfl
@[simp] theorem State.sramRewrite_rcx (s : State) : (s.sramRewrite).rcx = s.rcx := rfl
@[simp] theorem State.sramRewrite_eng (s : State) : (s.sramRewrite).eng = s.eng := rfl
@[simp] theorem State.sramRewrite_tier (s : State) : (s.sramRewrite).tier = s.tier := rfl
@[simp] theorem State.sramRewrite_net (s : State) : (s.sramRewrite).net = s.net := rfl
@[simp] theorem State.sramRewrite_lanes (s : State) : (s.sramRewrite).lanes = s.lanes := rfl
@[simp] theorem State.sramRewrite_sec (s : State) : (s.sramRewrite).sec = s.sec := rfl
@[simp] theorem State.sramRewrite_fab (s : State) : (s.sramRewrite).fab = s.fab := rfl
@[simp] theorem State.sramRewrite_fw (s : State) : (s.sramRewrite).fw = s.fw := rfl
@[simp] theorem State.sramRewrite_pwr (s : State) : (s.sramRewrite).pwr = s.pwr := rfl
@[simp] theorem State.sramRewrite_due (s : State) : (s.sramRewrite).due = s.due := rfl
@[simp] theorem State.sramRewrite_timed (s : State) : (s.sramRewrite).timed = s.timed := rfl
@[simp] theorem State.sramRewrite_free (s : State) : (s.sramRewrite).free = s.free := rfl
@[simp] theorem State.sramRewrite_pending (s : State) : (s.sramRewrite).pending = s.pending := rfl

/-! ### meets -/

@[simp] theorem State.meets_time (s : State) (t a n : Nat) : (s.meets t a n).time = s.time := by
  unfold State.meets; split <;> rfl
@[simp] theorem State.meets_regs (s : State) (t a n : Nat) : (s.meets t a n).regs = s.regs := by
  unfold State.meets; split <;> rfl
@[simp] theorem State.meets_live (s : State) (t a n : Nat) : (s.meets t a n).live = s.live := by
  unfold State.meets; split <;> rfl
@[simp] theorem State.meets_acts (s : State) (t a n : Nat) : (s.meets t a n).acts = s.acts := by
  unfold State.meets; split <;> rfl
@[simp] theorem State.meets_seg (s : State) (t a n : Nat) : (s.meets t a n).seg = s.seg := by
  unfold State.meets; split <;> rfl
@[simp] theorem State.meets_scd (s : State) (t a n : Nat) : (s.meets t a n).scd = s.scd := by
  unfold State.meets; split <;> rfl
@[simp] theorem State.meets_mem (s : State) (t a n : Nat) : (s.meets t a n).mem = s.mem := by
  unfold State.meets; split <;> rfl
@[simp] theorem State.meets_lane (s : State) (t a n : Nat) : (s.meets t a n).lane = s.lane := by
  unfold State.meets; split <;> rfl
@[simp] theorem State.meets_coh (s : State) (t a n : Nat) : (s.meets t a n).coh = s.coh := by
  unfold State.meets; split <;> rfl
@[simp] theorem State.meets_rcx (s : State) (t a n : Nat) : (s.meets t a n).rcx = s.rcx := by
  unfold State.meets; split <;> rfl
@[simp] theorem State.meets_eng (s : State) (t a n : Nat) : (s.meets t a n).eng = s.eng := by
  unfold State.meets; split <;> rfl
@[simp] theorem State.meets_tier (s : State) (t a n : Nat) : (s.meets t a n).tier = s.tier := by
  unfold State.meets; split <;> rfl
@[simp] theorem State.meets_net (s : State) (t a n : Nat) : (s.meets t a n).net = s.net := by
  unfold State.meets; split <;> rfl
@[simp] theorem State.meets_lanes (s : State) (t a n : Nat) : (s.meets t a n).lanes = s.lanes := by
  unfold State.meets; split <;> rfl
@[simp] theorem State.meets_sec (s : State) (t a n : Nat) : (s.meets t a n).sec = s.sec := by
  unfold State.meets; split <;> rfl
@[simp] theorem State.meets_fab (s : State) (t a n : Nat) : (s.meets t a n).fab = s.fab := by
  unfold State.meets; split <;> rfl
@[simp] theorem State.meets_fw (s : State) (t a n : Nat) : (s.meets t a n).fw = s.fw := by
  unfold State.meets; split <;> rfl
@[simp] theorem State.meets_pwr (s : State) (t a n : Nat) : (s.meets t a n).pwr = s.pwr := by
  unfold State.meets; split <;> rfl
@[simp] theorem State.meets_due (s : State) (t a n : Nat) : (s.meets t a n).due = s.due := by
  unfold State.meets; split <;> rfl
@[simp] theorem State.meets_free (s : State) (t a n : Nat) : (s.meets t a n).free = s.free := by
  unfold State.meets; split <;> rfl
@[simp] theorem State.meets_pending (s : State) (t a n : Nat) : (s.meets t a n).pending = s.pending := by
  unfold State.meets; split <;> rfl

/-! ### correct -/

@[simp] theorem State.correct_time (s : State) (a n : Nat) : (s.correct a n).time = s.time := by
  unfold State.correct; dsimp only; split
  · rfl
  · split <;> rfl
@[simp] theorem State.correct_regs (s : State) (a n : Nat) : (s.correct a n).regs = s.regs := by
  unfold State.correct; dsimp only; split
  · rfl
  · split <;> rfl
@[simp] theorem State.correct_acts (s : State) (a n : Nat) : (s.correct a n).acts = s.acts := by
  unfold State.correct; dsimp only; split
  · rfl
  · split <;> rfl
@[simp] theorem State.correct_seg (s : State) (a n : Nat) : (s.correct a n).seg = s.seg := by
  unfold State.correct; dsimp only; split
  · rfl
  · split <;> rfl
@[simp] theorem State.correct_scd (s : State) (a n : Nat) : (s.correct a n).scd = s.scd := by
  unfold State.correct; dsimp only; split
  · rfl
  · split <;> rfl
@[simp] theorem State.correct_lane (s : State) (a n : Nat) : (s.correct a n).lane = s.lane := by
  unfold State.correct; dsimp only; split
  · rfl
  · split <;> rfl
@[simp] theorem State.correct_coh (s : State) (a n : Nat) : (s.correct a n).coh = s.coh := by
  unfold State.correct; dsimp only; split
  · rfl
  · split <;> rfl
@[simp] theorem State.correct_rcx (s : State) (a n : Nat) : (s.correct a n).rcx = s.rcx := by
  unfold State.correct; dsimp only; split
  · rfl
  · split <;> rfl
@[simp] theorem State.correct_eng (s : State) (a n : Nat) : (s.correct a n).eng = s.eng := by
  unfold State.correct; dsimp only; split
  · rfl
  · split <;> rfl
@[simp] theorem State.correct_tier (s : State) (a n : Nat) : (s.correct a n).tier = s.tier := by
  unfold State.correct; dsimp only; split
  · rfl
  · split <;> rfl
@[simp] theorem State.correct_net (s : State) (a n : Nat) : (s.correct a n).net = s.net := by
  unfold State.correct; dsimp only; split
  · rfl
  · split <;> rfl
@[simp] theorem State.correct_lanes (s : State) (a n : Nat) : (s.correct a n).lanes = s.lanes := by
  unfold State.correct; dsimp only; split
  · rfl
  · split <;> rfl
@[simp] theorem State.correct_sec (s : State) (a n : Nat) : (s.correct a n).sec = s.sec := by
  unfold State.correct; dsimp only; split
  · rfl
  · split <;> rfl
@[simp] theorem State.correct_fab (s : State) (a n : Nat) : (s.correct a n).fab = s.fab := by
  unfold State.correct; dsimp only; split
  · rfl
  · split <;> rfl
@[simp] theorem State.correct_fw (s : State) (a n : Nat) : (s.correct a n).fw = s.fw := by
  unfold State.correct; dsimp only; split
  · rfl
  · split <;> rfl
@[simp] theorem State.correct_pwr (s : State) (a n : Nat) : (s.correct a n).pwr = s.pwr := by
  unfold State.correct; dsimp only; split
  · rfl
  · split <;> rfl
@[simp] theorem State.correct_due (s : State) (a n : Nat) : (s.correct a n).due = s.due := by
  unfold State.correct; dsimp only; split
  · rfl
  · split <;> rfl
@[simp] theorem State.correct_timed (s : State) (a n : Nat) : (s.correct a n).timed = s.timed := by
  unfold State.correct; dsimp only; split
  · rfl
  · split <;> rfl
@[simp] theorem State.correct_free (s : State) (a n : Nat) : (s.correct a n).free = s.free := by
  unfold State.correct; dsimp only; split
  · rfl
  · split <;> rfl
@[simp] theorem State.correct_pending (s : State) (a n : Nat) : (s.correct a n).pending = s.pending := by
  unfold State.correct; dsimp only; split
  · rfl
  · split <;> rfl

/-! ### setV -/

@[simp] theorem State.setV_time (s : State) (k : Scd) (r : BitVec 6) (x : Vec) : (s.setV k r x).time = s.time := rfl
@[simp] theorem State.setV_regs (s : State) (k : Scd) (r : BitVec 6) (x : Vec) : (s.setV k r x).regs = s.regs := rfl
@[simp] theorem State.setV_live (s : State) (k : Scd) (r : BitVec 6) (x : Vec) : (s.setV k r x).live = s.live := rfl
@[simp] theorem State.setV_acts (s : State) (k : Scd) (r : BitVec 6) (x : Vec) : (s.setV k r x).acts = s.acts := rfl
@[simp] theorem State.setV_seg (s : State) (k : Scd) (r : BitVec 6) (x : Vec) : (s.setV k r x).seg = s.seg := rfl
@[simp] theorem State.setV_mem (s : State) (k : Scd) (r : BitVec 6) (x : Vec) : (s.setV k r x).mem = s.mem := rfl
@[simp] theorem State.setV_lane (s : State) (k : Scd) (r : BitVec 6) (x : Vec) : (s.setV k r x).lane = s.lane := rfl
@[simp] theorem State.setV_coh (s : State) (k : Scd) (r : BitVec 6) (x : Vec) : (s.setV k r x).coh = s.coh := rfl
@[simp] theorem State.setV_rcx (s : State) (k : Scd) (r : BitVec 6) (x : Vec) : (s.setV k r x).rcx = s.rcx := rfl
@[simp] theorem State.setV_eng (s : State) (k : Scd) (r : BitVec 6) (x : Vec) : (s.setV k r x).eng = s.eng := rfl
@[simp] theorem State.setV_tier (s : State) (k : Scd) (r : BitVec 6) (x : Vec) : (s.setV k r x).tier = s.tier := rfl
@[simp] theorem State.setV_net (s : State) (k : Scd) (r : BitVec 6) (x : Vec) : (s.setV k r x).net = s.net := rfl
@[simp] theorem State.setV_lanes (s : State) (k : Scd) (r : BitVec 6) (x : Vec) : (s.setV k r x).lanes = s.lanes := rfl
@[simp] theorem State.setV_sec (s : State) (k : Scd) (r : BitVec 6) (x : Vec) : (s.setV k r x).sec = s.sec := rfl
@[simp] theorem State.setV_fab (s : State) (k : Scd) (r : BitVec 6) (x : Vec) : (s.setV k r x).fab = s.fab := rfl
@[simp] theorem State.setV_fw (s : State) (k : Scd) (r : BitVec 6) (x : Vec) : (s.setV k r x).fw = s.fw := rfl
@[simp] theorem State.setV_pwr (s : State) (k : Scd) (r : BitVec 6) (x : Vec) : (s.setV k r x).pwr = s.pwr := rfl
@[simp] theorem State.setV_due (s : State) (k : Scd) (r : BitVec 6) (x : Vec) : (s.setV k r x).due = s.due := rfl
@[simp] theorem State.setV_timed (s : State) (k : Scd) (r : BitVec 6) (x : Vec) : (s.setV k r x).timed = s.timed := rfl
@[simp] theorem State.setV_free (s : State) (k : Scd) (r : BitVec 6) (x : Vec) : (s.setV k r x).free = s.free := rfl
@[simp] theorem State.setV_pending (s : State) (k : Scd) (r : BitVec 6) (x : Vec) : (s.setV k r x).pending = s.pending := rfl

/-! ### setP -/

@[simp] theorem State.setP_time (s : State) (k : Scd) (r : BitVec 4) (x : Mask) : (s.setP k r x).time = s.time := rfl
@[simp] theorem State.setP_regs (s : State) (k : Scd) (r : BitVec 4) (x : Mask) : (s.setP k r x).regs = s.regs := rfl
@[simp] theorem State.setP_live (s : State) (k : Scd) (r : BitVec 4) (x : Mask) : (s.setP k r x).live = s.live := rfl
@[simp] theorem State.setP_acts (s : State) (k : Scd) (r : BitVec 4) (x : Mask) : (s.setP k r x).acts = s.acts := rfl
@[simp] theorem State.setP_seg (s : State) (k : Scd) (r : BitVec 4) (x : Mask) : (s.setP k r x).seg = s.seg := rfl
@[simp] theorem State.setP_mem (s : State) (k : Scd) (r : BitVec 4) (x : Mask) : (s.setP k r x).mem = s.mem := rfl
@[simp] theorem State.setP_lane (s : State) (k : Scd) (r : BitVec 4) (x : Mask) : (s.setP k r x).lane = s.lane := rfl
@[simp] theorem State.setP_coh (s : State) (k : Scd) (r : BitVec 4) (x : Mask) : (s.setP k r x).coh = s.coh := rfl
@[simp] theorem State.setP_rcx (s : State) (k : Scd) (r : BitVec 4) (x : Mask) : (s.setP k r x).rcx = s.rcx := rfl
@[simp] theorem State.setP_eng (s : State) (k : Scd) (r : BitVec 4) (x : Mask) : (s.setP k r x).eng = s.eng := rfl
@[simp] theorem State.setP_tier (s : State) (k : Scd) (r : BitVec 4) (x : Mask) : (s.setP k r x).tier = s.tier := rfl
@[simp] theorem State.setP_net (s : State) (k : Scd) (r : BitVec 4) (x : Mask) : (s.setP k r x).net = s.net := rfl
@[simp] theorem State.setP_lanes (s : State) (k : Scd) (r : BitVec 4) (x : Mask) : (s.setP k r x).lanes = s.lanes := rfl
@[simp] theorem State.setP_sec (s : State) (k : Scd) (r : BitVec 4) (x : Mask) : (s.setP k r x).sec = s.sec := rfl
@[simp] theorem State.setP_fab (s : State) (k : Scd) (r : BitVec 4) (x : Mask) : (s.setP k r x).fab = s.fab := rfl
@[simp] theorem State.setP_fw (s : State) (k : Scd) (r : BitVec 4) (x : Mask) : (s.setP k r x).fw = s.fw := rfl
@[simp] theorem State.setP_pwr (s : State) (k : Scd) (r : BitVec 4) (x : Mask) : (s.setP k r x).pwr = s.pwr := rfl
@[simp] theorem State.setP_due (s : State) (k : Scd) (r : BitVec 4) (x : Mask) : (s.setP k r x).due = s.due := rfl
@[simp] theorem State.setP_timed (s : State) (k : Scd) (r : BitVec 4) (x : Mask) : (s.setP k r x).timed = s.timed := rfl
@[simp] theorem State.setP_free (s : State) (k : Scd) (r : BitVec 4) (x : Mask) : (s.setP k r x).free = s.free := rfl
@[simp] theorem State.setP_pending (s : State) (k : Scd) (r : BitVec 4) (x : Mask) : (s.setP k r x).pending = s.pending := rfl

/-! ### setX -/

@[simp] theorem State.setX_time (s : State) (k : Scd) (r : BitVec 5) (x : Vec) : (s.setX k r x).time = s.time := rfl
@[simp] theorem State.setX_regs (s : State) (k : Scd) (r : BitVec 5) (x : Vec) : (s.setX k r x).regs = s.regs := rfl
@[simp] theorem State.setX_live (s : State) (k : Scd) (r : BitVec 5) (x : Vec) : (s.setX k r x).live = s.live := rfl
@[simp] theorem State.setX_acts (s : State) (k : Scd) (r : BitVec 5) (x : Vec) : (s.setX k r x).acts = s.acts := rfl
@[simp] theorem State.setX_seg (s : State) (k : Scd) (r : BitVec 5) (x : Vec) : (s.setX k r x).seg = s.seg := rfl
@[simp] theorem State.setX_mem (s : State) (k : Scd) (r : BitVec 5) (x : Vec) : (s.setX k r x).mem = s.mem := rfl
@[simp] theorem State.setX_lane (s : State) (k : Scd) (r : BitVec 5) (x : Vec) : (s.setX k r x).lane = s.lane := rfl
@[simp] theorem State.setX_coh (s : State) (k : Scd) (r : BitVec 5) (x : Vec) : (s.setX k r x).coh = s.coh := rfl
@[simp] theorem State.setX_rcx (s : State) (k : Scd) (r : BitVec 5) (x : Vec) : (s.setX k r x).rcx = s.rcx := rfl
@[simp] theorem State.setX_eng (s : State) (k : Scd) (r : BitVec 5) (x : Vec) : (s.setX k r x).eng = s.eng := rfl
@[simp] theorem State.setX_tier (s : State) (k : Scd) (r : BitVec 5) (x : Vec) : (s.setX k r x).tier = s.tier := rfl
@[simp] theorem State.setX_net (s : State) (k : Scd) (r : BitVec 5) (x : Vec) : (s.setX k r x).net = s.net := rfl
@[simp] theorem State.setX_lanes (s : State) (k : Scd) (r : BitVec 5) (x : Vec) : (s.setX k r x).lanes = s.lanes := rfl
@[simp] theorem State.setX_sec (s : State) (k : Scd) (r : BitVec 5) (x : Vec) : (s.setX k r x).sec = s.sec := rfl
@[simp] theorem State.setX_fab (s : State) (k : Scd) (r : BitVec 5) (x : Vec) : (s.setX k r x).fab = s.fab := rfl
@[simp] theorem State.setX_fw (s : State) (k : Scd) (r : BitVec 5) (x : Vec) : (s.setX k r x).fw = s.fw := rfl
@[simp] theorem State.setX_pwr (s : State) (k : Scd) (r : BitVec 5) (x : Vec) : (s.setX k r x).pwr = s.pwr := rfl
@[simp] theorem State.setX_due (s : State) (k : Scd) (r : BitVec 5) (x : Vec) : (s.setX k r x).due = s.due := rfl
@[simp] theorem State.setX_timed (s : State) (k : Scd) (r : BitVec 5) (x : Vec) : (s.setX k r x).timed = s.timed := rfl
@[simp] theorem State.setX_free (s : State) (k : Scd) (r : BitVec 5) (x : Vec) : (s.setX k r x).free = s.free := rfl
@[simp] theorem State.setX_pending (s : State) (k : Scd) (r : BitVec 5) (x : Vec) : (s.setX k r x).pending = s.pending := rfl

/-! ### setS -/

@[simp] theorem State.setS_time (s : State) (k : Scd) (r : BitVec 6) (x : Dword) : (s.setS k r x).time = s.time := by
  unfold State.setS; dsimp only; split <;> rfl
@[simp] theorem State.setS_regs (s : State) (k : Scd) (r : BitVec 6) (x : Dword) : (s.setS k r x).regs = s.regs := by
  unfold State.setS; dsimp only; split <;> rfl
@[simp] theorem State.setS_live (s : State) (k : Scd) (r : BitVec 6) (x : Dword) : (s.setS k r x).live = s.live := by
  unfold State.setS; dsimp only; split <;> rfl
@[simp] theorem State.setS_acts (s : State) (k : Scd) (r : BitVec 6) (x : Dword) : (s.setS k r x).acts = s.acts := by
  unfold State.setS; dsimp only; split <;> rfl
@[simp] theorem State.setS_seg (s : State) (k : Scd) (r : BitVec 6) (x : Dword) : (s.setS k r x).seg = s.seg := by
  unfold State.setS; dsimp only; split <;> rfl
@[simp] theorem State.setS_mem (s : State) (k : Scd) (r : BitVec 6) (x : Dword) : (s.setS k r x).mem = s.mem := by
  unfold State.setS; dsimp only; split <;> rfl
@[simp] theorem State.setS_lane (s : State) (k : Scd) (r : BitVec 6) (x : Dword) : (s.setS k r x).lane = s.lane := by
  unfold State.setS; dsimp only; split <;> rfl
@[simp] theorem State.setS_coh (s : State) (k : Scd) (r : BitVec 6) (x : Dword) : (s.setS k r x).coh = s.coh := by
  unfold State.setS; dsimp only; split <;> rfl
@[simp] theorem State.setS_rcx (s : State) (k : Scd) (r : BitVec 6) (x : Dword) : (s.setS k r x).rcx = s.rcx := by
  unfold State.setS; dsimp only; split <;> rfl
@[simp] theorem State.setS_eng (s : State) (k : Scd) (r : BitVec 6) (x : Dword) : (s.setS k r x).eng = s.eng := by
  unfold State.setS; dsimp only; split <;> rfl
@[simp] theorem State.setS_tier (s : State) (k : Scd) (r : BitVec 6) (x : Dword) : (s.setS k r x).tier = s.tier := by
  unfold State.setS; dsimp only; split <;> rfl
@[simp] theorem State.setS_net (s : State) (k : Scd) (r : BitVec 6) (x : Dword) : (s.setS k r x).net = s.net := by
  unfold State.setS; dsimp only; split <;> rfl
@[simp] theorem State.setS_lanes (s : State) (k : Scd) (r : BitVec 6) (x : Dword) : (s.setS k r x).lanes = s.lanes := by
  unfold State.setS; dsimp only; split <;> rfl
@[simp] theorem State.setS_sec (s : State) (k : Scd) (r : BitVec 6) (x : Dword) : (s.setS k r x).sec = s.sec := by
  unfold State.setS; dsimp only; split <;> rfl
@[simp] theorem State.setS_fab (s : State) (k : Scd) (r : BitVec 6) (x : Dword) : (s.setS k r x).fab = s.fab := by
  unfold State.setS; dsimp only; split <;> rfl
@[simp] theorem State.setS_fw (s : State) (k : Scd) (r : BitVec 6) (x : Dword) : (s.setS k r x).fw = s.fw := by
  unfold State.setS; dsimp only; split <;> rfl
@[simp] theorem State.setS_pwr (s : State) (k : Scd) (r : BitVec 6) (x : Dword) : (s.setS k r x).pwr = s.pwr := by
  unfold State.setS; dsimp only; split <;> rfl
@[simp] theorem State.setS_due (s : State) (k : Scd) (r : BitVec 6) (x : Dword) : (s.setS k r x).due = s.due := by
  unfold State.setS; dsimp only; split <;> rfl
@[simp] theorem State.setS_timed (s : State) (k : Scd) (r : BitVec 6) (x : Dword) : (s.setS k r x).timed = s.timed := by
  unfold State.setS; dsimp only; split <;> rfl
@[simp] theorem State.setS_free (s : State) (k : Scd) (r : BitVec 6) (x : Dword) : (s.setS k r x).free = s.free := by
  unfold State.setS; dsimp only; split <;> rfl
@[simp] theorem State.setS_pending (s : State) (k : Scd) (r : BitVec 6) (x : Dword) : (s.setS k r x).pending = s.pending := by
  unfold State.setS; dsimp only; split <;> rfl

/-! ### setCtr -/

@[simp] theorem State.setCtr_time (s : State) (k : Scd) (c : BitVec 9) (x : Word) : (s.setCtr k c x).time = s.time := rfl
@[simp] theorem State.setCtr_regs (s : State) (k : Scd) (c : BitVec 9) (x : Word) : (s.setCtr k c x).regs = s.regs := rfl
@[simp] theorem State.setCtr_live (s : State) (k : Scd) (c : BitVec 9) (x : Word) : (s.setCtr k c x).live = s.live := rfl
@[simp] theorem State.setCtr_acts (s : State) (k : Scd) (c : BitVec 9) (x : Word) : (s.setCtr k c x).acts = s.acts := rfl
@[simp] theorem State.setCtr_seg (s : State) (k : Scd) (c : BitVec 9) (x : Word) : (s.setCtr k c x).seg = s.seg := rfl
@[simp] theorem State.setCtr_mem (s : State) (k : Scd) (c : BitVec 9) (x : Word) : (s.setCtr k c x).mem = s.mem := rfl
@[simp] theorem State.setCtr_lane (s : State) (k : Scd) (c : BitVec 9) (x : Word) : (s.setCtr k c x).lane = s.lane := rfl
@[simp] theorem State.setCtr_coh (s : State) (k : Scd) (c : BitVec 9) (x : Word) : (s.setCtr k c x).coh = s.coh := rfl
@[simp] theorem State.setCtr_rcx (s : State) (k : Scd) (c : BitVec 9) (x : Word) : (s.setCtr k c x).rcx = s.rcx := rfl
@[simp] theorem State.setCtr_eng (s : State) (k : Scd) (c : BitVec 9) (x : Word) : (s.setCtr k c x).eng = s.eng := rfl
@[simp] theorem State.setCtr_tier (s : State) (k : Scd) (c : BitVec 9) (x : Word) : (s.setCtr k c x).tier = s.tier := rfl
@[simp] theorem State.setCtr_net (s : State) (k : Scd) (c : BitVec 9) (x : Word) : (s.setCtr k c x).net = s.net := rfl
@[simp] theorem State.setCtr_lanes (s : State) (k : Scd) (c : BitVec 9) (x : Word) : (s.setCtr k c x).lanes = s.lanes := rfl
@[simp] theorem State.setCtr_sec (s : State) (k : Scd) (c : BitVec 9) (x : Word) : (s.setCtr k c x).sec = s.sec := rfl
@[simp] theorem State.setCtr_fab (s : State) (k : Scd) (c : BitVec 9) (x : Word) : (s.setCtr k c x).fab = s.fab := rfl
@[simp] theorem State.setCtr_fw (s : State) (k : Scd) (c : BitVec 9) (x : Word) : (s.setCtr k c x).fw = s.fw := rfl
@[simp] theorem State.setCtr_pwr (s : State) (k : Scd) (c : BitVec 9) (x : Word) : (s.setCtr k c x).pwr = s.pwr := rfl
@[simp] theorem State.setCtr_due (s : State) (k : Scd) (c : BitVec 9) (x : Word) : (s.setCtr k c x).due = s.due := rfl
@[simp] theorem State.setCtr_timed (s : State) (k : Scd) (c : BitVec 9) (x : Word) : (s.setCtr k c x).timed = s.timed := rfl
@[simp] theorem State.setCtr_free (s : State) (k : Scd) (c : BitVec 9) (x : Word) : (s.setCtr k c x).free = s.free := rfl
@[simp] theorem State.setCtr_pending (s : State) (k : Scd) (c : BitVec 9) (x : Word) : (s.setCtr k c x).pending = s.pending := rfl

/-! ### ctrAdd -/

@[simp] theorem State.ctrAdd_time (s : State) (k : Scd) (c : BitVec 9) (n : Nat) : (s.ctrAdd k c n).time = s.time := rfl
@[simp] theorem State.ctrAdd_regs (s : State) (k : Scd) (c : BitVec 9) (n : Nat) : (s.ctrAdd k c n).regs = s.regs := rfl
@[simp] theorem State.ctrAdd_live (s : State) (k : Scd) (c : BitVec 9) (n : Nat) : (s.ctrAdd k c n).live = s.live := rfl
@[simp] theorem State.ctrAdd_acts (s : State) (k : Scd) (c : BitVec 9) (n : Nat) : (s.ctrAdd k c n).acts = s.acts := rfl
@[simp] theorem State.ctrAdd_seg (s : State) (k : Scd) (c : BitVec 9) (n : Nat) : (s.ctrAdd k c n).seg = s.seg := rfl
@[simp] theorem State.ctrAdd_mem (s : State) (k : Scd) (c : BitVec 9) (n : Nat) : (s.ctrAdd k c n).mem = s.mem := rfl
@[simp] theorem State.ctrAdd_lane (s : State) (k : Scd) (c : BitVec 9) (n : Nat) : (s.ctrAdd k c n).lane = s.lane := rfl
@[simp] theorem State.ctrAdd_coh (s : State) (k : Scd) (c : BitVec 9) (n : Nat) : (s.ctrAdd k c n).coh = s.coh := rfl
@[simp] theorem State.ctrAdd_rcx (s : State) (k : Scd) (c : BitVec 9) (n : Nat) : (s.ctrAdd k c n).rcx = s.rcx := rfl
@[simp] theorem State.ctrAdd_eng (s : State) (k : Scd) (c : BitVec 9) (n : Nat) : (s.ctrAdd k c n).eng = s.eng := rfl
@[simp] theorem State.ctrAdd_tier (s : State) (k : Scd) (c : BitVec 9) (n : Nat) : (s.ctrAdd k c n).tier = s.tier := rfl
@[simp] theorem State.ctrAdd_net (s : State) (k : Scd) (c : BitVec 9) (n : Nat) : (s.ctrAdd k c n).net = s.net := rfl
@[simp] theorem State.ctrAdd_lanes (s : State) (k : Scd) (c : BitVec 9) (n : Nat) : (s.ctrAdd k c n).lanes = s.lanes := rfl
@[simp] theorem State.ctrAdd_sec (s : State) (k : Scd) (c : BitVec 9) (n : Nat) : (s.ctrAdd k c n).sec = s.sec := rfl
@[simp] theorem State.ctrAdd_fab (s : State) (k : Scd) (c : BitVec 9) (n : Nat) : (s.ctrAdd k c n).fab = s.fab := rfl
@[simp] theorem State.ctrAdd_fw (s : State) (k : Scd) (c : BitVec 9) (n : Nat) : (s.ctrAdd k c n).fw = s.fw := rfl
@[simp] theorem State.ctrAdd_pwr (s : State) (k : Scd) (c : BitVec 9) (n : Nat) : (s.ctrAdd k c n).pwr = s.pwr := rfl
@[simp] theorem State.ctrAdd_due (s : State) (k : Scd) (c : BitVec 9) (n : Nat) : (s.ctrAdd k c n).due = s.due := rfl
@[simp] theorem State.ctrAdd_timed (s : State) (k : Scd) (c : BitVec 9) (n : Nat) : (s.ctrAdd k c n).timed = s.timed := rfl
@[simp] theorem State.ctrAdd_free (s : State) (k : Scd) (c : BitVec 9) (n : Nat) : (s.ctrAdd k c n).free = s.free := rfl
@[simp] theorem State.ctrAdd_pending (s : State) (k : Scd) (c : BitVec 9) (n : Nat) : (s.ctrAdd k c n).pending = s.pending := rfl

/-! ### ctrAddAt -/

@[simp] theorem State.ctrAddAt_time (s : State) (t : Nat) (k : Scd) (c : BitVec 9) (n : Nat) : (s.ctrAddAt t k c n).time = s.time := rfl
@[simp] theorem State.ctrAddAt_regs (s : State) (t : Nat) (k : Scd) (c : BitVec 9) (n : Nat) : (s.ctrAddAt t k c n).regs = s.regs := rfl
@[simp] theorem State.ctrAddAt_live (s : State) (t : Nat) (k : Scd) (c : BitVec 9) (n : Nat) : (s.ctrAddAt t k c n).live = s.live := rfl
@[simp] theorem State.ctrAddAt_acts (s : State) (t : Nat) (k : Scd) (c : BitVec 9) (n : Nat) : (s.ctrAddAt t k c n).acts = s.acts := rfl
@[simp] theorem State.ctrAddAt_seg (s : State) (t : Nat) (k : Scd) (c : BitVec 9) (n : Nat) : (s.ctrAddAt t k c n).seg = s.seg := rfl
@[simp] theorem State.ctrAddAt_scd (s : State) (t : Nat) (k : Scd) (c : BitVec 9) (n : Nat) : (s.ctrAddAt t k c n).scd = s.scd := rfl
@[simp] theorem State.ctrAddAt_mem (s : State) (t : Nat) (k : Scd) (c : BitVec 9) (n : Nat) : (s.ctrAddAt t k c n).mem = s.mem := rfl
@[simp] theorem State.ctrAddAt_lane (s : State) (t : Nat) (k : Scd) (c : BitVec 9) (n : Nat) : (s.ctrAddAt t k c n).lane = s.lane := rfl
@[simp] theorem State.ctrAddAt_coh (s : State) (t : Nat) (k : Scd) (c : BitVec 9) (n : Nat) : (s.ctrAddAt t k c n).coh = s.coh := rfl
@[simp] theorem State.ctrAddAt_rcx (s : State) (t : Nat) (k : Scd) (c : BitVec 9) (n : Nat) : (s.ctrAddAt t k c n).rcx = s.rcx := rfl
@[simp] theorem State.ctrAddAt_eng (s : State) (t : Nat) (k : Scd) (c : BitVec 9) (n : Nat) : (s.ctrAddAt t k c n).eng = s.eng := rfl
@[simp] theorem State.ctrAddAt_tier (s : State) (t : Nat) (k : Scd) (c : BitVec 9) (n : Nat) : (s.ctrAddAt t k c n).tier = s.tier := rfl
@[simp] theorem State.ctrAddAt_net (s : State) (t : Nat) (k : Scd) (c : BitVec 9) (n : Nat) : (s.ctrAddAt t k c n).net = s.net := rfl
@[simp] theorem State.ctrAddAt_lanes (s : State) (t : Nat) (k : Scd) (c : BitVec 9) (n : Nat) : (s.ctrAddAt t k c n).lanes = s.lanes := rfl
@[simp] theorem State.ctrAddAt_sec (s : State) (t : Nat) (k : Scd) (c : BitVec 9) (n : Nat) : (s.ctrAddAt t k c n).sec = s.sec := rfl
@[simp] theorem State.ctrAddAt_fab (s : State) (t : Nat) (k : Scd) (c : BitVec 9) (n : Nat) : (s.ctrAddAt t k c n).fab = s.fab := rfl
@[simp] theorem State.ctrAddAt_fw (s : State) (t : Nat) (k : Scd) (c : BitVec 9) (n : Nat) : (s.ctrAddAt t k c n).fw = s.fw := rfl
@[simp] theorem State.ctrAddAt_pwr (s : State) (t : Nat) (k : Scd) (c : BitVec 9) (n : Nat) : (s.ctrAddAt t k c n).pwr = s.pwr := rfl
@[simp] theorem State.ctrAddAt_due (s : State) (t : Nat) (k : Scd) (c : BitVec 9) (n : Nat) : (s.ctrAddAt t k c n).due = s.due := rfl
@[simp] theorem State.ctrAddAt_free (s : State) (t : Nat) (k : Scd) (c : BitVec 9) (n : Nat) : (s.ctrAddAt t k c n).free = s.free := rfl
@[simp] theorem State.ctrAddAt_pending (s : State) (t : Nat) (k : Scd) (c : BitVec 9) (n : Nat) : (s.ctrAddAt t k c n).pending = s.pending := rfl

/-! ### setTenant -/

@[simp] theorem State.setTenant_time (s : State) (t : Tenant) (x : TenantRec) : (s.setTenant t x).time = s.time := rfl
@[simp] theorem State.setTenant_regs (s : State) (t : Tenant) (x : TenantRec) : (s.setTenant t x).regs = s.regs := rfl
@[simp] theorem State.setTenant_live (s : State) (t : Tenant) (x : TenantRec) : (s.setTenant t x).live = s.live := rfl
@[simp] theorem State.setTenant_acts (s : State) (t : Tenant) (x : TenantRec) : (s.setTenant t x).acts = s.acts := rfl
@[simp] theorem State.setTenant_seg (s : State) (t : Tenant) (x : TenantRec) : (s.setTenant t x).seg = s.seg := rfl
@[simp] theorem State.setTenant_scd (s : State) (t : Tenant) (x : TenantRec) : (s.setTenant t x).scd = s.scd := rfl
@[simp] theorem State.setTenant_mem (s : State) (t : Tenant) (x : TenantRec) : (s.setTenant t x).mem = s.mem := rfl
@[simp] theorem State.setTenant_lane (s : State) (t : Tenant) (x : TenantRec) : (s.setTenant t x).lane = s.lane := rfl
@[simp] theorem State.setTenant_coh (s : State) (t : Tenant) (x : TenantRec) : (s.setTenant t x).coh = s.coh := rfl
@[simp] theorem State.setTenant_rcx (s : State) (t : Tenant) (x : TenantRec) : (s.setTenant t x).rcx = s.rcx := rfl
@[simp] theorem State.setTenant_eng (s : State) (t : Tenant) (x : TenantRec) : (s.setTenant t x).eng = s.eng := rfl
@[simp] theorem State.setTenant_tier (s : State) (t : Tenant) (x : TenantRec) : (s.setTenant t x).tier = s.tier := rfl
@[simp] theorem State.setTenant_net (s : State) (t : Tenant) (x : TenantRec) : (s.setTenant t x).net = s.net := rfl
@[simp] theorem State.setTenant_lanes (s : State) (t : Tenant) (x : TenantRec) : (s.setTenant t x).lanes = s.lanes := rfl
@[simp] theorem State.setTenant_fab (s : State) (t : Tenant) (x : TenantRec) : (s.setTenant t x).fab = s.fab := rfl
@[simp] theorem State.setTenant_fw (s : State) (t : Tenant) (x : TenantRec) : (s.setTenant t x).fw = s.fw := rfl
@[simp] theorem State.setTenant_pwr (s : State) (t : Tenant) (x : TenantRec) : (s.setTenant t x).pwr = s.pwr := rfl
@[simp] theorem State.setTenant_due (s : State) (t : Tenant) (x : TenantRec) : (s.setTenant t x).due = s.due := rfl
@[simp] theorem State.setTenant_timed (s : State) (t : Tenant) (x : TenantRec) : (s.setTenant t x).timed = s.timed := rfl
@[simp] theorem State.setTenant_free (s : State) (t : Tenant) (x : TenantRec) : (s.setTenant t x).free = s.free := rfl
@[simp] theorem State.setTenant_pending (s : State) (t : Tenant) (x : TenantRec) : (s.setTenant t x).pending = s.pending := rfl

/-! ### setSlot -/

@[simp] theorem State.setSlot_time (s : State) (i : Nat) (x : KeySlot) : (s.setSlot i x).time = s.time := rfl
@[simp] theorem State.setSlot_regs (s : State) (i : Nat) (x : KeySlot) : (s.setSlot i x).regs = s.regs := rfl
@[simp] theorem State.setSlot_live (s : State) (i : Nat) (x : KeySlot) : (s.setSlot i x).live = s.live := rfl
@[simp] theorem State.setSlot_acts (s : State) (i : Nat) (x : KeySlot) : (s.setSlot i x).acts = s.acts := rfl
@[simp] theorem State.setSlot_seg (s : State) (i : Nat) (x : KeySlot) : (s.setSlot i x).seg = s.seg := rfl
@[simp] theorem State.setSlot_scd (s : State) (i : Nat) (x : KeySlot) : (s.setSlot i x).scd = s.scd := rfl
@[simp] theorem State.setSlot_mem (s : State) (i : Nat) (x : KeySlot) : (s.setSlot i x).mem = s.mem := rfl
@[simp] theorem State.setSlot_lane (s : State) (i : Nat) (x : KeySlot) : (s.setSlot i x).lane = s.lane := rfl
@[simp] theorem State.setSlot_coh (s : State) (i : Nat) (x : KeySlot) : (s.setSlot i x).coh = s.coh := rfl
@[simp] theorem State.setSlot_rcx (s : State) (i : Nat) (x : KeySlot) : (s.setSlot i x).rcx = s.rcx := rfl
@[simp] theorem State.setSlot_eng (s : State) (i : Nat) (x : KeySlot) : (s.setSlot i x).eng = s.eng := rfl
@[simp] theorem State.setSlot_tier (s : State) (i : Nat) (x : KeySlot) : (s.setSlot i x).tier = s.tier := rfl
@[simp] theorem State.setSlot_net (s : State) (i : Nat) (x : KeySlot) : (s.setSlot i x).net = s.net := rfl
@[simp] theorem State.setSlot_lanes (s : State) (i : Nat) (x : KeySlot) : (s.setSlot i x).lanes = s.lanes := rfl
@[simp] theorem State.setSlot_fab (s : State) (i : Nat) (x : KeySlot) : (s.setSlot i x).fab = s.fab := rfl
@[simp] theorem State.setSlot_fw (s : State) (i : Nat) (x : KeySlot) : (s.setSlot i x).fw = s.fw := rfl
@[simp] theorem State.setSlot_pwr (s : State) (i : Nat) (x : KeySlot) : (s.setSlot i x).pwr = s.pwr := rfl
@[simp] theorem State.setSlot_due (s : State) (i : Nat) (x : KeySlot) : (s.setSlot i x).due = s.due := rfl
@[simp] theorem State.setSlot_timed (s : State) (i : Nat) (x : KeySlot) : (s.setSlot i x).timed = s.timed := rfl
@[simp] theorem State.setSlot_free (s : State) (i : Nat) (x : KeySlot) : (s.setSlot i x).free = s.free := rfl
@[simp] theorem State.setSlot_pending (s : State) (i : Nat) (x : KeySlot) : (s.setSlot i x).pending = s.pending := rfl

/-! ### setGrant -/

@[simp] theorem State.setGrant_time (s : State) (i : Nat) (g : Grant) : (s.setGrant i g).time = s.time := rfl
@[simp] theorem State.setGrant_regs (s : State) (i : Nat) (g : Grant) : (s.setGrant i g).regs = s.regs := rfl
@[simp] theorem State.setGrant_live (s : State) (i : Nat) (g : Grant) : (s.setGrant i g).live = s.live := rfl
@[simp] theorem State.setGrant_acts (s : State) (i : Nat) (g : Grant) : (s.setGrant i g).acts = s.acts := rfl
@[simp] theorem State.setGrant_seg (s : State) (i : Nat) (g : Grant) : (s.setGrant i g).seg = s.seg := rfl
@[simp] theorem State.setGrant_scd (s : State) (i : Nat) (g : Grant) : (s.setGrant i g).scd = s.scd := rfl
@[simp] theorem State.setGrant_mem (s : State) (i : Nat) (g : Grant) : (s.setGrant i g).mem = s.mem := rfl
@[simp] theorem State.setGrant_lane (s : State) (i : Nat) (g : Grant) : (s.setGrant i g).lane = s.lane := rfl
@[simp] theorem State.setGrant_coh (s : State) (i : Nat) (g : Grant) : (s.setGrant i g).coh = s.coh := rfl
@[simp] theorem State.setGrant_rcx (s : State) (i : Nat) (g : Grant) : (s.setGrant i g).rcx = s.rcx := rfl
@[simp] theorem State.setGrant_eng (s : State) (i : Nat) (g : Grant) : (s.setGrant i g).eng = s.eng := rfl
@[simp] theorem State.setGrant_tier (s : State) (i : Nat) (g : Grant) : (s.setGrant i g).tier = s.tier := rfl
@[simp] theorem State.setGrant_net (s : State) (i : Nat) (g : Grant) : (s.setGrant i g).net = s.net := rfl
@[simp] theorem State.setGrant_lanes (s : State) (i : Nat) (g : Grant) : (s.setGrant i g).lanes = s.lanes := rfl
@[simp] theorem State.setGrant_fab (s : State) (i : Nat) (g : Grant) : (s.setGrant i g).fab = s.fab := rfl
@[simp] theorem State.setGrant_fw (s : State) (i : Nat) (g : Grant) : (s.setGrant i g).fw = s.fw := rfl
@[simp] theorem State.setGrant_pwr (s : State) (i : Nat) (g : Grant) : (s.setGrant i g).pwr = s.pwr := rfl
@[simp] theorem State.setGrant_due (s : State) (i : Nat) (g : Grant) : (s.setGrant i g).due = s.due := rfl
@[simp] theorem State.setGrant_timed (s : State) (i : Nat) (g : Grant) : (s.setGrant i g).timed = s.timed := rfl
@[simp] theorem State.setGrant_free (s : State) (i : Nat) (g : Grant) : (s.setGrant i g).free = s.free := rfl
@[simp] theorem State.setGrant_pending (s : State) (i : Nat) (g : Grant) : (s.setGrant i g).pending = s.pending := rfl

/-! ### updSegment -/

@[simp] theorem State.updSegment_time (s : State) (no : SegNo) (f : Segment → Segment) : (s.updSegment no f).time = s.time := rfl
@[simp] theorem State.updSegment_regs (s : State) (no : SegNo) (f : Segment → Segment) : (s.updSegment no f).regs = s.regs := rfl
@[simp] theorem State.updSegment_live (s : State) (no : SegNo) (f : Segment → Segment) : (s.updSegment no f).live = s.live := rfl
@[simp] theorem State.updSegment_acts (s : State) (no : SegNo) (f : Segment → Segment) : (s.updSegment no f).acts = s.acts := rfl
@[simp] theorem State.updSegment_scd (s : State) (no : SegNo) (f : Segment → Segment) : (s.updSegment no f).scd = s.scd := rfl
@[simp] theorem State.updSegment_mem (s : State) (no : SegNo) (f : Segment → Segment) : (s.updSegment no f).mem = s.mem := rfl
@[simp] theorem State.updSegment_lane (s : State) (no : SegNo) (f : Segment → Segment) : (s.updSegment no f).lane = s.lane := rfl
@[simp] theorem State.updSegment_coh (s : State) (no : SegNo) (f : Segment → Segment) : (s.updSegment no f).coh = s.coh := rfl
@[simp] theorem State.updSegment_rcx (s : State) (no : SegNo) (f : Segment → Segment) : (s.updSegment no f).rcx = s.rcx := rfl
@[simp] theorem State.updSegment_eng (s : State) (no : SegNo) (f : Segment → Segment) : (s.updSegment no f).eng = s.eng := rfl
@[simp] theorem State.updSegment_tier (s : State) (no : SegNo) (f : Segment → Segment) : (s.updSegment no f).tier = s.tier := rfl
@[simp] theorem State.updSegment_net (s : State) (no : SegNo) (f : Segment → Segment) : (s.updSegment no f).net = s.net := rfl
@[simp] theorem State.updSegment_lanes (s : State) (no : SegNo) (f : Segment → Segment) : (s.updSegment no f).lanes = s.lanes := rfl
@[simp] theorem State.updSegment_sec (s : State) (no : SegNo) (f : Segment → Segment) : (s.updSegment no f).sec = s.sec := rfl
@[simp] theorem State.updSegment_fab (s : State) (no : SegNo) (f : Segment → Segment) : (s.updSegment no f).fab = s.fab := rfl
@[simp] theorem State.updSegment_fw (s : State) (no : SegNo) (f : Segment → Segment) : (s.updSegment no f).fw = s.fw := rfl
@[simp] theorem State.updSegment_pwr (s : State) (no : SegNo) (f : Segment → Segment) : (s.updSegment no f).pwr = s.pwr := rfl
@[simp] theorem State.updSegment_due (s : State) (no : SegNo) (f : Segment → Segment) : (s.updSegment no f).due = s.due := rfl
@[simp] theorem State.updSegment_timed (s : State) (no : SegNo) (f : Segment → Segment) : (s.updSegment no f).timed = s.timed := rfl
@[simp] theorem State.updSegment_free (s : State) (no : SegNo) (f : Segment → Segment) : (s.updSegment no f).free = s.free := rfl
@[simp] theorem State.updSegment_pending (s : State) (no : SegNo) (f : Segment → Segment) : (s.updSegment no f).pending = s.pending := rfl

/-! ### event -/

@[simp] theorem State.event_time (s : State) (code sev kind unit : Nat) (args : List Nat) (status : Nat) (cy : Option Nat) : (s.event code sev kind unit args status cy).time = s.time := by
  unfold State.event; dsimp only; split <;> rfl
@[simp] theorem State.event_regs (s : State) (code sev kind unit : Nat) (args : List Nat) (status : Nat) (cy : Option Nat) : (s.event code sev kind unit args status cy).regs = s.regs := by
  unfold State.event; dsimp only; split <;> rfl
@[simp] theorem State.event_live (s : State) (code sev kind unit : Nat) (args : List Nat) (status : Nat) (cy : Option Nat) : (s.event code sev kind unit args status cy).live = s.live := by
  unfold State.event; dsimp only; split <;> rfl
@[simp] theorem State.event_acts (s : State) (code sev kind unit : Nat) (args : List Nat) (status : Nat) (cy : Option Nat) : (s.event code sev kind unit args status cy).acts = s.acts := by
  unfold State.event; dsimp only; split <;> rfl
@[simp] theorem State.event_seg (s : State) (code sev kind unit : Nat) (args : List Nat) (status : Nat) (cy : Option Nat) : (s.event code sev kind unit args status cy).seg = s.seg := by
  unfold State.event; dsimp only; split <;> rfl
@[simp] theorem State.event_scd (s : State) (code sev kind unit : Nat) (args : List Nat) (status : Nat) (cy : Option Nat) : (s.event code sev kind unit args status cy).scd = s.scd := by
  unfold State.event; dsimp only; split <;> rfl
@[simp] theorem State.event_mem (s : State) (code sev kind unit : Nat) (args : List Nat) (status : Nat) (cy : Option Nat) : (s.event code sev kind unit args status cy).mem = s.mem := by
  unfold State.event; dsimp only; split <;> rfl
@[simp] theorem State.event_lane (s : State) (code sev kind unit : Nat) (args : List Nat) (status : Nat) (cy : Option Nat) : (s.event code sev kind unit args status cy).lane = s.lane := by
  unfold State.event; dsimp only; split <;> rfl
@[simp] theorem State.event_coh (s : State) (code sev kind unit : Nat) (args : List Nat) (status : Nat) (cy : Option Nat) : (s.event code sev kind unit args status cy).coh = s.coh := by
  unfold State.event; dsimp only; split <;> rfl
@[simp] theorem State.event_rcx (s : State) (code sev kind unit : Nat) (args : List Nat) (status : Nat) (cy : Option Nat) : (s.event code sev kind unit args status cy).rcx = s.rcx := by
  unfold State.event; dsimp only; split <;> rfl
@[simp] theorem State.event_eng (s : State) (code sev kind unit : Nat) (args : List Nat) (status : Nat) (cy : Option Nat) : (s.event code sev kind unit args status cy).eng = s.eng := by
  unfold State.event; dsimp only; split <;> rfl
@[simp] theorem State.event_tier (s : State) (code sev kind unit : Nat) (args : List Nat) (status : Nat) (cy : Option Nat) : (s.event code sev kind unit args status cy).tier = s.tier := by
  unfold State.event; dsimp only; split <;> rfl
@[simp] theorem State.event_net (s : State) (code sev kind unit : Nat) (args : List Nat) (status : Nat) (cy : Option Nat) : (s.event code sev kind unit args status cy).net = s.net := by
  unfold State.event; dsimp only; split <;> rfl
@[simp] theorem State.event_lanes (s : State) (code sev kind unit : Nat) (args : List Nat) (status : Nat) (cy : Option Nat) : (s.event code sev kind unit args status cy).lanes = s.lanes := by
  unfold State.event; dsimp only; split <;> rfl
@[simp] theorem State.event_sec (s : State) (code sev kind unit : Nat) (args : List Nat) (status : Nat) (cy : Option Nat) : (s.event code sev kind unit args status cy).sec = s.sec := by
  unfold State.event; dsimp only; split <;> rfl
@[simp] theorem State.event_fab (s : State) (code sev kind unit : Nat) (args : List Nat) (status : Nat) (cy : Option Nat) : (s.event code sev kind unit args status cy).fab = s.fab := by
  unfold State.event; dsimp only; split <;> rfl
@[simp] theorem State.event_pwr (s : State) (code sev kind unit : Nat) (args : List Nat) (status : Nat) (cy : Option Nat) : (s.event code sev kind unit args status cy).pwr = s.pwr := by
  unfold State.event; dsimp only; split <;> rfl
@[simp] theorem State.event_due (s : State) (code sev kind unit : Nat) (args : List Nat) (status : Nat) (cy : Option Nat) : (s.event code sev kind unit args status cy).due = s.due := by
  unfold State.event; dsimp only; split <;> rfl
@[simp] theorem State.event_timed (s : State) (code sev kind unit : Nat) (args : List Nat) (status : Nat) (cy : Option Nat) : (s.event code sev kind unit args status cy).timed = s.timed := by
  unfold State.event; dsimp only; split <;> rfl
@[simp] theorem State.event_free (s : State) (code sev kind unit : Nat) (args : List Nat) (status : Nat) (cy : Option Nat) : (s.event code sev kind unit args status cy).free = s.free := by
  unfold State.event; dsimp only; split <;> rfl
@[simp] theorem State.event_pending (s : State) (code sev kind unit : Nat) (args : List Nat) (status : Nat) (cy : Option Nat) : (s.event code sev kind unit args status cy).pending = s.pending := by
  unfold State.event; dsimp only; split <;> rfl

/-! ### setRing -/

@[simp] theorem State.setRing_time (s : State) (q : Nat) (r : Ring) : (s.setRing q r).time = s.time := rfl
@[simp] theorem State.setRing_regs (s : State) (q : Nat) (r : Ring) : (s.setRing q r).regs = s.regs := rfl
@[simp] theorem State.setRing_live (s : State) (q : Nat) (r : Ring) : (s.setRing q r).live = s.live := rfl
@[simp] theorem State.setRing_acts (s : State) (q : Nat) (r : Ring) : (s.setRing q r).acts = s.acts := rfl
@[simp] theorem State.setRing_seg (s : State) (q : Nat) (r : Ring) : (s.setRing q r).seg = s.seg := rfl
@[simp] theorem State.setRing_scd (s : State) (q : Nat) (r : Ring) : (s.setRing q r).scd = s.scd := rfl
@[simp] theorem State.setRing_mem (s : State) (q : Nat) (r : Ring) : (s.setRing q r).mem = s.mem := rfl
@[simp] theorem State.setRing_lane (s : State) (q : Nat) (r : Ring) : (s.setRing q r).lane = s.lane := rfl
@[simp] theorem State.setRing_coh (s : State) (q : Nat) (r : Ring) : (s.setRing q r).coh = s.coh := rfl
@[simp] theorem State.setRing_rcx (s : State) (q : Nat) (r : Ring) : (s.setRing q r).rcx = s.rcx := rfl
@[simp] theorem State.setRing_eng (s : State) (q : Nat) (r : Ring) : (s.setRing q r).eng = s.eng := rfl
@[simp] theorem State.setRing_tier (s : State) (q : Nat) (r : Ring) : (s.setRing q r).tier = s.tier := rfl
@[simp] theorem State.setRing_net (s : State) (q : Nat) (r : Ring) : (s.setRing q r).net = s.net := rfl
@[simp] theorem State.setRing_lanes (s : State) (q : Nat) (r : Ring) : (s.setRing q r).lanes = s.lanes := rfl
@[simp] theorem State.setRing_sec (s : State) (q : Nat) (r : Ring) : (s.setRing q r).sec = s.sec := rfl
@[simp] theorem State.setRing_fab (s : State) (q : Nat) (r : Ring) : (s.setRing q r).fab = s.fab := rfl
@[simp] theorem State.setRing_pwr (s : State) (q : Nat) (r : Ring) : (s.setRing q r).pwr = s.pwr := rfl
@[simp] theorem State.setRing_due (s : State) (q : Nat) (r : Ring) : (s.setRing q r).due = s.due := rfl
@[simp] theorem State.setRing_timed (s : State) (q : Nat) (r : Ring) : (s.setRing q r).timed = s.timed := rfl
@[simp] theorem State.setRing_free (s : State) (q : Nat) (r : Ring) : (s.setRing q r).free = s.free := rfl
@[simp] theorem State.setRing_pending (s : State) (q : Nat) (r : Ring) : (s.setRing q r).pending = s.pending := rfl

/-! ### setReqQueue -/

@[simp] theorem State.setReqQueue_time (s : State) (k : Scd) (c : Nat) (qs : List QReq) : (s.setReqQueue k c qs).time = s.time := rfl
@[simp] theorem State.setReqQueue_regs (s : State) (k : Scd) (c : Nat) (qs : List QReq) : (s.setReqQueue k c qs).regs = s.regs := rfl
@[simp] theorem State.setReqQueue_live (s : State) (k : Scd) (c : Nat) (qs : List QReq) : (s.setReqQueue k c qs).live = s.live := rfl
@[simp] theorem State.setReqQueue_acts (s : State) (k : Scd) (c : Nat) (qs : List QReq) : (s.setReqQueue k c qs).acts = s.acts := rfl
@[simp] theorem State.setReqQueue_seg (s : State) (k : Scd) (c : Nat) (qs : List QReq) : (s.setReqQueue k c qs).seg = s.seg := rfl
@[simp] theorem State.setReqQueue_scd (s : State) (k : Scd) (c : Nat) (qs : List QReq) : (s.setReqQueue k c qs).scd = s.scd := rfl
@[simp] theorem State.setReqQueue_mem (s : State) (k : Scd) (c : Nat) (qs : List QReq) : (s.setReqQueue k c qs).mem = s.mem := rfl
@[simp] theorem State.setReqQueue_coh (s : State) (k : Scd) (c : Nat) (qs : List QReq) : (s.setReqQueue k c qs).coh = s.coh := rfl
@[simp] theorem State.setReqQueue_rcx (s : State) (k : Scd) (c : Nat) (qs : List QReq) : (s.setReqQueue k c qs).rcx = s.rcx := rfl
@[simp] theorem State.setReqQueue_eng (s : State) (k : Scd) (c : Nat) (qs : List QReq) : (s.setReqQueue k c qs).eng = s.eng := rfl
@[simp] theorem State.setReqQueue_tier (s : State) (k : Scd) (c : Nat) (qs : List QReq) : (s.setReqQueue k c qs).tier = s.tier := rfl
@[simp] theorem State.setReqQueue_net (s : State) (k : Scd) (c : Nat) (qs : List QReq) : (s.setReqQueue k c qs).net = s.net := rfl
@[simp] theorem State.setReqQueue_lanes (s : State) (k : Scd) (c : Nat) (qs : List QReq) : (s.setReqQueue k c qs).lanes = s.lanes := rfl
@[simp] theorem State.setReqQueue_sec (s : State) (k : Scd) (c : Nat) (qs : List QReq) : (s.setReqQueue k c qs).sec = s.sec := rfl
@[simp] theorem State.setReqQueue_fab (s : State) (k : Scd) (c : Nat) (qs : List QReq) : (s.setReqQueue k c qs).fab = s.fab := rfl
@[simp] theorem State.setReqQueue_fw (s : State) (k : Scd) (c : Nat) (qs : List QReq) : (s.setReqQueue k c qs).fw = s.fw := rfl
@[simp] theorem State.setReqQueue_pwr (s : State) (k : Scd) (c : Nat) (qs : List QReq) : (s.setReqQueue k c qs).pwr = s.pwr := rfl
@[simp] theorem State.setReqQueue_due (s : State) (k : Scd) (c : Nat) (qs : List QReq) : (s.setReqQueue k c qs).due = s.due := rfl
@[simp] theorem State.setReqQueue_timed (s : State) (k : Scd) (c : Nat) (qs : List QReq) : (s.setReqQueue k c qs).timed = s.timed := rfl
@[simp] theorem State.setReqQueue_free (s : State) (k : Scd) (c : Nat) (qs : List QReq) : (s.setReqQueue k c qs).free = s.free := rfl
@[simp] theorem State.setReqQueue_pending (s : State) (k : Scd) (c : Nat) (qs : List QReq) : (s.setReqQueue k c qs).pending = s.pending := rfl

/-! ### setFlow -/

@[simp] theorem State.setFlow_time (s : State) (i : Nat) (f : Flow) : (s.setFlow i f).time = s.time := rfl
@[simp] theorem State.setFlow_regs (s : State) (i : Nat) (f : Flow) : (s.setFlow i f).regs = s.regs := rfl
@[simp] theorem State.setFlow_live (s : State) (i : Nat) (f : Flow) : (s.setFlow i f).live = s.live := rfl
@[simp] theorem State.setFlow_acts (s : State) (i : Nat) (f : Flow) : (s.setFlow i f).acts = s.acts := rfl
@[simp] theorem State.setFlow_seg (s : State) (i : Nat) (f : Flow) : (s.setFlow i f).seg = s.seg := rfl
@[simp] theorem State.setFlow_scd (s : State) (i : Nat) (f : Flow) : (s.setFlow i f).scd = s.scd := rfl
@[simp] theorem State.setFlow_mem (s : State) (i : Nat) (f : Flow) : (s.setFlow i f).mem = s.mem := rfl
@[simp] theorem State.setFlow_lane (s : State) (i : Nat) (f : Flow) : (s.setFlow i f).lane = s.lane := rfl
@[simp] theorem State.setFlow_coh (s : State) (i : Nat) (f : Flow) : (s.setFlow i f).coh = s.coh := rfl
@[simp] theorem State.setFlow_rcx (s : State) (i : Nat) (f : Flow) : (s.setFlow i f).rcx = s.rcx := rfl
@[simp] theorem State.setFlow_eng (s : State) (i : Nat) (f : Flow) : (s.setFlow i f).eng = s.eng := rfl
@[simp] theorem State.setFlow_tier (s : State) (i : Nat) (f : Flow) : (s.setFlow i f).tier = s.tier := rfl
@[simp] theorem State.setFlow_lanes (s : State) (i : Nat) (f : Flow) : (s.setFlow i f).lanes = s.lanes := rfl
@[simp] theorem State.setFlow_sec (s : State) (i : Nat) (f : Flow) : (s.setFlow i f).sec = s.sec := rfl
@[simp] theorem State.setFlow_fab (s : State) (i : Nat) (f : Flow) : (s.setFlow i f).fab = s.fab := rfl
@[simp] theorem State.setFlow_fw (s : State) (i : Nat) (f : Flow) : (s.setFlow i f).fw = s.fw := rfl
@[simp] theorem State.setFlow_pwr (s : State) (i : Nat) (f : Flow) : (s.setFlow i f).pwr = s.pwr := rfl
@[simp] theorem State.setFlow_due (s : State) (i : Nat) (f : Flow) : (s.setFlow i f).due = s.due := rfl
@[simp] theorem State.setFlow_timed (s : State) (i : Nat) (f : Flow) : (s.setFlow i f).timed = s.timed := rfl
@[simp] theorem State.setFlow_free (s : State) (i : Nat) (f : Flow) : (s.setFlow i f).free = s.free := rfl
@[simp] theorem State.setFlow_pending (s : State) (i : Nat) (f : Flow) : (s.setFlow i f).pending = s.pending := rfl

/-! ### setCtx -/

@[simp] theorem State.setCtx_time (s : State) (k : Scd) (i : Nat) (c : CtxSt) : (s.setCtx k i c).time = s.time := rfl
@[simp] theorem State.setCtx_regs (s : State) (k : Scd) (i : Nat) (c : CtxSt) : (s.setCtx k i c).regs = s.regs := rfl
@[simp] theorem State.setCtx_live (s : State) (k : Scd) (i : Nat) (c : CtxSt) : (s.setCtx k i c).live = s.live := rfl
@[simp] theorem State.setCtx_acts (s : State) (k : Scd) (i : Nat) (c : CtxSt) : (s.setCtx k i c).acts = s.acts := rfl
@[simp] theorem State.setCtx_seg (s : State) (k : Scd) (i : Nat) (c : CtxSt) : (s.setCtx k i c).seg = s.seg := rfl
@[simp] theorem State.setCtx_scd (s : State) (k : Scd) (i : Nat) (c : CtxSt) : (s.setCtx k i c).scd = s.scd := rfl
@[simp] theorem State.setCtx_mem (s : State) (k : Scd) (i : Nat) (c : CtxSt) : (s.setCtx k i c).mem = s.mem := rfl
@[simp] theorem State.setCtx_lane (s : State) (k : Scd) (i : Nat) (c : CtxSt) : (s.setCtx k i c).lane = s.lane := rfl
@[simp] theorem State.setCtx_coh (s : State) (k : Scd) (i : Nat) (c : CtxSt) : (s.setCtx k i c).coh = s.coh := rfl
@[simp] theorem State.setCtx_eng (s : State) (k : Scd) (i : Nat) (c : CtxSt) : (s.setCtx k i c).eng = s.eng := rfl
@[simp] theorem State.setCtx_tier (s : State) (k : Scd) (i : Nat) (c : CtxSt) : (s.setCtx k i c).tier = s.tier := rfl
@[simp] theorem State.setCtx_net (s : State) (k : Scd) (i : Nat) (c : CtxSt) : (s.setCtx k i c).net = s.net := rfl
@[simp] theorem State.setCtx_lanes (s : State) (k : Scd) (i : Nat) (c : CtxSt) : (s.setCtx k i c).lanes = s.lanes := rfl
@[simp] theorem State.setCtx_sec (s : State) (k : Scd) (i : Nat) (c : CtxSt) : (s.setCtx k i c).sec = s.sec := rfl
@[simp] theorem State.setCtx_fab (s : State) (k : Scd) (i : Nat) (c : CtxSt) : (s.setCtx k i c).fab = s.fab := rfl
@[simp] theorem State.setCtx_fw (s : State) (k : Scd) (i : Nat) (c : CtxSt) : (s.setCtx k i c).fw = s.fw := rfl
@[simp] theorem State.setCtx_pwr (s : State) (k : Scd) (i : Nat) (c : CtxSt) : (s.setCtx k i c).pwr = s.pwr := rfl
@[simp] theorem State.setCtx_due (s : State) (k : Scd) (i : Nat) (c : CtxSt) : (s.setCtx k i c).due = s.due := rfl
@[simp] theorem State.setCtx_timed (s : State) (k : Scd) (i : Nat) (c : CtxSt) : (s.setCtx k i c).timed = s.timed := rfl
@[simp] theorem State.setCtx_free (s : State) (k : Scd) (i : Nat) (c : CtxSt) : (s.setCtx k i c).free = s.free := rfl
@[simp] theorem State.setCtx_pending (s : State) (k : Scd) (i : Nat) (c : CtxSt) : (s.setCtx k i c).pending = s.pending := rfl

/-! ### setEng -/

@[simp] theorem State.setEng_time (s : State) (o : EngOp) : (s.setEng o).time = s.time := rfl
@[simp] theorem State.setEng_regs (s : State) (o : EngOp) : (s.setEng o).regs = s.regs := rfl
@[simp] theorem State.setEng_live (s : State) (o : EngOp) : (s.setEng o).live = s.live := rfl
@[simp] theorem State.setEng_acts (s : State) (o : EngOp) : (s.setEng o).acts = s.acts := rfl
@[simp] theorem State.setEng_seg (s : State) (o : EngOp) : (s.setEng o).seg = s.seg := rfl
@[simp] theorem State.setEng_scd (s : State) (o : EngOp) : (s.setEng o).scd = s.scd := rfl
@[simp] theorem State.setEng_mem (s : State) (o : EngOp) : (s.setEng o).mem = s.mem := rfl
@[simp] theorem State.setEng_lane (s : State) (o : EngOp) : (s.setEng o).lane = s.lane := rfl
@[simp] theorem State.setEng_coh (s : State) (o : EngOp) : (s.setEng o).coh = s.coh := rfl
@[simp] theorem State.setEng_rcx (s : State) (o : EngOp) : (s.setEng o).rcx = s.rcx := rfl
@[simp] theorem State.setEng_tier (s : State) (o : EngOp) : (s.setEng o).tier = s.tier := rfl
@[simp] theorem State.setEng_net (s : State) (o : EngOp) : (s.setEng o).net = s.net := rfl
@[simp] theorem State.setEng_lanes (s : State) (o : EngOp) : (s.setEng o).lanes = s.lanes := rfl
@[simp] theorem State.setEng_sec (s : State) (o : EngOp) : (s.setEng o).sec = s.sec := rfl
@[simp] theorem State.setEng_fab (s : State) (o : EngOp) : (s.setEng o).fab = s.fab := rfl
@[simp] theorem State.setEng_fw (s : State) (o : EngOp) : (s.setEng o).fw = s.fw := rfl
@[simp] theorem State.setEng_pwr (s : State) (o : EngOp) : (s.setEng o).pwr = s.pwr := rfl
@[simp] theorem State.setEng_due (s : State) (o : EngOp) : (s.setEng o).due = s.due := rfl
@[simp] theorem State.setEng_timed (s : State) (o : EngOp) : (s.setEng o).timed = s.timed := rfl
@[simp] theorem State.setEng_free (s : State) (o : EngOp) : (s.setEng o).free = s.free := rfl
@[simp] theorem State.setEng_pending (s : State) (o : EngOp) : (s.setEng o).pending = s.pending := rfl

/-! ### putOp -/

@[simp] theorem State.putOp_time (s : State) (o : LaneOp) : (s.putOp o).time = s.time := rfl
@[simp] theorem State.putOp_regs (s : State) (o : LaneOp) : (s.putOp o).regs = s.regs := rfl
@[simp] theorem State.putOp_live (s : State) (o : LaneOp) : (s.putOp o).live = s.live := rfl
@[simp] theorem State.putOp_acts (s : State) (o : LaneOp) : (s.putOp o).acts = s.acts := rfl
@[simp] theorem State.putOp_seg (s : State) (o : LaneOp) : (s.putOp o).seg = s.seg := rfl
@[simp] theorem State.putOp_scd (s : State) (o : LaneOp) : (s.putOp o).scd = s.scd := rfl
@[simp] theorem State.putOp_mem (s : State) (o : LaneOp) : (s.putOp o).mem = s.mem := rfl
@[simp] theorem State.putOp_coh (s : State) (o : LaneOp) : (s.putOp o).coh = s.coh := rfl
@[simp] theorem State.putOp_rcx (s : State) (o : LaneOp) : (s.putOp o).rcx = s.rcx := rfl
@[simp] theorem State.putOp_eng (s : State) (o : LaneOp) : (s.putOp o).eng = s.eng := rfl
@[simp] theorem State.putOp_tier (s : State) (o : LaneOp) : (s.putOp o).tier = s.tier := rfl
@[simp] theorem State.putOp_net (s : State) (o : LaneOp) : (s.putOp o).net = s.net := rfl
@[simp] theorem State.putOp_lanes (s : State) (o : LaneOp) : (s.putOp o).lanes = s.lanes := rfl
@[simp] theorem State.putOp_sec (s : State) (o : LaneOp) : (s.putOp o).sec = s.sec := rfl
@[simp] theorem State.putOp_fab (s : State) (o : LaneOp) : (s.putOp o).fab = s.fab := rfl
@[simp] theorem State.putOp_fw (s : State) (o : LaneOp) : (s.putOp o).fw = s.fw := rfl
@[simp] theorem State.putOp_pwr (s : State) (o : LaneOp) : (s.putOp o).pwr = s.pwr := rfl
@[simp] theorem State.putOp_due (s : State) (o : LaneOp) : (s.putOp o).due = s.due := rfl
@[simp] theorem State.putOp_free (s : State) (o : LaneOp) : (s.putOp o).free = s.free := rfl
@[simp] theorem State.putOp_pending (s : State) (o : LaneOp) : (s.putOp o).pending = s.pending := rfl

/-! ### setOp -/

@[simp] theorem State.setOp_time (s : State) (o : LaneOp) : (s.setOp o).time = s.time := rfl
@[simp] theorem State.setOp_regs (s : State) (o : LaneOp) : (s.setOp o).regs = s.regs := rfl
@[simp] theorem State.setOp_live (s : State) (o : LaneOp) : (s.setOp o).live = s.live := rfl
@[simp] theorem State.setOp_acts (s : State) (o : LaneOp) : (s.setOp o).acts = s.acts := rfl
@[simp] theorem State.setOp_seg (s : State) (o : LaneOp) : (s.setOp o).seg = s.seg := rfl
@[simp] theorem State.setOp_scd (s : State) (o : LaneOp) : (s.setOp o).scd = s.scd := rfl
@[simp] theorem State.setOp_mem (s : State) (o : LaneOp) : (s.setOp o).mem = s.mem := rfl
@[simp] theorem State.setOp_coh (s : State) (o : LaneOp) : (s.setOp o).coh = s.coh := rfl
@[simp] theorem State.setOp_rcx (s : State) (o : LaneOp) : (s.setOp o).rcx = s.rcx := rfl
@[simp] theorem State.setOp_eng (s : State) (o : LaneOp) : (s.setOp o).eng = s.eng := rfl
@[simp] theorem State.setOp_tier (s : State) (o : LaneOp) : (s.setOp o).tier = s.tier := rfl
@[simp] theorem State.setOp_net (s : State) (o : LaneOp) : (s.setOp o).net = s.net := rfl
@[simp] theorem State.setOp_lanes (s : State) (o : LaneOp) : (s.setOp o).lanes = s.lanes := rfl
@[simp] theorem State.setOp_sec (s : State) (o : LaneOp) : (s.setOp o).sec = s.sec := rfl
@[simp] theorem State.setOp_fab (s : State) (o : LaneOp) : (s.setOp o).fab = s.fab := rfl
@[simp] theorem State.setOp_fw (s : State) (o : LaneOp) : (s.setOp o).fw = s.fw := rfl
@[simp] theorem State.setOp_pwr (s : State) (o : LaneOp) : (s.setOp o).pwr = s.pwr := rfl
@[simp] theorem State.setOp_due (s : State) (o : LaneOp) : (s.setOp o).due = s.due := rfl
@[simp] theorem State.setOp_timed (s : State) (o : LaneOp) : (s.setOp o).timed = s.timed := rfl
@[simp] theorem State.setOp_free (s : State) (o : LaneOp) : (s.setOp o).free = s.free := rfl
@[simp] theorem State.setOp_pending (s : State) (o : LaneOp) : (s.setOp o).pending = s.pending := rfl

/-! ### setTxn -/

@[simp] theorem State.setTxn_time (s : State) (t : Txn) : (s.setTxn t).time = s.time := rfl
@[simp] theorem State.setTxn_regs (s : State) (t : Txn) : (s.setTxn t).regs = s.regs := rfl
@[simp] theorem State.setTxn_live (s : State) (t : Txn) : (s.setTxn t).live = s.live := rfl
@[simp] theorem State.setTxn_acts (s : State) (t : Txn) : (s.setTxn t).acts = s.acts := rfl
@[simp] theorem State.setTxn_seg (s : State) (t : Txn) : (s.setTxn t).seg = s.seg := rfl
@[simp] theorem State.setTxn_scd (s : State) (t : Txn) : (s.setTxn t).scd = s.scd := rfl
@[simp] theorem State.setTxn_mem (s : State) (t : Txn) : (s.setTxn t).mem = s.mem := rfl
@[simp] theorem State.setTxn_lane (s : State) (t : Txn) : (s.setTxn t).lane = s.lane := rfl
@[simp] theorem State.setTxn_rcx (s : State) (t : Txn) : (s.setTxn t).rcx = s.rcx := rfl
@[simp] theorem State.setTxn_eng (s : State) (t : Txn) : (s.setTxn t).eng = s.eng := rfl
@[simp] theorem State.setTxn_tier (s : State) (t : Txn) : (s.setTxn t).tier = s.tier := rfl
@[simp] theorem State.setTxn_net (s : State) (t : Txn) : (s.setTxn t).net = s.net := rfl
@[simp] theorem State.setTxn_lanes (s : State) (t : Txn) : (s.setTxn t).lanes = s.lanes := rfl
@[simp] theorem State.setTxn_sec (s : State) (t : Txn) : (s.setTxn t).sec = s.sec := rfl
@[simp] theorem State.setTxn_fab (s : State) (t : Txn) : (s.setTxn t).fab = s.fab := rfl
@[simp] theorem State.setTxn_fw (s : State) (t : Txn) : (s.setTxn t).fw = s.fw := rfl
@[simp] theorem State.setTxn_pwr (s : State) (t : Txn) : (s.setTxn t).pwr = s.pwr := rfl
@[simp] theorem State.setTxn_due (s : State) (t : Txn) : (s.setTxn t).due = s.due := rfl
@[simp] theorem State.setTxn_timed (s : State) (t : Txn) : (s.setTxn t).timed = s.timed := rfl
@[simp] theorem State.setTxn_free (s : State) (t : Txn) : (s.setTxn t).free = s.free := rfl
@[simp] theorem State.setTxn_pending (s : State) (t : Txn) : (s.setTxn t).pending = s.pending := rfl

/-! ### setFwType -/

@[simp] theorem State.setFwType_time (s : State) (y : Nat) (x : FwType) : (s.setFwType y x).time = s.time := rfl
@[simp] theorem State.setFwType_regs (s : State) (y : Nat) (x : FwType) : (s.setFwType y x).regs = s.regs := rfl
@[simp] theorem State.setFwType_live (s : State) (y : Nat) (x : FwType) : (s.setFwType y x).live = s.live := rfl
@[simp] theorem State.setFwType_acts (s : State) (y : Nat) (x : FwType) : (s.setFwType y x).acts = s.acts := rfl
@[simp] theorem State.setFwType_seg (s : State) (y : Nat) (x : FwType) : (s.setFwType y x).seg = s.seg := rfl
@[simp] theorem State.setFwType_scd (s : State) (y : Nat) (x : FwType) : (s.setFwType y x).scd = s.scd := rfl
@[simp] theorem State.setFwType_mem (s : State) (y : Nat) (x : FwType) : (s.setFwType y x).mem = s.mem := rfl
@[simp] theorem State.setFwType_lane (s : State) (y : Nat) (x : FwType) : (s.setFwType y x).lane = s.lane := rfl
@[simp] theorem State.setFwType_coh (s : State) (y : Nat) (x : FwType) : (s.setFwType y x).coh = s.coh := rfl
@[simp] theorem State.setFwType_rcx (s : State) (y : Nat) (x : FwType) : (s.setFwType y x).rcx = s.rcx := rfl
@[simp] theorem State.setFwType_eng (s : State) (y : Nat) (x : FwType) : (s.setFwType y x).eng = s.eng := rfl
@[simp] theorem State.setFwType_tier (s : State) (y : Nat) (x : FwType) : (s.setFwType y x).tier = s.tier := rfl
@[simp] theorem State.setFwType_net (s : State) (y : Nat) (x : FwType) : (s.setFwType y x).net = s.net := rfl
@[simp] theorem State.setFwType_lanes (s : State) (y : Nat) (x : FwType) : (s.setFwType y x).lanes = s.lanes := rfl
@[simp] theorem State.setFwType_sec (s : State) (y : Nat) (x : FwType) : (s.setFwType y x).sec = s.sec := rfl
@[simp] theorem State.setFwType_fab (s : State) (y : Nat) (x : FwType) : (s.setFwType y x).fab = s.fab := rfl
@[simp] theorem State.setFwType_pwr (s : State) (y : Nat) (x : FwType) : (s.setFwType y x).pwr = s.pwr := rfl
@[simp] theorem State.setFwType_due (s : State) (y : Nat) (x : FwType) : (s.setFwType y x).due = s.due := rfl
@[simp] theorem State.setFwType_timed (s : State) (y : Nat) (x : FwType) : (s.setFwType y x).timed = s.timed := rfl
@[simp] theorem State.setFwType_free (s : State) (y : Nat) (x : FwType) : (s.setFwType y x).free = s.free := rfl
@[simp] theorem State.setFwType_pending (s : State) (y : Nat) (x : FwType) : (s.setFwType y x).pending = s.pending := rfl

/-! ### setJob -/

@[simp] theorem State.setJob_time (s : State) (j : TierJob) : (s.setJob j).time = s.time := rfl
@[simp] theorem State.setJob_regs (s : State) (j : TierJob) : (s.setJob j).regs = s.regs := rfl
@[simp] theorem State.setJob_live (s : State) (j : TierJob) : (s.setJob j).live = s.live := rfl
@[simp] theorem State.setJob_acts (s : State) (j : TierJob) : (s.setJob j).acts = s.acts := rfl
@[simp] theorem State.setJob_seg (s : State) (j : TierJob) : (s.setJob j).seg = s.seg := rfl
@[simp] theorem State.setJob_scd (s : State) (j : TierJob) : (s.setJob j).scd = s.scd := rfl
@[simp] theorem State.setJob_mem (s : State) (j : TierJob) : (s.setJob j).mem = s.mem := rfl
@[simp] theorem State.setJob_lane (s : State) (j : TierJob) : (s.setJob j).lane = s.lane := rfl
@[simp] theorem State.setJob_coh (s : State) (j : TierJob) : (s.setJob j).coh = s.coh := rfl
@[simp] theorem State.setJob_rcx (s : State) (j : TierJob) : (s.setJob j).rcx = s.rcx := rfl
@[simp] theorem State.setJob_eng (s : State) (j : TierJob) : (s.setJob j).eng = s.eng := rfl
@[simp] theorem State.setJob_net (s : State) (j : TierJob) : (s.setJob j).net = s.net := rfl
@[simp] theorem State.setJob_lanes (s : State) (j : TierJob) : (s.setJob j).lanes = s.lanes := rfl
@[simp] theorem State.setJob_sec (s : State) (j : TierJob) : (s.setJob j).sec = s.sec := rfl
@[simp] theorem State.setJob_fab (s : State) (j : TierJob) : (s.setJob j).fab = s.fab := rfl
@[simp] theorem State.setJob_fw (s : State) (j : TierJob) : (s.setJob j).fw = s.fw := rfl
@[simp] theorem State.setJob_pwr (s : State) (j : TierJob) : (s.setJob j).pwr = s.pwr := rfl
@[simp] theorem State.setJob_due (s : State) (j : TierJob) : (s.setJob j).due = s.due := rfl
@[simp] theorem State.setJob_timed (s : State) (j : TierJob) : (s.setJob j).timed = s.timed := rfl
@[simp] theorem State.setJob_free (s : State) (j : TierJob) : (s.setJob j).free = s.free := rfl
@[simp] theorem State.setJob_pending (s : State) (j : TierJob) : (s.setJob j).pending = s.pending := rfl

/-! ### setDirty -/

@[simp] theorem State.setDirty_time (s : State) (e : Extent) (p : Nat) (v : Bool) : (s.setDirty e p v).time = s.time := rfl
@[simp] theorem State.setDirty_regs (s : State) (e : Extent) (p : Nat) (v : Bool) : (s.setDirty e p v).regs = s.regs := rfl
@[simp] theorem State.setDirty_live (s : State) (e : Extent) (p : Nat) (v : Bool) : (s.setDirty e p v).live = s.live := rfl
@[simp] theorem State.setDirty_acts (s : State) (e : Extent) (p : Nat) (v : Bool) : (s.setDirty e p v).acts = s.acts := rfl
@[simp] theorem State.setDirty_seg (s : State) (e : Extent) (p : Nat) (v : Bool) : (s.setDirty e p v).seg = s.seg := rfl
@[simp] theorem State.setDirty_scd (s : State) (e : Extent) (p : Nat) (v : Bool) : (s.setDirty e p v).scd = s.scd := rfl
@[simp] theorem State.setDirty_mem (s : State) (e : Extent) (p : Nat) (v : Bool) : (s.setDirty e p v).mem = s.mem := rfl
@[simp] theorem State.setDirty_lane (s : State) (e : Extent) (p : Nat) (v : Bool) : (s.setDirty e p v).lane = s.lane := rfl
@[simp] theorem State.setDirty_coh (s : State) (e : Extent) (p : Nat) (v : Bool) : (s.setDirty e p v).coh = s.coh := rfl
@[simp] theorem State.setDirty_rcx (s : State) (e : Extent) (p : Nat) (v : Bool) : (s.setDirty e p v).rcx = s.rcx := rfl
@[simp] theorem State.setDirty_eng (s : State) (e : Extent) (p : Nat) (v : Bool) : (s.setDirty e p v).eng = s.eng := rfl
@[simp] theorem State.setDirty_net (s : State) (e : Extent) (p : Nat) (v : Bool) : (s.setDirty e p v).net = s.net := rfl
@[simp] theorem State.setDirty_lanes (s : State) (e : Extent) (p : Nat) (v : Bool) : (s.setDirty e p v).lanes = s.lanes := rfl
@[simp] theorem State.setDirty_sec (s : State) (e : Extent) (p : Nat) (v : Bool) : (s.setDirty e p v).sec = s.sec := rfl
@[simp] theorem State.setDirty_fab (s : State) (e : Extent) (p : Nat) (v : Bool) : (s.setDirty e p v).fab = s.fab := rfl
@[simp] theorem State.setDirty_fw (s : State) (e : Extent) (p : Nat) (v : Bool) : (s.setDirty e p v).fw = s.fw := rfl
@[simp] theorem State.setDirty_pwr (s : State) (e : Extent) (p : Nat) (v : Bool) : (s.setDirty e p v).pwr = s.pwr := rfl
@[simp] theorem State.setDirty_due (s : State) (e : Extent) (p : Nat) (v : Bool) : (s.setDirty e p v).due = s.due := rfl
@[simp] theorem State.setDirty_timed (s : State) (e : Extent) (p : Nat) (v : Bool) : (s.setDirty e p v).timed = s.timed := rfl
@[simp] theorem State.setDirty_free (s : State) (e : Extent) (p : Nat) (v : Bool) : (s.setDirty e p v).free = s.free := rfl
@[simp] theorem State.setDirty_pending (s : State) (e : Extent) (p : Nat) (v : Bool) : (s.setDirty e p v).pending = s.pending := rfl

/-! ### setExtState -/

@[simp] theorem State.setExtState_time (s : State) (x st : Nat) : (s.setExtState x st).time = s.time := rfl
@[simp] theorem State.setExtState_regs (s : State) (x st : Nat) : (s.setExtState x st).regs = s.regs := rfl
@[simp] theorem State.setExtState_live (s : State) (x st : Nat) : (s.setExtState x st).live = s.live := rfl
@[simp] theorem State.setExtState_acts (s : State) (x st : Nat) : (s.setExtState x st).acts = s.acts := rfl
@[simp] theorem State.setExtState_seg (s : State) (x st : Nat) : (s.setExtState x st).seg = s.seg := rfl
@[simp] theorem State.setExtState_scd (s : State) (x st : Nat) : (s.setExtState x st).scd = s.scd := rfl
@[simp] theorem State.setExtState_mem (s : State) (x st : Nat) : (s.setExtState x st).mem = s.mem := rfl
@[simp] theorem State.setExtState_lane (s : State) (x st : Nat) : (s.setExtState x st).lane = s.lane := rfl
@[simp] theorem State.setExtState_coh (s : State) (x st : Nat) : (s.setExtState x st).coh = s.coh := rfl
@[simp] theorem State.setExtState_rcx (s : State) (x st : Nat) : (s.setExtState x st).rcx = s.rcx := rfl
@[simp] theorem State.setExtState_eng (s : State) (x st : Nat) : (s.setExtState x st).eng = s.eng := rfl
@[simp] theorem State.setExtState_net (s : State) (x st : Nat) : (s.setExtState x st).net = s.net := rfl
@[simp] theorem State.setExtState_lanes (s : State) (x st : Nat) : (s.setExtState x st).lanes = s.lanes := rfl
@[simp] theorem State.setExtState_sec (s : State) (x st : Nat) : (s.setExtState x st).sec = s.sec := rfl
@[simp] theorem State.setExtState_fab (s : State) (x st : Nat) : (s.setExtState x st).fab = s.fab := rfl
@[simp] theorem State.setExtState_fw (s : State) (x st : Nat) : (s.setExtState x st).fw = s.fw := rfl
@[simp] theorem State.setExtState_pwr (s : State) (x st : Nat) : (s.setExtState x st).pwr = s.pwr := rfl
@[simp] theorem State.setExtState_due (s : State) (x st : Nat) : (s.setExtState x st).due = s.due := rfl
@[simp] theorem State.setExtState_timed (s : State) (x st : Nat) : (s.setExtState x st).timed = s.timed := rfl
@[simp] theorem State.setExtState_free (s : State) (x st : Nat) : (s.setExtState x st).free = s.free := rfl
@[simp] theorem State.setExtState_pending (s : State) (x st : Nat) : (s.setExtState x st).pending = s.pending := rfl

/-! ### setEntry -/

@[simp] theorem State.setEntry_time (s : State) (line : Nat) (e : Option DirEntry) : (s.setEntry line e).time = s.time := rfl
@[simp] theorem State.setEntry_regs (s : State) (line : Nat) (e : Option DirEntry) : (s.setEntry line e).regs = s.regs := rfl
@[simp] theorem State.setEntry_live (s : State) (line : Nat) (e : Option DirEntry) : (s.setEntry line e).live = s.live := rfl
@[simp] theorem State.setEntry_acts (s : State) (line : Nat) (e : Option DirEntry) : (s.setEntry line e).acts = s.acts := rfl
@[simp] theorem State.setEntry_seg (s : State) (line : Nat) (e : Option DirEntry) : (s.setEntry line e).seg = s.seg := rfl
@[simp] theorem State.setEntry_scd (s : State) (line : Nat) (e : Option DirEntry) : (s.setEntry line e).scd = s.scd := rfl
@[simp] theorem State.setEntry_mem (s : State) (line : Nat) (e : Option DirEntry) : (s.setEntry line e).mem = s.mem := rfl
@[simp] theorem State.setEntry_lane (s : State) (line : Nat) (e : Option DirEntry) : (s.setEntry line e).lane = s.lane := rfl
@[simp] theorem State.setEntry_rcx (s : State) (line : Nat) (e : Option DirEntry) : (s.setEntry line e).rcx = s.rcx := rfl
@[simp] theorem State.setEntry_eng (s : State) (line : Nat) (e : Option DirEntry) : (s.setEntry line e).eng = s.eng := rfl
@[simp] theorem State.setEntry_tier (s : State) (line : Nat) (e : Option DirEntry) : (s.setEntry line e).tier = s.tier := rfl
@[simp] theorem State.setEntry_net (s : State) (line : Nat) (e : Option DirEntry) : (s.setEntry line e).net = s.net := rfl
@[simp] theorem State.setEntry_lanes (s : State) (line : Nat) (e : Option DirEntry) : (s.setEntry line e).lanes = s.lanes := rfl
@[simp] theorem State.setEntry_sec (s : State) (line : Nat) (e : Option DirEntry) : (s.setEntry line e).sec = s.sec := rfl
@[simp] theorem State.setEntry_fab (s : State) (line : Nat) (e : Option DirEntry) : (s.setEntry line e).fab = s.fab := rfl
@[simp] theorem State.setEntry_fw (s : State) (line : Nat) (e : Option DirEntry) : (s.setEntry line e).fw = s.fw := rfl
@[simp] theorem State.setEntry_pwr (s : State) (line : Nat) (e : Option DirEntry) : (s.setEntry line e).pwr = s.pwr := rfl
@[simp] theorem State.setEntry_due (s : State) (line : Nat) (e : Option DirEntry) : (s.setEntry line e).due = s.due := rfl
@[simp] theorem State.setEntry_timed (s : State) (line : Nat) (e : Option DirEntry) : (s.setEntry line e).timed = s.timed := rfl
@[simp] theorem State.setEntry_free (s : State) (line : Nat) (e : Option DirEntry) : (s.setEntry line e).free = s.free := rfl
@[simp] theorem State.setEntry_pending (s : State) (line : Nat) (e : Option DirEntry) : (s.setEntry line e).pending = s.pending := rfl

/-! ### Parts of the group that an update changes -/

@[simp] theorem State.bankWrite_mem_wbuf (s : State) (ws : List (Nat × Byte)) : (s.bankWrite ws).mem.wbuf = s.mem.wbuf := rfl
@[simp] theorem State.bankWrite_mem_scache (s : State) (ws : List (Nat × Byte)) : (s.bankWrite ws).mem.scache = s.mem.scache := rfl
@[simp] theorem State.bankWrite_mem_rewrite (s : State) (ws : List (Nat × Byte)) : (s.bankWrite ws).mem.rewrite = s.mem.rewrite := rfl
@[simp] theorem State.bankWrite_mem_inval (s : State) (ws : List (Nat × Byte)) : (s.bankWrite ws).mem.inval = s.mem.inval := rfl
@[simp] theorem State.bankWrite_tier_ext (s : State) (ws : List (Nat × Byte)) : (s.bankWrite ws).tier.ext = s.tier.ext := rfl
@[simp] theorem State.bankWrite_tier_jobs (s : State) (ws : List (Nat × Byte)) : (s.bankWrite ws).tier.jobs = s.tier.jobs := rfl
@[simp] theorem State.bankWrite_tier_cold (s : State) (ws : List (Nat × Byte)) : (s.bankWrite ws).tier.cold = s.tier.cold := rfl
@[simp] theorem State.bankWrite_tier_mapped (s : State) (ws : List (Nat × Byte)) : (s.bankWrite ws).tier.mapped = s.tier.mapped := rfl
@[simp] theorem State.bankWrite_tier_journal (s : State) (ws : List (Nat × Byte)) : (s.bankWrite ws).tier.journal = s.tier.journal := rfl
@[simp] theorem State.bankWrite_tier_trays (s : State) (ws : List (Nat × Byte)) : (s.bankWrite ws).tier.trays = s.tier.trays := rfl
@[simp] theorem State.bankWrite_tier_located (s : State) (ws : List (Nat × Byte)) : (s.bankWrite ws).tier.located = s.tier.located := rfl
@[simp] theorem State.bankWrite_tier_moving (s : State) (ws : List (Nat × Byte)) : (s.bankWrite ws).tier.moving = s.tier.moving := rfl
@[simp] theorem State.bankWrite_tier_starved (s : State) (ws : List (Nat × Byte)) : (s.bankWrite ws).tier.starved = s.tier.starved := rfl
@[simp] theorem State.bankWrite_tier_collecting (s : State) (ws : List (Nat × Byte)) : (s.bankWrite ws).tier.collecting = s.tier.collecting := rfl
@[simp] theorem State.bankWrite_tier_ftl (s : State) (ws : List (Nat × Byte)) : (s.bankWrite ws).tier.ftl = s.tier.ftl := rfl
@[simp] theorem State.bankWrite_tier_bases (s : State) (ws : List (Nat × Byte)) : (s.bankWrite ws).tier.bases = s.tier.bases := rfl
@[simp] theorem State.bankWrite_tier_waiting (s : State) (ws : List (Nat × Byte)) : (s.bankWrite ws).tier.waiting = s.tier.waiting := rfl
@[simp] theorem State.bankWrite_tier_bad (s : State) (ws : List (Nat × Byte)) : (s.bankWrite ws).tier.bad = s.tier.bad := rfl
@[simp] theorem State.bankWrite_tier_coldCap (s : State) (ws : List (Nat × Byte)) : (s.bankWrite ws).tier.coldCap = s.tier.coldCap := rfl
@[simp] theorem State.store_mem_wbuf (s : State) (a : Nat) (bs : List Byte) : (s.store a bs).mem.wbuf = s.mem.wbuf := rfl
@[simp] theorem State.store_mem_scache (s : State) (a : Nat) (bs : List Byte) : (s.store a bs).mem.scache = s.mem.scache := rfl
@[simp] theorem State.store_mem_rewrite (s : State) (a : Nat) (bs : List Byte) : (s.store a bs).mem.rewrite = s.mem.rewrite := rfl
@[simp] theorem State.store_mem_inval (s : State) (a : Nat) (bs : List Byte) : (s.store a bs).mem.inval = s.mem.inval := rfl
@[simp] theorem State.store_tier_ext (s : State) (a : Nat) (bs : List Byte) : (s.store a bs).tier.ext = s.tier.ext := rfl
@[simp] theorem State.store_tier_jobs (s : State) (a : Nat) (bs : List Byte) : (s.store a bs).tier.jobs = s.tier.jobs := rfl
@[simp] theorem State.store_tier_cold (s : State) (a : Nat) (bs : List Byte) : (s.store a bs).tier.cold = s.tier.cold := rfl
@[simp] theorem State.store_tier_mapped (s : State) (a : Nat) (bs : List Byte) : (s.store a bs).tier.mapped = s.tier.mapped := rfl
@[simp] theorem State.store_tier_journal (s : State) (a : Nat) (bs : List Byte) : (s.store a bs).tier.journal = s.tier.journal := rfl
@[simp] theorem State.store_tier_trays (s : State) (a : Nat) (bs : List Byte) : (s.store a bs).tier.trays = s.tier.trays := rfl
@[simp] theorem State.store_tier_located (s : State) (a : Nat) (bs : List Byte) : (s.store a bs).tier.located = s.tier.located := rfl
@[simp] theorem State.store_tier_moving (s : State) (a : Nat) (bs : List Byte) : (s.store a bs).tier.moving = s.tier.moving := rfl
@[simp] theorem State.store_tier_starved (s : State) (a : Nat) (bs : List Byte) : (s.store a bs).tier.starved = s.tier.starved := rfl
@[simp] theorem State.store_tier_collecting (s : State) (a : Nat) (bs : List Byte) : (s.store a bs).tier.collecting = s.tier.collecting := rfl
@[simp] theorem State.store_tier_ftl (s : State) (a : Nat) (bs : List Byte) : (s.store a bs).tier.ftl = s.tier.ftl := rfl
@[simp] theorem State.store_tier_bases (s : State) (a : Nat) (bs : List Byte) : (s.store a bs).tier.bases = s.tier.bases := rfl
@[simp] theorem State.store_tier_waiting (s : State) (a : Nat) (bs : List Byte) : (s.store a bs).tier.waiting = s.tier.waiting := rfl
@[simp] theorem State.store_tier_bad (s : State) (a : Nat) (bs : List Byte) : (s.store a bs).tier.bad = s.tier.bad := rfl
@[simp] theorem State.store_tier_coldCap (s : State) (a : Nat) (bs : List Byte) : (s.store a bs).tier.coldCap = s.tier.coldCap := rfl
@[simp] theorem State.cacheUpdate_mem_bytes (s : State) (ws : List (Nat × Byte)) : (s.cacheUpdate ws).mem.bytes = s.mem.bytes := rfl
@[simp] theorem State.cacheUpdate_mem_wbuf (s : State) (ws : List (Nat × Byte)) : (s.cacheUpdate ws).mem.wbuf = s.mem.wbuf := rfl
@[simp] theorem State.cacheUpdate_mem_uncorr (s : State) (ws : List (Nat × Byte)) : (s.cacheUpdate ws).mem.uncorr = s.mem.uncorr := rfl
@[simp] theorem State.cacheUpdate_mem_soft (s : State) (ws : List (Nat × Byte)) : (s.cacheUpdate ws).mem.soft = s.mem.soft := rfl
@[simp] theorem State.cacheUpdate_mem_rewrite (s : State) (ws : List (Nat × Byte)) : (s.cacheUpdate ws).mem.rewrite = s.mem.rewrite := rfl
@[simp] theorem State.cacheUpdate_mem_inval (s : State) (ws : List (Nat × Byte)) : (s.cacheUpdate ws).mem.inval = s.mem.inval := rfl
@[simp] theorem State.cacheDrop_mem_bytes (s : State) (line : Nat) : (s.cacheDrop line).mem.bytes = s.mem.bytes := rfl
@[simp] theorem State.cacheDrop_mem_wbuf (s : State) (line : Nat) : (s.cacheDrop line).mem.wbuf = s.mem.wbuf := rfl
@[simp] theorem State.cacheDrop_mem_uncorr (s : State) (line : Nat) : (s.cacheDrop line).mem.uncorr = s.mem.uncorr := rfl
@[simp] theorem State.cacheDrop_mem_soft (s : State) (line : Nat) : (s.cacheDrop line).mem.soft = s.mem.soft := rfl
@[simp] theorem State.cacheDrop_mem_rewrite (s : State) (line : Nat) : (s.cacheDrop line).mem.rewrite = s.mem.rewrite := rfl
@[simp] theorem State.cacheDrop_mem_inval (s : State) (line : Nat) : (s.cacheDrop line).mem.inval = s.mem.inval := rfl
@[simp] theorem State.overtake_mem_bytes (s : State) (w : WBuf) : (s.overtake w).mem.bytes = s.mem.bytes := rfl
@[simp] theorem State.overtake_mem_scache (s : State) (w : WBuf) : (s.overtake w).mem.scache = s.mem.scache := rfl
@[simp] theorem State.overtake_mem_uncorr (s : State) (w : WBuf) : (s.overtake w).mem.uncorr = s.mem.uncorr := rfl
@[simp] theorem State.overtake_mem_soft (s : State) (w : WBuf) : (s.overtake w).mem.soft = s.mem.soft := rfl
@[simp] theorem State.overtake_mem_rewrite (s : State) (w : WBuf) : (s.overtake w).mem.rewrite = s.mem.rewrite := rfl
@[simp] theorem State.overtake_mem_inval (s : State) (w : WBuf) : (s.overtake w).mem.inval = s.mem.inval := rfl
@[simp] theorem State.sramRewrite_mem_bytes (s : State) : (s.sramRewrite).mem.bytes = s.mem.bytes := rfl
@[simp] theorem State.sramRewrite_mem_wbuf (s : State) : (s.sramRewrite).mem.wbuf = s.mem.wbuf := rfl
@[simp] theorem State.sramRewrite_mem_scache (s : State) : (s.sramRewrite).mem.scache = s.mem.scache := rfl
@[simp] theorem State.sramRewrite_mem_uncorr (s : State) : (s.sramRewrite).mem.uncorr = s.mem.uncorr := rfl
@[simp] theorem State.sramRewrite_mem_inval (s : State) : (s.sramRewrite).mem.inval = s.mem.inval := rfl
@[simp] theorem State.setTenant_sec_slots (s : State) (t : Tenant) (x : TenantRec) : (s.setTenant t x).sec.slots = s.sec.slots := rfl
@[simp] theorem State.setTenant_sec_grants (s : State) (t : Tenant) (x : TenantRec) : (s.setTenant t x).sec.grants = s.sec.grants := rfl
@[simp] theorem State.setTenant_sec_sessions (s : State) (t : Tenant) (x : TenantRec) : (s.setTenant t x).sec.sessions = s.sec.sessions := rfl
@[simp] theorem State.setTenant_sec_badGrant (s : State) (t : Tenant) (x : TenantRec) : (s.setTenant t x).sec.badGrant = s.sec.badGrant := rfl
@[simp] theorem State.setTenant_sec_removals (s : State) (t : Tenant) (x : TenantRec) : (s.setTenant t x).sec.removals = s.sec.removals := rfl
@[simp] theorem State.setTenant_sec_svnMin (s : State) (t : Tenant) (x : TenantRec) : (s.setTenant t x).sec.svnMin = s.sec.svnMin := rfl
@[simp] theorem State.setTenant_sec_edRoot (s : State) (t : Tenant) (x : TenantRec) : (s.setTenant t x).sec.edRoot = s.sec.edRoot := rfl
@[simp] theorem State.setTenant_sec_mlRoot (s : State) (t : Tenant) (x : TenantRec) : (s.setTenant t x).sec.mlRoot = s.sec.mlRoot := rfl
@[simp] theorem State.setTenant_sec_serial (s : State) (t : Tenant) (x : TenantRec) : (s.setTenant t x).sec.serial = s.sec.serial := rfl
@[simp] theorem State.setTenant_sec_variant (s : State) (t : Tenant) (x : TenantRec) : (s.setTenant t x).sec.variant = s.sec.variant := rfl
@[simp] theorem State.setTenant_sec_stepLetter (s : State) (t : Tenant) (x : TenantRec) : (s.setTenant t x).sec.stepLetter = s.sec.stepLetter := rfl
@[simp] theorem State.setTenant_sec_stepDigit (s : State) (t : Tenant) (x : TenantRec) : (s.setTenant t x).sec.stepDigit = s.sec.stepDigit := rfl
@[simp] theorem State.setTenant_sec_edIdent (s : State) (t : Tenant) (x : TenantRec) : (s.setTenant t x).sec.edIdent = s.sec.edIdent := rfl
@[simp] theorem State.setTenant_sec_mlIdent (s : State) (t : Tenant) (x : TenantRec) : (s.setTenant t x).sec.mlIdent = s.sec.mlIdent := rfl
@[simp] theorem State.setSlot_sec_tenants (s : State) (i : Nat) (x : KeySlot) : (s.setSlot i x).sec.tenants = s.sec.tenants := rfl
@[simp] theorem State.setSlot_sec_grants (s : State) (i : Nat) (x : KeySlot) : (s.setSlot i x).sec.grants = s.sec.grants := rfl
@[simp] theorem State.setSlot_sec_sessions (s : State) (i : Nat) (x : KeySlot) : (s.setSlot i x).sec.sessions = s.sec.sessions := rfl
@[simp] theorem State.setSlot_sec_badGrant (s : State) (i : Nat) (x : KeySlot) : (s.setSlot i x).sec.badGrant = s.sec.badGrant := rfl
@[simp] theorem State.setSlot_sec_removals (s : State) (i : Nat) (x : KeySlot) : (s.setSlot i x).sec.removals = s.sec.removals := rfl
@[simp] theorem State.setSlot_sec_svnMin (s : State) (i : Nat) (x : KeySlot) : (s.setSlot i x).sec.svnMin = s.sec.svnMin := rfl
@[simp] theorem State.setSlot_sec_edRoot (s : State) (i : Nat) (x : KeySlot) : (s.setSlot i x).sec.edRoot = s.sec.edRoot := rfl
@[simp] theorem State.setSlot_sec_mlRoot (s : State) (i : Nat) (x : KeySlot) : (s.setSlot i x).sec.mlRoot = s.sec.mlRoot := rfl
@[simp] theorem State.setSlot_sec_serial (s : State) (i : Nat) (x : KeySlot) : (s.setSlot i x).sec.serial = s.sec.serial := rfl
@[simp] theorem State.setSlot_sec_variant (s : State) (i : Nat) (x : KeySlot) : (s.setSlot i x).sec.variant = s.sec.variant := rfl
@[simp] theorem State.setSlot_sec_stepLetter (s : State) (i : Nat) (x : KeySlot) : (s.setSlot i x).sec.stepLetter = s.sec.stepLetter := rfl
@[simp] theorem State.setSlot_sec_stepDigit (s : State) (i : Nat) (x : KeySlot) : (s.setSlot i x).sec.stepDigit = s.sec.stepDigit := rfl
@[simp] theorem State.setSlot_sec_edIdent (s : State) (i : Nat) (x : KeySlot) : (s.setSlot i x).sec.edIdent = s.sec.edIdent := rfl
@[simp] theorem State.setSlot_sec_mlIdent (s : State) (i : Nat) (x : KeySlot) : (s.setSlot i x).sec.mlIdent = s.sec.mlIdent := rfl
@[simp] theorem State.setGrant_sec_tenants (s : State) (i : Nat) (g : Grant) : (s.setGrant i g).sec.tenants = s.sec.tenants := rfl
@[simp] theorem State.setGrant_sec_slots (s : State) (i : Nat) (g : Grant) : (s.setGrant i g).sec.slots = s.sec.slots := rfl
@[simp] theorem State.setGrant_sec_sessions (s : State) (i : Nat) (g : Grant) : (s.setGrant i g).sec.sessions = s.sec.sessions := rfl
@[simp] theorem State.setGrant_sec_badGrant (s : State) (i : Nat) (g : Grant) : (s.setGrant i g).sec.badGrant = s.sec.badGrant := rfl
@[simp] theorem State.setGrant_sec_removals (s : State) (i : Nat) (g : Grant) : (s.setGrant i g).sec.removals = s.sec.removals := rfl
@[simp] theorem State.setGrant_sec_svnMin (s : State) (i : Nat) (g : Grant) : (s.setGrant i g).sec.svnMin = s.sec.svnMin := rfl
@[simp] theorem State.setGrant_sec_edRoot (s : State) (i : Nat) (g : Grant) : (s.setGrant i g).sec.edRoot = s.sec.edRoot := rfl
@[simp] theorem State.setGrant_sec_mlRoot (s : State) (i : Nat) (g : Grant) : (s.setGrant i g).sec.mlRoot = s.sec.mlRoot := rfl
@[simp] theorem State.setGrant_sec_serial (s : State) (i : Nat) (g : Grant) : (s.setGrant i g).sec.serial = s.sec.serial := rfl
@[simp] theorem State.setGrant_sec_variant (s : State) (i : Nat) (g : Grant) : (s.setGrant i g).sec.variant = s.sec.variant := rfl
@[simp] theorem State.setGrant_sec_stepLetter (s : State) (i : Nat) (g : Grant) : (s.setGrant i g).sec.stepLetter = s.sec.stepLetter := rfl
@[simp] theorem State.setGrant_sec_stepDigit (s : State) (i : Nat) (g : Grant) : (s.setGrant i g).sec.stepDigit = s.sec.stepDigit := rfl
@[simp] theorem State.setGrant_sec_edIdent (s : State) (i : Nat) (g : Grant) : (s.setGrant i g).sec.edIdent = s.sec.edIdent := rfl
@[simp] theorem State.setGrant_sec_mlIdent (s : State) (i : Nat) (g : Grant) : (s.setGrant i g).sec.mlIdent = s.sec.mlIdent := rfl
@[simp] theorem State.setRing_fw_running (s : State) (q : Nat) (r : Ring) : (s.setRing q r).fw.running = s.fw.running := rfl
@[simp] theorem State.setRing_fw_loads (s : State) (q : Nat) (r : Ring) : (s.setRing q r).fw.loads = s.fw.loads := rfl
@[simp] theorem State.setRing_fw_types (s : State) (q : Nat) (r : Ring) : (s.setRing q r).fw.types = s.fw.types := rfl
@[simp] theorem State.setRing_fw_expired (s : State) (q : Nat) (r : Ring) : (s.setRing q r).fw.expired = s.fw.expired := rfl
@[simp] theorem State.setRing_fw_logSeq (s : State) (q : Nat) (r : Ring) : (s.setRing q r).fw.logSeq = s.fw.logSeq := rfl
@[simp] theorem State.setRing_fw_evSeq (s : State) (q : Nat) (r : Ring) : (s.setRing q r).fw.evSeq = s.fw.evSeq := rfl
@[simp] theorem State.setRing_fw_events (s : State) (q : Nat) (r : Ring) : (s.setRing q r).fw.events = s.fw.events := rfl
@[simp] theorem State.setRing_fw_evOnce (s : State) (q : Nat) (r : Ring) : (s.setRing q r).fw.evOnce = s.fw.evOnce := rfl
@[simp] theorem State.setRing_fw_disabling (s : State) (q : Nat) (r : Ring) : (s.setRing q r).fw.disabling = s.fw.disabling := rfl
@[simp] theorem State.setRing_fw_nextRing (s : State) (q : Nat) (r : Ring) : (s.setRing q r).fw.nextRing = s.fw.nextRing := rfl
@[simp] theorem State.setV_scd_s (s : State) (k : Scd) (r : BitVec 6) (x : Vec) : (s.setV k r x).scd.s = s.scd.s := rfl
@[simp] theorem State.setV_scd_p (s : State) (k : Scd) (r : BitVec 6) (x : Vec) : (s.setV k r x).scd.p = s.scd.p := rfl
@[simp] theorem State.setV_scd_x (s : State) (k : Scd) (r : BitVec 6) (x : Vec) : (s.setV k r x).scd.x = s.scd.x := rfl
@[simp] theorem State.setV_scd_gen (s : State) (k : Scd) (r : BitVec 6) (x : Vec) : (s.setV k r x).scd.gen = s.scd.gen := rfl
@[simp] theorem State.setV_scd_queries (s : State) (k : Scd) (r : BitVec 6) (x : Vec) : (s.setV k r x).scd.queries = s.scd.queries := rfl
@[simp] theorem State.setV_scd_tiles (s : State) (k : Scd) (r : BitVec 6) (x : Vec) : (s.setV k r x).scd.tiles = s.scd.tiles := rfl
@[simp] theorem State.setV_scd_ranks (s : State) (k : Scd) (r : BitVec 6) (x : Vec) : (s.setV k r x).scd.ranks = s.scd.ranks := rfl
@[simp] theorem State.setV_scd_tainted (s : State) (k : Scd) (r : BitVec 6) (x : Vec) : (s.setV k r x).scd.tainted = s.scd.tainted := rfl
@[simp] theorem State.setV_scd_reported (s : State) (k : Scd) (r : BitVec 6) (x : Vec) : (s.setV k r x).scd.reported = s.scd.reported := rfl
@[simp] theorem State.setV_scd_ctr (s : State) (k : Scd) (r : BitVec 6) (x : Vec) : (s.setV k r x).scd.ctr = s.scd.ctr := rfl
@[simp] theorem State.setV_scd_layout31 (s : State) (k : Scd) (r : BitVec 6) (x : Vec) : (s.setV k r x).scd.layout31 = s.scd.layout31 := rfl
@[simp] theorem State.setP_scd_v (s : State) (k : Scd) (r : BitVec 4) (x : Mask) : (s.setP k r x).scd.v = s.scd.v := rfl
@[simp] theorem State.setP_scd_s (s : State) (k : Scd) (r : BitVec 4) (x : Mask) : (s.setP k r x).scd.s = s.scd.s := rfl
@[simp] theorem State.setP_scd_x (s : State) (k : Scd) (r : BitVec 4) (x : Mask) : (s.setP k r x).scd.x = s.scd.x := rfl
@[simp] theorem State.setP_scd_gen (s : State) (k : Scd) (r : BitVec 4) (x : Mask) : (s.setP k r x).scd.gen = s.scd.gen := rfl
@[simp] theorem State.setP_scd_queries (s : State) (k : Scd) (r : BitVec 4) (x : Mask) : (s.setP k r x).scd.queries = s.scd.queries := rfl
@[simp] theorem State.setP_scd_tiles (s : State) (k : Scd) (r : BitVec 4) (x : Mask) : (s.setP k r x).scd.tiles = s.scd.tiles := rfl
@[simp] theorem State.setP_scd_ranks (s : State) (k : Scd) (r : BitVec 4) (x : Mask) : (s.setP k r x).scd.ranks = s.scd.ranks := rfl
@[simp] theorem State.setP_scd_tainted (s : State) (k : Scd) (r : BitVec 4) (x : Mask) : (s.setP k r x).scd.tainted = s.scd.tainted := rfl
@[simp] theorem State.setP_scd_reported (s : State) (k : Scd) (r : BitVec 4) (x : Mask) : (s.setP k r x).scd.reported = s.scd.reported := rfl
@[simp] theorem State.setP_scd_ctr (s : State) (k : Scd) (r : BitVec 4) (x : Mask) : (s.setP k r x).scd.ctr = s.scd.ctr := rfl
@[simp] theorem State.setP_scd_layout31 (s : State) (k : Scd) (r : BitVec 4) (x : Mask) : (s.setP k r x).scd.layout31 = s.scd.layout31 := rfl
@[simp] theorem State.setX_scd_v (s : State) (k : Scd) (r : BitVec 5) (x : Vec) : (s.setX k r x).scd.v = s.scd.v := rfl
@[simp] theorem State.setX_scd_s (s : State) (k : Scd) (r : BitVec 5) (x : Vec) : (s.setX k r x).scd.s = s.scd.s := rfl
@[simp] theorem State.setX_scd_p (s : State) (k : Scd) (r : BitVec 5) (x : Vec) : (s.setX k r x).scd.p = s.scd.p := rfl
@[simp] theorem State.setX_scd_gen (s : State) (k : Scd) (r : BitVec 5) (x : Vec) : (s.setX k r x).scd.gen = s.scd.gen := rfl
@[simp] theorem State.setX_scd_queries (s : State) (k : Scd) (r : BitVec 5) (x : Vec) : (s.setX k r x).scd.queries = s.scd.queries := rfl
@[simp] theorem State.setX_scd_tiles (s : State) (k : Scd) (r : BitVec 5) (x : Vec) : (s.setX k r x).scd.tiles = s.scd.tiles := rfl
@[simp] theorem State.setX_scd_ranks (s : State) (k : Scd) (r : BitVec 5) (x : Vec) : (s.setX k r x).scd.ranks = s.scd.ranks := rfl
@[simp] theorem State.setX_scd_tainted (s : State) (k : Scd) (r : BitVec 5) (x : Vec) : (s.setX k r x).scd.tainted = s.scd.tainted := rfl
@[simp] theorem State.setX_scd_reported (s : State) (k : Scd) (r : BitVec 5) (x : Vec) : (s.setX k r x).scd.reported = s.scd.reported := rfl
@[simp] theorem State.setX_scd_ctr (s : State) (k : Scd) (r : BitVec 5) (x : Vec) : (s.setX k r x).scd.ctr = s.scd.ctr := rfl
@[simp] theorem State.setX_scd_layout31 (s : State) (k : Scd) (r : BitVec 5) (x : Vec) : (s.setX k r x).scd.layout31 = s.scd.layout31 := rfl
@[simp] theorem State.setCtr_scd_v (s : State) (k : Scd) (c : BitVec 9) (x : Word) : (s.setCtr k c x).scd.v = s.scd.v := rfl
@[simp] theorem State.setCtr_scd_s (s : State) (k : Scd) (c : BitVec 9) (x : Word) : (s.setCtr k c x).scd.s = s.scd.s := rfl
@[simp] theorem State.setCtr_scd_p (s : State) (k : Scd) (c : BitVec 9) (x : Word) : (s.setCtr k c x).scd.p = s.scd.p := rfl
@[simp] theorem State.setCtr_scd_x (s : State) (k : Scd) (c : BitVec 9) (x : Word) : (s.setCtr k c x).scd.x = s.scd.x := rfl
@[simp] theorem State.setCtr_scd_gen (s : State) (k : Scd) (c : BitVec 9) (x : Word) : (s.setCtr k c x).scd.gen = s.scd.gen := rfl
@[simp] theorem State.setCtr_scd_queries (s : State) (k : Scd) (c : BitVec 9) (x : Word) : (s.setCtr k c x).scd.queries = s.scd.queries := rfl
@[simp] theorem State.setCtr_scd_tiles (s : State) (k : Scd) (c : BitVec 9) (x : Word) : (s.setCtr k c x).scd.tiles = s.scd.tiles := rfl
@[simp] theorem State.setCtr_scd_ranks (s : State) (k : Scd) (c : BitVec 9) (x : Word) : (s.setCtr k c x).scd.ranks = s.scd.ranks := rfl
@[simp] theorem State.setCtr_scd_tainted (s : State) (k : Scd) (c : BitVec 9) (x : Word) : (s.setCtr k c x).scd.tainted = s.scd.tainted := rfl
@[simp] theorem State.setCtr_scd_reported (s : State) (k : Scd) (c : BitVec 9) (x : Word) : (s.setCtr k c x).scd.reported = s.scd.reported := rfl
@[simp] theorem State.setCtr_scd_layout31 (s : State) (k : Scd) (c : BitVec 9) (x : Word) : (s.setCtr k c x).scd.layout31 = s.scd.layout31 := rfl
@[simp] theorem State.ctrAdd_scd_v (s : State) (k : Scd) (c : BitVec 9) (n : Nat) : (s.ctrAdd k c n).scd.v = s.scd.v := rfl
@[simp] theorem State.ctrAdd_scd_s (s : State) (k : Scd) (c : BitVec 9) (n : Nat) : (s.ctrAdd k c n).scd.s = s.scd.s := rfl
@[simp] theorem State.ctrAdd_scd_p (s : State) (k : Scd) (c : BitVec 9) (n : Nat) : (s.ctrAdd k c n).scd.p = s.scd.p := rfl
@[simp] theorem State.ctrAdd_scd_x (s : State) (k : Scd) (c : BitVec 9) (n : Nat) : (s.ctrAdd k c n).scd.x = s.scd.x := rfl
@[simp] theorem State.ctrAdd_scd_gen (s : State) (k : Scd) (c : BitVec 9) (n : Nat) : (s.ctrAdd k c n).scd.gen = s.scd.gen := rfl
@[simp] theorem State.ctrAdd_scd_queries (s : State) (k : Scd) (c : BitVec 9) (n : Nat) : (s.ctrAdd k c n).scd.queries = s.scd.queries := rfl
@[simp] theorem State.ctrAdd_scd_tiles (s : State) (k : Scd) (c : BitVec 9) (n : Nat) : (s.ctrAdd k c n).scd.tiles = s.scd.tiles := rfl
@[simp] theorem State.ctrAdd_scd_ranks (s : State) (k : Scd) (c : BitVec 9) (n : Nat) : (s.ctrAdd k c n).scd.ranks = s.scd.ranks := rfl
@[simp] theorem State.ctrAdd_scd_tainted (s : State) (k : Scd) (c : BitVec 9) (n : Nat) : (s.ctrAdd k c n).scd.tainted = s.scd.tainted := rfl
@[simp] theorem State.ctrAdd_scd_reported (s : State) (k : Scd) (c : BitVec 9) (n : Nat) : (s.ctrAdd k c n).scd.reported = s.scd.reported := rfl
@[simp] theorem State.ctrAdd_scd_layout31 (s : State) (k : Scd) (c : BitVec 9) (n : Nat) : (s.ctrAdd k c n).scd.layout31 = s.scd.layout31 := rfl
@[simp] theorem State.setReqQueue_lane_ops (s : State) (k : Scd) (c : Nat) (qs : List QReq) : (s.setReqQueue k c qs).lane.ops = s.lane.ops := rfl
@[simp] theorem State.setReqQueue_lane_nextId (s : State) (k : Scd) (c : Nat) (qs : List QReq) : (s.setReqQueue k c qs).lane.nextId = s.lane.nextId := rfl
@[simp] theorem State.setReqQueue_lane_held (s : State) (k : Scd) (c : Nat) (qs : List QReq) : (s.setReqQueue k c qs).lane.held = s.lane.held := rfl
@[simp] theorem State.setReqQueue_lane_fwd (s : State) (k : Scd) (c : Nat) (qs : List QReq) : (s.setReqQueue k c qs).lane.fwd = s.lane.fwd := rfl
@[simp] theorem State.putOp_lane_queues (s : State) (o : LaneOp) : (s.putOp o).lane.queues = s.lane.queues := rfl
@[simp] theorem State.putOp_lane_held (s : State) (o : LaneOp) : (s.putOp o).lane.held = s.lane.held := rfl
@[simp] theorem State.putOp_lane_fwd (s : State) (o : LaneOp) : (s.putOp o).lane.fwd = s.lane.fwd := rfl
@[simp] theorem State.setOp_lane_queues (s : State) (o : LaneOp) : (s.setOp o).lane.queues = s.lane.queues := rfl
@[simp] theorem State.setOp_lane_nextId (s : State) (o : LaneOp) : (s.setOp o).lane.nextId = s.lane.nextId := rfl
@[simp] theorem State.setOp_lane_held (s : State) (o : LaneOp) : (s.setOp o).lane.held = s.lane.held := rfl
@[simp] theorem State.setOp_lane_fwd (s : State) (o : LaneOp) : (s.setOp o).lane.fwd = s.lane.fwd := rfl

end Sys2Proof.Machine
end

