-- ==== Sys2Proof/Laws/Memory.lean ====
section
/-! SUPPORT. Laws of memory: every operation keeps its canonical form, and bytes that an operation does not name read as before. -/

namespace Sys2Proof.Machine

theorem memory_wf_reset : Memory.wf State.reset.mem.bytes := rfl

theorem memory_wf_bankWrite {s : State} (ws : List (Nat × Byte)) (h : Memory.wf s.mem.bytes) : Memory.wf (s.bankWrite ws).mem.bytes :=
  SMap.canon_foldl_set (fun (e : Nat × Byte) => e.1) (fun e => e.2) ws h

theorem memory_wf_store {s : State} (a : Nat) (bs : List Byte) (h : Memory.wf s.mem.bytes) : Memory.wf (s.store a bs).mem.bytes :=
  memory_wf_bankWrite _ h

theorem memory_wf_bankCommit {s : State} (id : Nat) (live : Bool) (h : Memory.wf s.mem.bytes) : Memory.wf (s.bankCommit id live).mem.bytes := by
  unfold State.bankCommit
  split
  · exact h
  · dsimp only
    split
    · exact memory_wf_bankWrite _ h
    · exact h

theorem memory_wf_filter {m : List Host.Cell} (p : Host.Cell → Bool) (h : Memory.wf m) : Memory.wf (m.filter p) := SMap.canon_filter p h

theorem memory_wf_keep {m : List Host.Cell} (p : Nat → Byte → Bool) (h : Memory.wf m) : Memory.wf (SMap.keep p m) := SMap.canon_filter _ h

/-- A byte that no write of the list names. -/
theorem State.bankByte_bankWrite_of_not_mem {s : State} {ws : List (Nat × Byte)} {a : Nat} (h : Memory.wf s.mem.bytes)
    (ha : ∀ e ∈ ws, e.1 ≠ a) : (s.bankWrite ws).bankByte a = s.bankByte a :=
  SMap.get_foldl_set_of_not_mem ws (SMap.canon_rising h) ha

theorem mem_writesAt {a : Nat} {bs : List Byte} {e : Nat × Byte} (h : e ∈ writesAt a bs) : a ≤ e.1 ∧ e.1 < a + bs.length := by
  simp only [writesAt, List.mem_map] at h
  obtain ⟨x, hx, rfl⟩ := h
  have := (List.of_mem_zip hx).1
  simp only [List.mem_range] at this
  dsimp only
  omega

theorem State.bankByte_store_outside {s : State} {a b : Nat} {bs : List Byte} (h : Memory.wf s.mem.bytes) (hb : b < a ∨ a + bs.length ≤ b) :
    (s.store a bs).bankByte b = s.bankByte b :=
  State.bankByte_bankWrite_of_not_mem h fun e he => by have := mem_writesAt he; omega

theorem State.bankByte_congr {s t : State} (h : t.mem.bytes = s.mem.bytes) (a : Nat) : t.bankByte a = s.bankByte a := by
  unfold State.bankByte; rw [h]

theorem State.laneByte_congr {s t : State} (h : t.mem = s.mem) (a : Nat) : t.laneByte a = s.laneByte a := by
  unfold State.laneByte State.bankByte; rw [h]

theorem State.laneRead_congr {s t : State} (h : t.mem = s.mem) (a n : Nat) : t.laneRead a n = s.laneRead a n := by
  unfold State.laneRead; simp only [State.laneByte_congr h]

@[simp] theorem State.bankRead_length (s : State) (a n : Nat) : (s.bankRead a n).length = n := by simp [State.bankRead]
@[simp] theorem State.laneRead_length (s : State) (a n : Nat) : (s.laneRead a n).length = n := by simp [State.laneRead]
@[simp] theorem State.memRead_length (s : State) (a n : Nat) : (s.memRead a n).length = n := by simp [State.memRead]

/-! ### Timed events -/

/-- What is scheduled after one more event is scheduled. -/
theorem mem_insertTimed {t : Nat} {x : Timed} {xs : List (Nat × Timed)} {e : Nat × Timed} : e ∈ insertTimed t x xs ↔ e = (t, x) ∨ e ∈ xs := by
  induction xs with
  | nil => simp [insertTimed]
  | cons y xs ih =>
    obtain ⟨u, y⟩ := y
    unfold insertTimed
    split
    · simp
    · simp only [List.mem_cons, ih]
      constructor
      · rintro (h | h | h)
        · exact Or.inr (Or.inl h)
        · exact Or.inl h
        · exact Or.inr (Or.inr h)
      · rintro (h | h | h)
        · exact Or.inr (Or.inl h)
        · exact Or.inl h
        · exact Or.inr (Or.inr h)

theorem State.mem_after_timed {s : State} {t : Nat} {x : Timed} {e : Nat × Timed} : e ∈ (s.after t x).timed ↔ e = (t, x) ∨ e ∈ s.timed :=
  mem_insertTimed

theorem State.mem_after_self (s : State) (t : Nat) (x : Timed) : (t, x) ∈ (s.after t x).timed := State.mem_after_timed.2 (Or.inl rfl)

theorem State.now_congr {s t : State} (h : t.time = s.time) : t.now = s.now := by unfold State.now; rw [h]

/-! ### Register files -/

theorem vecKey_inj {k j : Scd} {r q : BitVec 6} (h : vecKey k r = vecKey j q) : k = j ∧ r = q := by
  unfold vecKey at h
  have h1 := k.isLt; have h2 := j.isLt; have h3 := r.isLt; have h4 := q.isLt
  exact ⟨BitVec.eq_of_toNat_eq (by omega), BitVec.eq_of_toNat_eq (by omega)⟩

theorem prdKey_inj {k j : Scd} {r q : BitVec 4} (h : prdKey k r = prdKey j q) : k = j ∧ r = q := by
  unfold prdKey at h
  have h1 := k.isLt; have h2 := j.isLt; have h3 := r.isLt; have h4 := q.isLt
  exact ⟨BitVec.eq_of_toNat_eq (by omega), BitVec.eq_of_toNat_eq (by omega)⟩

theorem idxKey_inj {k j : Scd} {r q : BitVec 5} (h : idxKey k r = idxKey j q) : k = j ∧ r = q := by
  unfold idxKey at h
  have h1 := k.isLt; have h2 := j.isLt; have h3 := r.isLt; have h4 := q.isLt
  exact ⟨BitVec.eq_of_toNat_eq (by omega), BitVec.eq_of_toNat_eq (by omega)⟩

theorem ctrKey_inj {k j : Scd} {c d : BitVec 9} (h : ctrKey k c = ctrKey j d) : k = j ∧ c = d := by
  unfold ctrKey at h
  have h1 := k.isLt; have h2 := j.isLt; have h3 := c.isLt; have h4 := d.isLt
  exact ⟨BitVec.eq_of_toNat_eq (by omega), BitVec.eq_of_toNat_eq (by omega)⟩

theorem State.vreg_setV {s : State} (h : s.scd.v.rising = true) (k j : Scd) (r q : BitVec 6) (x : Vec) :
    (s.setV k r x).vreg j q = if j = k ∧ q = r then x else s.vreg j q := by
  unfold State.setV State.vreg
  dsimp only
  rw [SMap.get_set h]
  by_cases hk : vecKey j q = vecKey k r
  · simp [vecKey_inj hk]
  · rw [if_neg hk, if_neg]
    rintro ⟨rfl, rfl⟩
    exact hk rfl

theorem State.preg_setP {s : State} (h : s.scd.p.rising = true) (k j : Scd) (r q : BitVec 4) (x : Mask) :
    (s.setP k r x).preg j q = if j = k ∧ q = r then x else s.preg j q := by
  unfold State.setP State.preg
  dsimp only
  rw [SMap.get_set h]
  by_cases hk : prdKey j q = prdKey k r
  · simp [prdKey_inj hk]
  · rw [if_neg hk, if_neg]
    rintro ⟨rfl, rfl⟩
    exact hk rfl

theorem State.xreg_setX {s : State} (h : s.scd.x.rising = true) (k j : Scd) (r q : BitVec 5) (x : Vec) :
    (s.setX k r x).xreg j q = if j = k ∧ q = r then x else s.xreg j q := by
  unfold State.setX State.xreg
  dsimp only
  rw [SMap.get_set h]
  by_cases hk : idxKey j q = idxKey k r
  · simp [idxKey_inj hk]
  · rw [if_neg hk, if_neg]
    rintro ⟨rfl, rfl⟩
    exact hk rfl

theorem State.ctr_setCtr {s : State} (h : s.scd.ctr.rising = true) (k j : Scd) (c d : BitVec 9) (x : Word) :
    (s.setCtr k c x).ctr j d = if j = k ∧ d = c then x else s.ctr j d := by
  unfold State.setCtr State.ctr
  dsimp only
  rw [SMap.get_set h]
  by_cases hk : ctrKey j d = ctrKey k c
  · simp [ctrKey_inj hk]
  · rw [if_neg hk, if_neg]
    rintro ⟨rfl, rfl⟩
    exact hk rfl

/-! ### Tenants, slots, grants -/

theorem State.tenant_setTenant {s : State} (h : s.sec.tenants.rising = true) (t u : Tenant) (x : TenantRec) :
    (s.setTenant t x).tenant u = if u = t then x else s.tenant u := by
  unfold State.setTenant State.tenant
  dsimp only
  rw [SMap.get_set h]
  by_cases hk : u.toNat = t.toNat
  · simp [BitVec.eq_of_toNat_eq hk]
  · rw [if_neg hk, if_neg]
    rintro rfl
    exact hk rfl

theorem State.slot_setSlot {s : State} (h : s.sec.slots.rising = true) (i j : Nat) (x : KeySlot) :
    (s.setSlot i x).slot j = if j = i then x else s.slot j := SMap.get_set h i j x

/-- A grant entry after another is stored; a FREE entry is listed no more. -/
theorem State.grant_setGrant {s : State} (h : s.sec.grants.rising = true) (i j : Nat) (g : Grant) (hg : g.st = .free → g = Grant.fresh) :
    (s.setGrant i g).grant j = if j = i then g else s.grant j := by
  unfold State.setGrant State.grant
  dsimp only
  split
  · next hf =>
    rw [SMap.find_erase h]
    split
    · simp [hg hf]
    · rfl
  · rw [SMap.find_insert]
    split <;> simp

end Sys2Proof.Machine
end

