-- ==== Sys2Proof/Laws/PerInstr.lean ====
section
/-! SUPPORT. Laws made per command. Family Shape: the predicate field of a chord slot that the loader accepts names a predicate
register in a mode that the slot accepts (R73, R74). -/

namespace Sys2Proof

open Machine

/-- The predicate field of a row that is a chord slot with one, and whether the slot may name the element-mask modes. -/
def Instr.predField : Instr → Option (BitVec 7 × Bool)
  | .strokeBegin => none
  | .chordIssue _ => none
  | .maintenanceWindow => none
  | .turnaround => none
  | .slotScheduleActivate => none
  | .slotschedArm _ => none
  | .slotschedCancel _ => none
  | .skipctlMaskWrite _ => none
  | .seqStrokeLoRead => none
  | .ptpMessage _ _ _ => none
  | .seqResyncComplete => none
  | .queueSlot _ _ => none
  | .requestResponseBuild _ _ => none
  | .add _ f => some (f.pred, false)
  | .sub _ f => some (f.pred, false)
  | .addi _ f => some (f.pred, false)
  | .mul _ f => some (f.pred, false)
  | .and _ f => some (f.pred, false)
  | .or _ f => some (f.pred, false)
  | .xor _ f => some (f.pred, false)
  | .shl _ f => some (f.pred, false)
  | .shr _ f => some (f.pred, false)
  | .sar _ f => some (f.pred, false)
  | .min _ f => some (f.pred, false)
  | .max _ f => some (f.pred, false)
  | .movi _ f => some (f.pred, false)
  | .shli _ f => some (f.pred, false)
  | .fget _ f => some (f.pred, false)
  | .cntr _ f => some (f.pred, false)
  | .vext _ f => some (f.pred, false)
  | .pand _ f => some (f.pred, false)
  | .por _ f => some (f.pred, false)
  | .pxor _ f => some (f.pred, false)
  | .pandn _ f => some (f.pred, false)
  | .pnot _ f => some (f.pred, false)
  | .pset _ f => some (f.pred, false)
  | .pclr _ f => some (f.pred, false)
  | .pany _ f => some (f.pred, false)
  | .pcmp _ f => some (f.pred, false)
  | .pcnt _ f => some (f.pred, false)
  | .pfirst _ f => some (f.pred, false)
  | .pfromv _ f => some (f.pred, false)
  | .ldv _ f => some (f.pred, true)
  | .lds _ f => some (f.pred, false)
  | .ldx _ f => some (f.pred, false)
  | .ldp _ f => some (f.pred, false)
  | .stv _ f => some (f.pred, true)
  | .sts _ f => some (f.pred, false)
  | .stp _ f => some (f.pred, false)
  | .radd _ f => some (f.pred, true)
  | .rmax _ f => some (f.pred, true)
  | .rmin _ f => some (f.pred, true)
  | .racc _ f => some (f.pred, true)
  | .rwacc _ f => some (f.pred, true)
  | .rfma _ f => some (f.pred, true)
  | .rarg _ f => some (f.pred, true)
  | .ramax _ f => some (f.pred, true)
  | .rgtopk _ f => some (f.pred, true)
  | .rcvt _ f => some (f.pred, true)
  | .rmxq _ f => some (f.pred, true)
  | .rsplat _ f => some (f.pred, true)
  | .rnzm _ f => some (f.pred, true)
  | .fSet _ f => some (f.pred, true)
  | .fAnd _ f => some (f.pred, true)
  | .fOr _ f => some (f.pred, true)
  | .gidx _ f => some (f.pred, false)
  | .glin _ f => some (f.pred, false)
  | .gpage _ f => some (f.pred, false)
  | .gbag _ f => some (f.pred, false)
  | .gteBitmapRead _ _ => none
  | .dqld _ f => some (f.pred, true)
  | .dscore _ f => some (f.pred, true)
  | .dout _ f => some (f.pred, true)
  | .dclr _ f => some (f.pred, true)
  | .rkmrg _ f => some (f.pred, true)
  | .rkmrgp _ f => some (f.pred, true)
  | .rkout _ f => some (f.pred, true)
  | .rkclr _ f => some (f.pred, true)
  | .mcopy _ f => some (f.pred, false)
  | .msend _ f => some (f.pred, false)
  | .mred _ f => some (f.pred, false)
  | .mdone _ f => some (f.pred, false)
  | .engineOpComplete _ _ => none
  | .engineHoldRelease _ _ => none
  | .engineCarriedStart _ _ => none
  | .frameReceive _ _ => none
  | .neighborSolicitation _ _ _ => none
  | .load _ => none
  | .store _ => none
  | .pstore _ => none
  | .put _ => none
  | .get _ => none
  | .atomicFadd _ => none
  | .atomicFand _ => none
  | .atomicFor _ => none
  | .atomicFxor _ => none
  | .atomicFmins _ => none
  | .atomicFmaxs _ => none
  | .atomicFminu _ => none
  | .atomicFmaxu _ => none
  | .atomicSwap _ => none
  | .atomicCas _ => none
  | .atomicFaddf _ => none
  | .publish _ => none
  | .redDenseLine _ => none
  | .redSparseLine _ => none
  | .redDoneLine _ => none
  | .retr _ => none
  | .rdS _ => none
  | .rdX _ => none
  | .upg _ => none
  | .wb _ => none
  | .wbKeep _ => none
  | .pushData _ => none
  | .ack _ => none
  | .ackWbpend _ => none
  | .stashAck _ => none
  | .stashNak _ => none
  | .snoopRelease _ _ _ => none
  | .homeReadComplete _ _ => none
  | .heldRequestReenter _ => none
  | .domainTimeout _ _ _ => none
  | .dirAgentWrite _ _ _ => none
  | .dirProbe _ _ => none
  | .trayResponse _ => none
  | .trayForwardTimeout _ => none
  | .governedResponse _ _ => none
  | .governedFrameRelease _ => none
  | .egressStart _ => none
  | .shaperTokenGain => none
  | .meterTokenGain => none
  | .shaperWrite _ _ => none
  | .meterWrite _ _ _ => none
  | .mirrorSessionWrite _ _ => none
  | .sampleRingConfigWrite _ _ => none
  | .sampleRecordWrite => none
  | .subscriberMapWrite _ _ => none
  | .barrierClear _ => none
  | .refreshWindow _ _ _ => none
  | .stackCacheInvalidateGo _ => none
  | .raclr _ => none
  | .rcxArm _ _ => none
  | .rcxAbort _ _ => none
  | .contextOpen _ _ => none
  | .contextReopen _ _ => none
  | .contextTimeout _ _ => none
  | .extSet _ => none
  | .extentDescriptorApply _ => none
  | .extGet _ => none
  | .extFill _ => none
  | .farCachedFillComplete _ => none
  | .extFlush _ => none
  | .flushComplete _ => none
  | .extEvict _ => none
  | .evictComplete _ => none
  | .extDirty _ => none
  | .extReset _ => none
  | .coldDiscard _ => none
  | .ftlWriteAck _ => none
  | .ftlRelocation _ => none
  | .ftlGarbageCollection _ _ _ => none
  | .ftlMapRebuildComplete => none
  | .baseReg _ => none
  | .baseDrop _ => none
  | .baseApply _ => none
  | .octcfgWrite _ _ _ => none
  | .octetModeApply _ _ => none
  | .linkTrainingComplete _ => none
  | .laneFault _ _ => none
  | .laneSerrWindow _ _ _ => none
  | .spareSwapComplete _ _ => none
  | .laserFault _ => none
  | .lsrctlEnWrite _ _ => none
  | .ppsOutPulse _ => none
  | .i3cPrivateWrite _ => none
  | .i3cAddressAssign _ => none
  | .tenantCreate _ => none
  | .tenantRemove _ => none
  | .tenantEpochAdvance _ => none
  | .keyRotate _ => none
  | .keyload _ _ => none
  | .weightResume _ _ => none
  | .spdmMsg _ => none
  | .keySlotDrained _ => none
  | .slotScrubComplete _ => none
  | .grantSet _ => none
  | .grantActivate _ => none
  | .zeroFillComplete _ => none
  | .grantGet _ => none
  | .grantRevoke _ => none
  | .grantInflightZero _ => none
  | .revokeTimeout _ => none
  | .grantScrubComplete _ => none
  | .heartbeatSend => none
  | .heartbeat _ => none
  | .livenessExpiry _ => none
  | .propose _ => none
  | .fabricAck _ => none
  | .commit _ => none
  | .syncReq _ => none
  | .fabricState _ => none
  | .syncData _ => none
  | .loss _ => none
  | .revokeDone _ => none
  | .capoApply => none
  | .graceEnd => none
  | .mapGet _ => none
  | .fabKey _ => none
  | .cdbWrite _ _ => none
  | .pdbWrite _ _ => none
  | .commandTake _ => none
  | .regRead _ => none
  | .regWrite _ => none
  | .ringCreate _ => none
  | .ringDelete _ => none
  | .segLoad _ => none
  | .segmentLoadComplete _ => none
  | .segmentReady _ => none
  | .segmentReplace _ => none
  | .segUnload _ => none
  | .segmentRemove _ => none
  | .segDisable _ => none
  | .segmentDisableApply _ => none
  | .segDisableCleanup _ => none
  | .tileRemap => none
  | .fwStage _ => none
  | .fwCommit _ => none
  | .fwActivate _ => none
  | .fwActivationRetry _ => none
  | .fwActivationComplete _ => none
  | .watchdogExpire _ => none
  | .logEntryWrite _ => none
  | .logRingConfigWrite _ _ => none
  | .eventRecordWrite => none
  | .evtRingConfigWrite _ _ => none
  | .powerOnReset _ => none
  | .pinReset _ => none
  | .frstNAssert => none
  | .pwrGoodChange _ => none
  | .bringupPhaseEnd _ => none
  | .alignmentTimeout => none
  | .temperatureSample _ => none
  | .emergencyLevelFall => none
  | .resetWarm _ => none
  | .resetScd _ => none
  | .resetTenant _ => none
  | .resetBegin => none
  | .scdHandbackStart _ => none
  | .scdReturnToService _ => none
  | .pwrStateL0 _ => none
  | .pwrStateL1 _ => none
  | .pwrStateL2 _ => none
  | .pwrStateL3 _ => none
  | .lowPowerDrainComplete => none
  | .pwrreqExit _ => none
  | .shutdown _ => none
  | .selfTestComplete _ => none
  | .unitLossDetect _ _ => none
  | .unitLossRecord => none
  | .scdLossRemap => none
  | .tableEntryRepair _ => none
  | .ppsInPulse _ => none
  | .coldWriteHoldTimeout _ => none
  | .mgmtLinkLoss _ => none

end Sys2Proof

namespace Sys2Proof.Laws.Shape

open Machine

/-- A well-formed chord slot carries a predicate field that names a register in a legal mode. -/
def Statement (i : Instr) : Prop := i.wellFormed = true → ∀ p, i.predField = some p → predOk p.1 p.2 = true

theorem of_sca {op : ScaOp} {f : ScaF} (h : scaOk op f = true) : predOk f.pred false = true := by
  simp only [scaOk, Bool.and_eq_true] at h; exact h.1.1
theorem of_prd {op : PrdOp} {f : PrdF} (h : prdOk op f = true) : predOk f.pred false = true := by
  simp only [prdOk, Bool.and_eq_true] at h; exact h.1
theorem of_ld {op : LdOp} {f : LdF} (h : ldOk op f = true) : predOk f.pred (op == .ldv) = true := by
  cases op <;> simp only [ldOk, Bool.and_eq_true] at h <;> first | exact h | exact h.1
theorem of_st {op : StOp} {f : StF} (h : stOk op f = true) : predOk f.pred (op == .stv) = true := by
  cases op <;> simp only [stOk, Bool.and_eq_true] at h <;> first | exact h | exact h.1
theorem of_rdu {op : RduOp} {f : RduF} (h : rduOk op f = true) : predOk f.pred true = true := by
  simp only [rduOk, Bool.and_eq_true] at h; exact h.1.1
theorem of_flu {f : FluF} (h : fluOk f = true) : predOk f.pred true = true := by
  simp only [fluOk, Bool.and_eq_true] at h; exact h.1.1.1.1.1.1
theorem of_gte {op : EngKind} {f : GteF} (h : gteOk op f = true) : predOk f.pred false = true := by
  simp only [gteOk, Bool.and_eq_true] at h; exact h.1.1.1
theorem of_dxa {op : DxaOp} {f : DxaF} (h : dxaOk op f = true) : predOk f.pred true = true := by
  simp only [dxaOk, Bool.and_eq_true] at h; exact h.1.1
theorem of_rku {op : RkuOp} {f : RkuF} (h : rkuOk op f = true) : predOk f.pred true = true := by
  simp only [rkuOk, Bool.and_eq_true] at h; exact h.1.1.1
theorem of_mov {op : EngKind} {f : MovF} (h : movOk op f = true) : predOk f.pred false = true := by
  simp only [movOk, Bool.and_eq_true] at h; exact h.1.1

theorem strokeBegin : Statement .strokeBegin := fun _ _ e => nomatch e
theorem chordIssue : ∀ x, Statement (.chordIssue x) := fun _ _ _ e => nomatch e
theorem maintenanceWindow : Statement .maintenanceWindow := fun _ _ e => nomatch e
theorem turnaround : Statement .turnaround := fun _ _ e => nomatch e
theorem slotScheduleActivate : Statement .slotScheduleActivate := fun _ _ e => nomatch e
theorem slotschedArm : ∀ x, Statement (.slotschedArm x) := fun _ _ _ e => nomatch e
theorem slotschedCancel : ∀ x, Statement (.slotschedCancel x) := fun _ _ _ e => nomatch e
theorem skipctlMaskWrite : ∀ x, Statement (.skipctlMaskWrite x) := fun _ _ _ e => nomatch e
theorem seqStrokeLoRead : Statement .seqStrokeLoRead := fun _ _ e => nomatch e
theorem ptpMessage : ∀ x y z, Statement (.ptpMessage x y z) := fun _ _ _ _ _ e => nomatch e
theorem seqResyncComplete : Statement .seqResyncComplete := fun _ _ e => nomatch e
theorem queueSlot : ∀ x y, Statement (.queueSlot x y) := fun _ _ _ _ e => nomatch e
theorem requestResponseBuild : ∀ x y, Statement (.requestResponseBuild x y) := fun _ _ _ _ e => nomatch e
theorem add : ∀ k f, Statement (.add k f) := fun _ _ h _ e => by
  cases e; exact of_sca (op := .add) h
theorem sub : ∀ k f, Statement (.sub k f) := fun _ _ h _ e => by
  cases e; exact of_sca (op := .sub) h
theorem addi : ∀ k f, Statement (.addi k f) := fun _ _ h _ e => by
  cases e; exact of_sca (op := .addi) h
theorem mul : ∀ k f, Statement (.mul k f) := fun _ _ h _ e => by
  cases e; exact of_sca (op := .mul) h
theorem and : ∀ k f, Statement (.and k f) := fun _ _ h _ e => by
  cases e; exact of_sca (op := .and) h
theorem or : ∀ k f, Statement (.or k f) := fun _ _ h _ e => by
  cases e; exact of_sca (op := .or) h
theorem xor : ∀ k f, Statement (.xor k f) := fun _ _ h _ e => by
  cases e; exact of_sca (op := .xor) h
theorem shl : ∀ k f, Statement (.shl k f) := fun _ _ h _ e => by
  cases e; exact of_sca (op := .shl) h
theorem shr : ∀ k f, Statement (.shr k f) := fun _ _ h _ e => by
  cases e; exact of_sca (op := .shr) h
theorem sar : ∀ k f, Statement (.sar k f) := fun _ _ h _ e => by
  cases e; exact of_sca (op := .sar) h
theorem min : ∀ k f, Statement (.min k f) := fun _ _ h _ e => by
  cases e; exact of_sca (op := .min) h
theorem max : ∀ k f, Statement (.max k f) := fun _ _ h _ e => by
  cases e; exact of_sca (op := .max) h
theorem movi : ∀ k f, Statement (.movi k f) := fun _ _ h _ e => by
  cases e; exact of_sca (op := .movi) h
theorem shli : ∀ k f, Statement (.shli k f) := fun _ _ h _ e => by
  cases e; exact of_sca (op := .shli) h
theorem fget : ∀ k f, Statement (.fget k f) := fun _ _ h _ e => by
  cases e; exact of_sca (op := .fget) h
theorem cntr : ∀ k f, Statement (.cntr k f) := fun _ _ h _ e => by
  cases e; exact of_sca (op := .cntr) h
theorem vext : ∀ k f, Statement (.vext k f) := fun _ _ h _ e => by
  cases e; exact of_sca (op := .vext) h
theorem pand : ∀ k f, Statement (.pand k f) := fun _ _ h _ e => by
  cases e; exact of_prd (op := .pand) h
theorem por : ∀ k f, Statement (.por k f) := fun _ _ h _ e => by
  cases e; exact of_prd (op := .por) h
theorem pxor : ∀ k f, Statement (.pxor k f) := fun _ _ h _ e => by
  cases e; exact of_prd (op := .pxor) h
theorem pandn : ∀ k f, Statement (.pandn k f) := fun _ _ h _ e => by
  cases e; exact of_prd (op := .pandn) h
theorem pnot : ∀ k f, Statement (.pnot k f) := fun _ _ h _ e => by
  cases e; exact of_prd (op := .pnot) h
theorem pset : ∀ k f, Statement (.pset k f) := fun _ _ h _ e => by
  cases e; exact of_prd (op := .pset) h
theorem pclr : ∀ k f, Statement (.pclr k f) := fun _ _ h _ e => by
  cases e; exact of_prd (op := .pclr) h
theorem pany : ∀ k f, Statement (.pany k f) := fun _ _ h _ e => by
  cases e; exact of_prd (op := .pany) h
theorem pcmp : ∀ k f, Statement (.pcmp k f) := fun _ _ h _ e => by
  cases e; exact of_prd (op := .pcmp) h
theorem pcnt : ∀ k f, Statement (.pcnt k f) := fun _ _ h _ e => by
  cases e; exact of_prd (op := .pcnt) h
theorem pfirst : ∀ k f, Statement (.pfirst k f) := fun _ _ h _ e => by
  cases e; exact of_prd (op := .pfirst) h
theorem pfromv : ∀ k f, Statement (.pfromv k f) := fun _ _ h _ e => by
  cases e; exact of_prd (op := .pfromv) h
theorem ldv : ∀ k f, Statement (.ldv k f) := fun _ _ h _ e => by
  cases e; exact of_ld (op := .ldv) h
theorem lds : ∀ k f, Statement (.lds k f) := fun _ _ h _ e => by
  cases e; exact of_ld (op := .lds) h
theorem ldx : ∀ k f, Statement (.ldx k f) := fun _ _ h _ e => by
  cases e; exact of_ld (op := .ldx) h
theorem ldp : ∀ k f, Statement (.ldp k f) := fun _ _ h _ e => by
  cases e; exact of_ld (op := .ldp) h
theorem stv : ∀ k f, Statement (.stv k f) := fun _ _ h _ e => by
  cases e; exact of_st (op := .stv) h
theorem sts : ∀ k f, Statement (.sts k f) := fun _ _ h _ e => by
  cases e; exact of_st (op := .sts) h
theorem stp : ∀ k f, Statement (.stp k f) := fun _ _ h _ e => by
  cases e; exact of_st (op := .stp) h
theorem radd : ∀ k f, Statement (.radd k f) := fun _ _ h _ e => by
  cases e; exact of_rdu (op := .radd) h
theorem rmax : ∀ k f, Statement (.rmax k f) := fun _ _ h _ e => by
  cases e; exact of_rdu (op := .rmax) h
theorem rmin : ∀ k f, Statement (.rmin k f) := fun _ _ h _ e => by
  cases e; exact of_rdu (op := .rmin) h
theorem racc : ∀ k f, Statement (.racc k f) := fun _ _ h _ e => by
  cases e; exact of_rdu (op := .racc) h
theorem rwacc : ∀ k f, Statement (.rwacc k f) := fun _ _ h _ e => by
  cases e; exact of_rdu (op := .rwacc) h
theorem rfma : ∀ k f, Statement (.rfma k f) := fun _ _ h _ e => by
  cases e; exact of_rdu (op := .rfma) h
theorem rarg : ∀ k f, Statement (.rarg k f) := fun _ _ h _ e => by
  cases e; exact of_rdu (op := .rarg) h
theorem ramax : ∀ k f, Statement (.ramax k f) := fun _ _ h _ e => by
  cases e; exact of_rdu (op := .ramax) h
theorem rgtopk : ∀ k f, Statement (.rgtopk k f) := fun _ _ h _ e => by
  cases e; exact of_rdu (op := .rgtopk) h
theorem rcvt : ∀ k f, Statement (.rcvt k f) := fun _ _ h _ e => by
  cases e; exact of_rdu (op := .rcvt) h
theorem rmxq : ∀ k f, Statement (.rmxq k f) := fun _ _ h _ e => by
  cases e; exact of_rdu (op := .rmxq) h
theorem rsplat : ∀ k f, Statement (.rsplat k f) := fun _ _ h _ e => by
  cases e; exact of_rdu (op := .rsplat) h
theorem rnzm : ∀ k f, Statement (.rnzm k f) := fun _ _ h _ e => by
  cases e; exact of_rdu (op := .rnzm) h
theorem fSet : ∀ k f, Statement (.fSet k f) := fun _ _ h _ e => by
  cases e; exact of_flu h
theorem fAnd : ∀ k f, Statement (.fAnd k f) := fun _ _ h _ e => by
  cases e; exact of_flu h
theorem fOr : ∀ k f, Statement (.fOr k f) := fun _ _ h _ e => by
  cases e; exact of_flu h
theorem gidx : ∀ k f, Statement (.gidx k f) := fun _ _ h _ e => by
  cases e; exact of_gte (op := .gidx) h
theorem glin : ∀ k f, Statement (.glin k f) := fun _ _ h _ e => by
  cases e; exact of_gte (op := .glin) h
theorem gpage : ∀ k f, Statement (.gpage k f) := fun _ _ h _ e => by
  cases e; exact of_gte (op := .gpage) h
theorem gbag : ∀ k f, Statement (.gbag k f) := fun _ _ h _ e => by
  cases e; exact of_gte (op := .gbag) h
theorem gteBitmapRead : ∀ x y, Statement (.gteBitmapRead x y) := fun _ _ _ _ e => nomatch e
theorem dqld : ∀ k f, Statement (.dqld k f) := fun _ _ h _ e => by
  cases e; exact of_dxa (op := .dqld) h
theorem dscore : ∀ k f, Statement (.dscore k f) := fun _ _ h _ e => by
  cases e; exact of_dxa (op := .dscore) h
theorem dout : ∀ k f, Statement (.dout k f) := fun _ _ h _ e => by
  cases e; exact of_dxa (op := .dout) h
theorem dclr : ∀ k f, Statement (.dclr k f) := fun _ _ h _ e => by
  cases e; exact of_dxa (op := .dclr) h
theorem rkmrg : ∀ k f, Statement (.rkmrg k f) := fun _ _ h _ e => by
  cases e; exact of_rku (op := .rkmrg) h
theorem rkmrgp : ∀ k f, Statement (.rkmrgp k f) := fun _ _ h _ e => by
  cases e; exact of_rku (op := .rkmrgp) h
theorem rkout : ∀ k f, Statement (.rkout k f) := fun _ _ h _ e => by
  cases e; exact of_rku (op := .rkout) h
theorem rkclr : ∀ k f, Statement (.rkclr k f) := fun _ _ h _ e => by
  cases e; exact of_rku (op := .rkclr) h
theorem mcopy : ∀ k f, Statement (.mcopy k f) := fun _ _ h _ e => by
  cases e; exact of_mov (op := .mcopy) h
theorem msend : ∀ k f, Statement (.msend k f) := fun _ _ h _ e => by
  cases e; exact of_mov (op := .msend) h
theorem mred : ∀ k f, Statement (.mred k f) := fun _ _ h _ e => by
  cases e; exact of_mov (op := .mred) h
theorem mdone : ∀ k f, Statement (.mdone k f) := fun _ _ h _ e => by
  cases e; exact of_mov (op := .mdone) h
theorem engineOpComplete : ∀ x y, Statement (.engineOpComplete x y) := fun _ _ _ _ e => nomatch e
theorem engineHoldRelease : ∀ x y, Statement (.engineHoldRelease x y) := fun _ _ _ _ e => nomatch e
theorem engineCarriedStart : ∀ x y, Statement (.engineCarriedStart x y) := fun _ _ _ _ e => nomatch e
theorem frameReceive : ∀ x y, Statement (.frameReceive x y) := fun _ _ _ _ e => nomatch e
theorem neighborSolicitation : ∀ x y z, Statement (.neighborSolicitation x y z) := fun _ _ _ _ _ e => nomatch e
theorem load : ∀ x, Statement (.load x) := fun _ _ _ e => nomatch e
theorem store : ∀ x, Statement (.store x) := fun _ _ _ e => nomatch e
theorem pstore : ∀ x, Statement (.pstore x) := fun _ _ _ e => nomatch e
theorem put : ∀ x, Statement (.put x) := fun _ _ _ e => nomatch e
theorem get : ∀ x, Statement (.get x) := fun _ _ _ e => nomatch e
theorem atomicFadd : ∀ x, Statement (.atomicFadd x) := fun _ _ _ e => nomatch e
theorem atomicFand : ∀ x, Statement (.atomicFand x) := fun _ _ _ e => nomatch e
theorem atomicFor : ∀ x, Statement (.atomicFor x) := fun _ _ _ e => nomatch e
theorem atomicFxor : ∀ x, Statement (.atomicFxor x) := fun _ _ _ e => nomatch e
theorem atomicFmins : ∀ x, Statement (.atomicFmins x) := fun _ _ _ e => nomatch e
theorem atomicFmaxs : ∀ x, Statement (.atomicFmaxs x) := fun _ _ _ e => nomatch e
theorem atomicFminu : ∀ x, Statement (.atomicFminu x) := fun _ _ _ e => nomatch e
theorem atomicFmaxu : ∀ x, Statement (.atomicFmaxu x) := fun _ _ _ e => nomatch e
theorem atomicSwap : ∀ x, Statement (.atomicSwap x) := fun _ _ _ e => nomatch e
theorem atomicCas : ∀ x, Statement (.atomicCas x) := fun _ _ _ e => nomatch e
theorem atomicFaddf : ∀ x, Statement (.atomicFaddf x) := fun _ _ _ e => nomatch e
theorem publish : ∀ x, Statement (.publish x) := fun _ _ _ e => nomatch e
theorem redDenseLine : ∀ x, Statement (.redDenseLine x) := fun _ _ _ e => nomatch e
theorem redSparseLine : ∀ x, Statement (.redSparseLine x) := fun _ _ _ e => nomatch e
theorem redDoneLine : ∀ x, Statement (.redDoneLine x) := fun _ _ _ e => nomatch e
theorem retr : ∀ x, Statement (.retr x) := fun _ _ _ e => nomatch e
theorem rdS : ∀ x, Statement (.rdS x) := fun _ _ _ e => nomatch e
theorem rdX : ∀ x, Statement (.rdX x) := fun _ _ _ e => nomatch e
theorem upg : ∀ x, Statement (.upg x) := fun _ _ _ e => nomatch e
theorem wb : ∀ x, Statement (.wb x) := fun _ _ _ e => nomatch e
theorem wbKeep : ∀ x, Statement (.wbKeep x) := fun _ _ _ e => nomatch e
theorem pushData : ∀ x, Statement (.pushData x) := fun _ _ _ e => nomatch e
theorem ack : ∀ x, Statement (.ack x) := fun _ _ _ e => nomatch e
theorem ackWbpend : ∀ x, Statement (.ackWbpend x) := fun _ _ _ e => nomatch e
theorem stashAck : ∀ x, Statement (.stashAck x) := fun _ _ _ e => nomatch e
theorem stashNak : ∀ x, Statement (.stashNak x) := fun _ _ _ e => nomatch e
theorem snoopRelease : ∀ x y z, Statement (.snoopRelease x y z) := fun _ _ _ _ _ e => nomatch e
theorem homeReadComplete : ∀ x y, Statement (.homeReadComplete x y) := fun _ _ _ _ e => nomatch e
theorem heldRequestReenter : ∀ x, Statement (.heldRequestReenter x) := fun _ _ _ e => nomatch e
theorem domainTimeout : ∀ x y z, Statement (.domainTimeout x y z) := fun _ _ _ _ _ e => nomatch e
theorem dirAgentWrite : ∀ x y z, Statement (.dirAgentWrite x y z) := fun _ _ _ _ _ e => nomatch e
theorem dirProbe : ∀ x y, Statement (.dirProbe x y) := fun _ _ _ _ e => nomatch e
theorem trayResponse : ∀ x, Statement (.trayResponse x) := fun _ _ _ e => nomatch e
theorem trayForwardTimeout : ∀ x, Statement (.trayForwardTimeout x) := fun _ _ _ e => nomatch e
theorem governedResponse : ∀ x y, Statement (.governedResponse x y) := fun _ _ _ _ e => nomatch e
theorem governedFrameRelease : ∀ x, Statement (.governedFrameRelease x) := fun _ _ _ e => nomatch e
theorem egressStart : ∀ x, Statement (.egressStart x) := fun _ _ _ e => nomatch e
theorem shaperTokenGain : Statement .shaperTokenGain := fun _ _ e => nomatch e
theorem meterTokenGain : Statement .meterTokenGain := fun _ _ e => nomatch e
theorem shaperWrite : ∀ x y, Statement (.shaperWrite x y) := fun _ _ _ _ e => nomatch e
theorem meterWrite : ∀ x y z, Statement (.meterWrite x y z) := fun _ _ _ _ _ e => nomatch e
theorem mirrorSessionWrite : ∀ x y, Statement (.mirrorSessionWrite x y) := fun _ _ _ _ e => nomatch e
theorem sampleRingConfigWrite : ∀ x y, Statement (.sampleRingConfigWrite x y) := fun _ _ _ _ e => nomatch e
theorem sampleRecordWrite : Statement .sampleRecordWrite := fun _ _ e => nomatch e
theorem subscriberMapWrite : ∀ x y, Statement (.subscriberMapWrite x y) := fun _ _ _ _ e => nomatch e
theorem barrierClear : ∀ x, Statement (.barrierClear x) := fun _ _ _ e => nomatch e
theorem refreshWindow : ∀ x y z, Statement (.refreshWindow x y z) := fun _ _ _ _ _ e => nomatch e
theorem stackCacheInvalidateGo : ∀ x, Statement (.stackCacheInvalidateGo x) := fun _ _ _ e => nomatch e
theorem raclr : ∀ x, Statement (.raclr x) := fun _ _ _ e => nomatch e
theorem rcxArm : ∀ x y, Statement (.rcxArm x y) := fun _ _ _ _ e => nomatch e
theorem rcxAbort : ∀ x y, Statement (.rcxAbort x y) := fun _ _ _ _ e => nomatch e
theorem contextOpen : ∀ x y, Statement (.contextOpen x y) := fun _ _ _ _ e => nomatch e
theorem contextReopen : ∀ x y, Statement (.contextReopen x y) := fun _ _ _ _ e => nomatch e
theorem contextTimeout : ∀ x y, Statement (.contextTimeout x y) := fun _ _ _ _ e => nomatch e
theorem extSet : ∀ x, Statement (.extSet x) := fun _ _ _ e => nomatch e
theorem extentDescriptorApply : ∀ x, Statement (.extentDescriptorApply x) := fun _ _ _ e => nomatch e
theorem extGet : ∀ x, Statement (.extGet x) := fun _ _ _ e => nomatch e
theorem extFill : ∀ x, Statement (.extFill x) := fun _ _ _ e => nomatch e
theorem farCachedFillComplete : ∀ x, Statement (.farCachedFillComplete x) := fun _ _ _ e => nomatch e
theorem extFlush : ∀ x, Statement (.extFlush x) := fun _ _ _ e => nomatch e
theorem flushComplete : ∀ x, Statement (.flushComplete x) := fun _ _ _ e => nomatch e
theorem extEvict : ∀ x, Statement (.extEvict x) := fun _ _ _ e => nomatch e
theorem evictComplete : ∀ x, Statement (.evictComplete x) := fun _ _ _ e => nomatch e
theorem extDirty : ∀ x, Statement (.extDirty x) := fun _ _ _ e => nomatch e
theorem extReset : ∀ x, Statement (.extReset x) := fun _ _ _ e => nomatch e
theorem coldDiscard : ∀ x, Statement (.coldDiscard x) := fun _ _ _ e => nomatch e
theorem ftlWriteAck : ∀ x, Statement (.ftlWriteAck x) := fun _ _ _ e => nomatch e
theorem ftlRelocation : ∀ x, Statement (.ftlRelocation x) := fun _ _ _ e => nomatch e
theorem ftlGarbageCollection : ∀ x y z, Statement (.ftlGarbageCollection x y z) := fun _ _ _ _ _ e => nomatch e
theorem ftlMapRebuildComplete : Statement .ftlMapRebuildComplete := fun _ _ e => nomatch e
theorem baseReg : ∀ x, Statement (.baseReg x) := fun _ _ _ e => nomatch e
theorem baseDrop : ∀ x, Statement (.baseDrop x) := fun _ _ _ e => nomatch e
theorem baseApply : ∀ x, Statement (.baseApply x) := fun _ _ _ e => nomatch e
theorem octcfgWrite : ∀ x y z, Statement (.octcfgWrite x y z) := fun _ _ _ _ _ e => nomatch e
theorem octetModeApply : ∀ x y, Statement (.octetModeApply x y) := fun _ _ _ _ e => nomatch e
theorem linkTrainingComplete : ∀ x, Statement (.linkTrainingComplete x) := fun _ _ _ e => nomatch e
theorem laneFault : ∀ x y, Statement (.laneFault x y) := fun _ _ _ _ e => nomatch e
theorem laneSerrWindow : ∀ x y z, Statement (.laneSerrWindow x y z) := fun _ _ _ _ _ e => nomatch e
theorem spareSwapComplete : ∀ x y, Statement (.spareSwapComplete x y) := fun _ _ _ _ e => nomatch e
theorem laserFault : ∀ x, Statement (.laserFault x) := fun _ _ _ e => nomatch e
theorem lsrctlEnWrite : ∀ x y, Statement (.lsrctlEnWrite x y) := fun _ _ _ _ e => nomatch e
theorem ppsOutPulse : ∀ x, Statement (.ppsOutPulse x) := fun _ _ _ e => nomatch e
theorem i3cPrivateWrite : ∀ x, Statement (.i3cPrivateWrite x) := fun _ _ _ e => nomatch e
theorem i3cAddressAssign : ∀ x, Statement (.i3cAddressAssign x) := fun _ _ _ e => nomatch e
theorem tenantCreate : ∀ x, Statement (.tenantCreate x) := fun _ _ _ e => nomatch e
theorem tenantRemove : ∀ x, Statement (.tenantRemove x) := fun _ _ _ e => nomatch e
theorem tenantEpochAdvance : ∀ x, Statement (.tenantEpochAdvance x) := fun _ _ _ e => nomatch e
theorem keyRotate : ∀ x, Statement (.keyRotate x) := fun _ _ _ e => nomatch e
theorem keyload : ∀ x y, Statement (.keyload x y) := fun _ _ _ _ e => nomatch e
theorem weightResume : ∀ x y, Statement (.weightResume x y) := fun _ _ _ _ e => nomatch e
theorem spdmMsg : ∀ x, Statement (.spdmMsg x) := fun _ _ _ e => nomatch e
theorem keySlotDrained : ∀ x, Statement (.keySlotDrained x) := fun _ _ _ e => nomatch e
theorem slotScrubComplete : ∀ x, Statement (.slotScrubComplete x) := fun _ _ _ e => nomatch e
theorem grantSet : ∀ x, Statement (.grantSet x) := fun _ _ _ e => nomatch e
theorem grantActivate : ∀ x, Statement (.grantActivate x) := fun _ _ _ e => nomatch e
theorem zeroFillComplete : ∀ x, Statement (.zeroFillComplete x) := fun _ _ _ e => nomatch e
theorem grantGet : ∀ x, Statement (.grantGet x) := fun _ _ _ e => nomatch e
theorem grantRevoke : ∀ x, Statement (.grantRevoke x) := fun _ _ _ e => nomatch e
theorem grantInflightZero : ∀ x, Statement (.grantInflightZero x) := fun _ _ _ e => nomatch e
theorem revokeTimeout : ∀ x, Statement (.revokeTimeout x) := fun _ _ _ e => nomatch e
theorem grantScrubComplete : ∀ x, Statement (.grantScrubComplete x) := fun _ _ _ e => nomatch e
theorem heartbeatSend : Statement .heartbeatSend := fun _ _ e => nomatch e
theorem heartbeat : ∀ x, Statement (.heartbeat x) := fun _ _ _ e => nomatch e
theorem livenessExpiry : ∀ x, Statement (.livenessExpiry x) := fun _ _ _ e => nomatch e
theorem propose : ∀ x, Statement (.propose x) := fun _ _ _ e => nomatch e
theorem fabricAck : ∀ x, Statement (.fabricAck x) := fun _ _ _ e => nomatch e
theorem commit : ∀ x, Statement (.commit x) := fun _ _ _ e => nomatch e
theorem syncReq : ∀ x, Statement (.syncReq x) := fun _ _ _ e => nomatch e
theorem fabricState : ∀ x, Statement (.fabricState x) := fun _ _ _ e => nomatch e
theorem syncData : ∀ x, Statement (.syncData x) := fun _ _ _ e => nomatch e
theorem loss : ∀ x, Statement (.loss x) := fun _ _ _ e => nomatch e
theorem revokeDone : ∀ x, Statement (.revokeDone x) := fun _ _ _ e => nomatch e
theorem capoApply : Statement .capoApply := fun _ _ e => nomatch e
theorem graceEnd : Statement .graceEnd := fun _ _ e => nomatch e
theorem mapGet : ∀ x, Statement (.mapGet x) := fun _ _ _ e => nomatch e
theorem fabKey : ∀ x, Statement (.fabKey x) := fun _ _ _ e => nomatch e
theorem cdbWrite : ∀ x y, Statement (.cdbWrite x y) := fun _ _ _ _ e => nomatch e
theorem pdbWrite : ∀ x y, Statement (.pdbWrite x y) := fun _ _ _ _ e => nomatch e
theorem commandTake : ∀ x, Statement (.commandTake x) := fun _ _ _ e => nomatch e
theorem regRead : ∀ x, Statement (.regRead x) := fun _ _ _ e => nomatch e
theorem regWrite : ∀ x, Statement (.regWrite x) := fun _ _ _ e => nomatch e
theorem ringCreate : ∀ x, Statement (.ringCreate x) := fun _ _ _ e => nomatch e
theorem ringDelete : ∀ x, Statement (.ringDelete x) := fun _ _ _ e => nomatch e
theorem segLoad : ∀ x, Statement (.segLoad x) := fun _ _ _ e => nomatch e
theorem segmentLoadComplete : ∀ x, Statement (.segmentLoadComplete x) := fun _ _ _ e => nomatch e
theorem segmentReady : ∀ x, Statement (.segmentReady x) := fun _ _ _ e => nomatch e
theorem segmentReplace : ∀ x, Statement (.segmentReplace x) := fun _ _ _ e => nomatch e
theorem segUnload : ∀ x, Statement (.segUnload x) := fun _ _ _ e => nomatch e
theorem segmentRemove : ∀ x, Statement (.segmentRemove x) := fun _ _ _ e => nomatch e
theorem segDisable : ∀ x, Statement (.segDisable x) := fun _ _ _ e => nomatch e
theorem segmentDisableApply : ∀ x, Statement (.segmentDisableApply x) := fun _ _ _ e => nomatch e
theorem segDisableCleanup : ∀ x, Statement (.segDisableCleanup x) := fun _ _ _ e => nomatch e
theorem tileRemap : Statement .tileRemap := fun _ _ e => nomatch e
theorem fwStage : ∀ x, Statement (.fwStage x) := fun _ _ _ e => nomatch e
theorem fwCommit : ∀ x, Statement (.fwCommit x) := fun _ _ _ e => nomatch e
theorem fwActivate : ∀ x, Statement (.fwActivate x) := fun _ _ _ e => nomatch e
theorem fwActivationRetry : ∀ x, Statement (.fwActivationRetry x) := fun _ _ _ e => nomatch e
theorem fwActivationComplete : ∀ x, Statement (.fwActivationComplete x) := fun _ _ _ e => nomatch e
theorem watchdogExpire : ∀ x, Statement (.watchdogExpire x) := fun _ _ _ e => nomatch e
theorem logEntryWrite : ∀ x, Statement (.logEntryWrite x) := fun _ _ _ e => nomatch e
theorem logRingConfigWrite : ∀ x y, Statement (.logRingConfigWrite x y) := fun _ _ _ _ e => nomatch e
theorem eventRecordWrite : Statement .eventRecordWrite := fun _ _ e => nomatch e
theorem evtRingConfigWrite : ∀ x y, Statement (.evtRingConfigWrite x y) := fun _ _ _ _ e => nomatch e
theorem powerOnReset : ∀ x, Statement (.powerOnReset x) := fun _ _ _ e => nomatch e
theorem pinReset : ∀ x, Statement (.pinReset x) := fun _ _ _ e => nomatch e
theorem frstNAssert : Statement .frstNAssert := fun _ _ e => nomatch e
theorem pwrGoodChange : ∀ x, Statement (.pwrGoodChange x) := fun _ _ _ e => nomatch e
theorem bringupPhaseEnd : ∀ x, Statement (.bringupPhaseEnd x) := fun _ _ _ e => nomatch e
theorem alignmentTimeout : Statement .alignmentTimeout := fun _ _ e => nomatch e
theorem temperatureSample : ∀ x, Statement (.temperatureSample x) := fun _ _ _ e => nomatch e
theorem emergencyLevelFall : Statement .emergencyLevelFall := fun _ _ e => nomatch e
theorem resetWarm : ∀ x, Statement (.resetWarm x) := fun _ _ _ e => nomatch e
theorem resetScd : ∀ x, Statement (.resetScd x) := fun _ _ _ e => nomatch e
theorem resetTenant : ∀ x, Statement (.resetTenant x) := fun _ _ _ e => nomatch e
theorem resetBegin : Statement .resetBegin := fun _ _ e => nomatch e
theorem scdHandbackStart : ∀ x, Statement (.scdHandbackStart x) := fun _ _ _ e => nomatch e
theorem scdReturnToService : ∀ x, Statement (.scdReturnToService x) := fun _ _ _ e => nomatch e
theorem pwrStateL0 : ∀ x, Statement (.pwrStateL0 x) := fun _ _ _ e => nomatch e
theorem pwrStateL1 : ∀ x, Statement (.pwrStateL1 x) := fun _ _ _ e => nomatch e
theorem pwrStateL2 : ∀ x, Statement (.pwrStateL2 x) := fun _ _ _ e => nomatch e
theorem pwrStateL3 : ∀ x, Statement (.pwrStateL3 x) := fun _ _ _ e => nomatch e
theorem lowPowerDrainComplete : Statement .lowPowerDrainComplete := fun _ _ e => nomatch e
theorem pwrreqExit : ∀ x, Statement (.pwrreqExit x) := fun _ _ _ e => nomatch e
theorem shutdown : ∀ x, Statement (.shutdown x) := fun _ _ _ e => nomatch e
theorem selfTestComplete : ∀ x, Statement (.selfTestComplete x) := fun _ _ _ e => nomatch e
theorem unitLossDetect : ∀ x y, Statement (.unitLossDetect x y) := fun _ _ _ _ e => nomatch e
theorem unitLossRecord : Statement .unitLossRecord := fun _ _ e => nomatch e
theorem scdLossRemap : Statement .scdLossRemap := fun _ _ e => nomatch e
theorem tableEntryRepair : ∀ x, Statement (.tableEntryRepair x) := fun _ _ _ e => nomatch e
theorem ppsInPulse : ∀ x, Statement (.ppsInPulse x) := fun _ _ _ e => nomatch e
theorem coldWriteHoldTimeout : ∀ x, Statement (.coldWriteHoldTimeout x) := fun _ _ _ e => nomatch e
theorem mgmtLinkLoss : ∀ x, Statement (.mgmtLinkLoss x) := fun _ _ _ e => nomatch e

end Sys2Proof.Laws.Shape
end

