-- ==== Sys2Proof/Laws/Registers.lean ====
section
/-! SUPPORT. Laws of the register file: what a register reads after the device stores it or another. -/

namespace Sys2Proof.Machine

theorem State.rv_lt (s : State) (r : Reg) (u i j : Nat) : s.rv r u i j < 2 ^ 32 := BitVec.isLt _

theorem State.rf_lt (s : State) (r : Reg) (hi lo u i j : Nat) : s.rf r hi lo u i j < 2 ^ (hi - lo + 1) := bits_lt _ _ _

/-- States with one register file read every register alike. -/
theorem State.rv_congr {s t : State} (h : t.regs = s.regs) (r : Reg) (u i j : Nat) : t.rv r u i j = s.rv r u i j := by
  unfold State.rv; rw [h]

theorem State.rf_congr {s t : State} (h : t.regs = s.regs) (r : Reg) (hi lo u i j : Nat) : t.rf r hi lo u i j = s.rf r hi lo u i j := by
  unfold State.rf; rw [State.rv_congr h]

theorem State.regs_rising_wv {s : State} (r : Reg) (v u i j : Nat) (h : s.regs.rising = true) : (s.wv r v u i j).regs.rising = true :=
  SMap.rising_set _ _ h

theorem State.regs_rising_wf {s : State} (r : Reg) (hi lo v u i j : Nat) (h : s.regs.rising = true) :
    (s.wf r hi lo v u i j).regs.rising = true := SMap.rising_set _ _ h

theorem State.regs_rising_bump {s : State} (r : Reg) (n u i : Nat) (h : s.regs.rising = true) : (s.bump r n u i).regs.rising = true :=
  SMap.rising_set _ _ h

theorem State.rv_wv_self {s : State} (r : Reg) (v u i j : Nat) (h : s.regs.rising = true) : (s.wv r v u i j).rv r u i j = v % 2 ^ 32 := by
  simp [State.wv, State.rv, SMap.get_set_self h]

theorem State.rv_wv_of_ne {s : State} {r r' : Reg} (v : Nat) {u i j u' i' j' : Nat} (h : s.regs.rising = true)
    (hne : (RegRef.mk r' u' i' j').addr ≠ (RegRef.mk r u i j).addr) : (s.wv r v u i j).rv r' u' i' j' = s.rv r' u' i' j' := by
  have h2 : SMap.find (SMap.set (RegRef.mk r u i j).reset s.regs (RegRef.mk r u i j).addr (BitVec.ofNat 32 v)) (RegRef.mk r' u' i' j').addr =
      s.regs.find (RegRef.mk r' u' i' j').addr := by
    unfold SMap.set
    split
    · exact SMap.find_erase_of_ne h hne
    · exact SMap.find_insert_of_ne _ _ hne
  simp [State.wv, State.rv, SMap.get, h2]

theorem State.rf_wv_of_ne {s : State} {r r' : Reg} (v : Nat) {hi lo u i j u' i' j' : Nat} (h : s.regs.rising = true)
    (hne : (RegRef.mk r' u' i' j').addr ≠ (RegRef.mk r u i j).addr) : (s.wv r v u i j).rf r' hi lo u' i' j' = s.rf r' hi lo u' i' j' := by
  simp [State.rf, State.rv_wv_of_ne v h hne]

theorem State.rv_wf_of_ne {s : State} {r r' : Reg} (hi lo v : Nat) {u i j u' i' j' : Nat} (h : s.regs.rising = true)
    (hne : (RegRef.mk r' u' i' j').addr ≠ (RegRef.mk r u i j).addr) : (s.wf r hi lo v u i j).rv r' u' i' j' = s.rv r' u' i' j' :=
  State.rv_wv_of_ne _ h hne

theorem State.rf_wf_of_ne {s : State} {r r' : Reg} (hi lo v : Nat) {hi' lo' u i j u' i' j' : Nat} (h : s.regs.rising = true)
    (hne : (RegRef.mk r' u' i' j').addr ≠ (RegRef.mk r u i j).addr) : (s.wf r hi lo v u i j).rf r' hi' lo' u' i' j' = s.rf r' hi' lo' u' i' j' :=
  State.rf_wv_of_ne _ h hne

theorem State.rv_wf_self {s : State} (r : Reg) {hi lo : Nat} (v u i j : Nat) (h : s.regs.rising = true) (h1 : hi < 32) (h2 : lo ≤ hi) :
    (s.wf r hi lo v u i j).rv r u i j = setBits (s.rv r u i j) hi lo v := by
  rw [State.wf, State.rv_wv_self r _ u i j h, Nat.mod_eq_of_lt (setBits_lt v (s.rv_lt r u i j) h1 h2)]

/-- The written field. -/
theorem State.rf_wf_self {s : State} (r : Reg) {hi lo : Nat} (v u i j : Nat) (h : s.regs.rising = true) (h1 : hi < 32) (h2 : lo ≤ hi) :
    (s.wf r hi lo v u i j).rf r hi lo u i j = v % 2 ^ (hi - lo + 1) := by
  rw [State.rf, State.rv_wf_self r v u i j h h1 h2, bits_setBits_self]

/-- Another field of the register. -/
theorem State.rf_wf_other {s : State} (r : Reg) {hi lo hi' lo' : Nat} (v u i j : Nat) (h : s.regs.rising = true) (h1 : hi < 32) (h2 : lo ≤ hi)
    (h3 : lo' ≤ hi') (h4 : hi' < lo ∨ hi < lo') : (s.wf r hi lo v u i j).rf r hi' lo' u i j = s.rf r hi' lo' u i j := by
  rw [State.rf, State.rv_wf_self r v u i j h h1 h2]
  rcases h4 with h4 | h4
  · exact bits_setBits_below _ _ _ _ h4 h3
  · exact bits_setBits_above _ _ _ _ h4 h2

theorem State.rv_bump_self {s : State} (r : Reg) (n u i : Nat) (h : s.regs.rising = true) :
    (s.bump r n u i).rv r u i 0 = (s.rv r u i + n) % 2 ^ 32 := by
  rw [State.bump, State.rv_wv_self _ _ _ _ _ h, wrap32, Nat.mod_mod]

theorem State.rv_bump_of_ne {s : State} {r r' : Reg} (n : Nat) {u i u' i' j' : Nat} (h : s.regs.rising = true)
    (hne : (RegRef.mk r' u' i' j').addr ≠ (RegRef.mk r u i 0).addr) : (s.bump r n u i).rv r' u' i' j' = s.rv r' u' i' j' :=
  State.rv_wv_of_ne _ h hne

/-- A register that nothing latched waits for acts on its stored value. -/
theorem State.av_eq_rv {s : State} {r : Reg} {u i j : Nat} (h : s.acts.find (RegRef.mk r u i j).addr = none) : s.av r u i j = s.rv r u i j := by
  simp [State.av, h]

end Sys2Proof.Machine
end

