-- ==== Sys2Proof/Tests/Slice0.lean ====
section
/-! SUPPORT. Tests: an ill-formed command for each check, a state and operands that meet the hypotheses of each statement, and
small runs. -/

namespace Sys2Proof.Tests

open Sys2Proof Sys2Proof.Machine Sys2Proof.Claim

set_option maxRecDepth 20000

/-! ### States and operands -/

/-- A linear fret entry of four lines at the start of the scratchpad window of SCD0. -/
def fret0 : BitVec 128 := BitVec.ofNat 128 (2 ^ 56 + 2 ^ 57 + 4 * 2 ^ 96)

/-- Segment 1 of tenant 0 with that fret entry on tile 0. -/
def seg1 : Segment :=
  { image := { no := 1, tenant := 0, len := 1, fretN := 1, chords := [0], fret32 := [fret0], fret31 := none, digest := 0 },
    st := .ready, pendRepl := false, epoch := 0, unloading := false }

/-- An engine grant of tenant 0 for the first granule of that window. -/
def grant0 : Grant := { Grant.fresh with base := 2 ^ 56, len := 1, rights := 0x0B, st := .active }

/-- A device in L0 and READY, with the control region available. -/
def live : State := State.reset.wv .ctlBringup 0xE0000010

/-- The reset state with segment 1 running. -/
def run1 : State :=
  { State.reset with
    time := { TimeSt.reset with running := 1 }, seg := [(0, seg1)], sec := { SecSt.reset with grants := [(0, grant0)] } }

def scaF : ScaF := { sd := 61, sa := 1, sb := 2, imm := 0x1FFFF, pred := 0 }
def prdF : PrdF := { pd := 15, pa := 1, pb := 2, sa := 3, sb := 4, imm := 5, pred := 0 }
def ldF : LdF := { portB := true, dst := 15, fret := 0, xreg := 0, imm := 0, pred := 0 }
def stF : StF := { src := 15, fret := 0, xreg := 0, imm := 0, pred := 0 }
def rduF : RduF :=
  { halfB := true, vd := 1, va := 2, vb := 0, vc := 0, sa := 3, fmt := 0, ofmt := 0, mx := false, rnd := 0, sat := false,
    sparse := false, rsv := 0, pred := 0 }
def fluF : FluF := { fret := 0, xreg := 0, fmt := 0, cmp := 0xB, va := 1, vd := 2, boff := 31, rsv := 0, pred := 0 }
def gteF : GteF :=
  { src := 0, dst := 0, idx := 0, xreg := 0, nrow := 0, rowlen := 1, bmv := 0, bmen := false, ra := false, ctr := 0,
    ctren := false, fmt := 0, rsv := 0, pred := 0 }
def dxaF : DxaF :=
  { array := 3, vq := 0, vr := 0, vd := 0, acc := 0, fmt := 0, mx := false, sp24 := false, sa := 0, rsv := 0, pred := 0 }
def rkuF : RkuF := { vs := 1, vi := 0, vd := 3, k := 15, fmt := 0, dir := true, st := 3, rsv := 0, pred := 0 }
def movF : MovF := { src := 0, dst := 0, xreg := 0, yreg := 0, len := 0, ctr := 0, ctren := false, inv := false, rsv := 0, pred := 0 }
def ret0 : RetPath := { ip := 1, udp := 2, dstIp := 3, v4 := false, vlan := none }
def req0 : LineReq :=
  { cls := 3, tenant := 0, tepoch := 0, mepoch := 0, reqid := 0, rkey := 0, opid := 7, fidx := 0, nfrm := 1, arg := 0, addr := 0,
    len := 8, data := [], cmp := false, base := none, ext := [], ctr := 0, hint := 0, port := 0, first := true, last := true,
    spread := false, ce := false, enc := true, internal := false, ret := ret0 }

/-! ### Well-formedness: an ill-formed term for each check -/

theorem test_chordIssue_ill : Instr.wellFormed (.chordIssue 1408) = false := by decide
theorem test_fixed_destination_ill : Instr.wellFormed (.add 0 { scaF with sd := 62 }) = false := by decide
theorem test_fget_selector_ill : Instr.wellFormed (.fget 0 { scaF with imm := 0x300 }) = false := by decide
theorem test_predicate_mode_ill : Instr.wellFormed (.pand 0 { prdF with pred := 0x30 }) = false := by decide
theorem test_pcmp_ill : Instr.wellFormed (.pcmp 0 { prdF with imm := 6 }) = false := by decide
theorem test_load_destination_ill : Instr.wellFormed (.ldp 0 { ldF with dst := 16 }) = false := by decide
theorem test_store_source_ill : Instr.wellFormed (.stp 0 { stF with src := 16 }) = false := by decide
theorem test_rdu_format_ill : Instr.wellFormed (.radd 0 { rduF with ofmt := 1 }) = false := by decide
theorem test_rdu_field_ill : Instr.wellFormed (.radd 0 { rduF with rsv := 1 }) = false := by decide
theorem test_flu_offset_ill : Instr.wellFormed (.fSet 0 { fluF with fmt := 6, boff := 1 }) = false := by decide
theorem test_gather_length_ill : Instr.wellFormed (.gidx 0 { gteF with rowlen := 0 }) = false := by decide
theorem test_dxa_field_ill : Instr.wellFormed (.dclr 0 { dxaF with sa := 1 }) = false := by decide
theorem test_rank_length_ill : Instr.wellFormed (.rkout 0 { rkuF with k := 16 }) = false := by decide
theorem test_move_field_ill : Instr.wellFormed (.mdone 0 { movF with len := 1 }) = false := by decide
theorem test_port_ill : Instr.wellFormed (.egressStart 642) = false := by decide
theorem test_stack_ill : Instr.wellFormed (.refreshWindow 24 0 0) = false := by decide
theorem test_unit_ill : Instr.wellFormed (.unitLossDetect (.stack 24) 0) = false := by decide
theorem test_die_ill : Instr.wellFormed (.laneFault 20 0) = false := by decide
theorem test_port_register_ill : Instr.wellFormed (.subscriberMapWrite (.portcfg 640) 0) = false := by decide
theorem test_i3c_length_ill : Instr.wellFormed (.i3cPrivateWrite [0]) = false := by decide
theorem test_image_type_ill : Instr.wellFormed (.fwActivationRetry 7) = false := by decide
theorem test_core_ill : Instr.wellFormed (.watchdogExpire 21) = false := by decide
theorem test_trace_ill : Instr.wellFormed (.logEntryWrite { core := 21, level := 0, number := 0, args := [] }) = false := by decide
theorem test_piece_ill : Instr.wellFormed (.load { req0 with len := 0 }) = false := by decide
theorem test_message_ill : Instr.wellFormed
    (.heartbeat { fidx := 2, nfrm := 1, serial := 0, epoch := 0, capo := 0, seq := 0, chunk := 0, payload := [], tagOk := true }) = false := by
  decide

/-! ### Chord slots -/

theorem witness_ScalarResults : acts run1 0 scaF.pred ∧ predOk scaF.pred false = true ∧ fixedS scaF.sd = false := by
  unfold acts; decide
theorem witness_ScalarResults_fget : (BitVec.toNat (0 : BitVec 17) / 256 % 4 = 0) ∧ (BitVec.toNat (0x1FF : BitVec 17) / 256 % 4 = 1) ∧
    (BitVec.toNat (0x2FF : BitVec 17) / 256 % 4 = 2) := by decide
theorem witness_PredicateResults : acts run1 31 prdF.pred ∧ predOk prdF.pred false = true ∧ prdF.imm.toNat % 8 < 6 := by
  unfold acts; decide
theorem witness_LandingsWriteTheirRegister : canonical run1 ∧ fixedS 61 = false ∧ fixedS 63 = true ∧
    SMap.canon DxaTile.fresh run1.scd.tiles = true ∧ run1.scd.ranks.rising = true := by
  unfold canonical; decide

/-- The conditions of an access of run1 on SCD0 through fret entry 0. -/
abbrev inFret (off a n align bit : Nat) (kinds : List Nat) : Prop :=
  let e := run1.fret 0 0
  let ea := effAddr e (run1.sreg 0 0) off
  ea = (a : Int) ∧ fretKind e ∈ kinds ∧ (fretBase e : Int) ≤ ea ∧ ea + n ≤ fretBase e + 128 * fretExtent e ∧ a % align = 0 ∧
    windowOf 0 ≤ a ∧ a + n ≤ windowOf 0 + 0x1800000 ∧ run1.engGranted run1.segTenant bit a n = true ∧ run1.uncorrectable a n = false
theorem witness_ScratchpadAccessResults_ldv :
    acts run1 0 ldF.pred ∧ predOk ldF.pred true = true ∧ inFret 0 (2 ^ 56) 512 64 0 [1, 2, 4] := by
  unfold acts; decide
theorem witness_ScratchpadAccessResults_lds :
    predOk ldF.pred false = true ∧ fixedS ldF.dst = false ∧ inFret (8 * 63) (2 ^ 56 + 504) 8 8 0 [1, 2] := by decide
theorem witness_ScratchpadAccessResults_ldx_ldp : ldF.dst.toNat < 16 ∧ inFret 0 (2 ^ 56) 512 64 0 [1, 2] ∧
    inFret (8 * 60) (2 ^ 56 + 480) 32 32 0 [1, 2, 4] := by decide
theorem witness_ScratchpadAccessResults_stores : predOk stF.pred true = true ∧ inFret 0 (2 ^ 56) 512 64 1 [1, 2, 4] ∧
    inFret (8 * 63) (2 ^ 56 + 504) 8 8 1 [1, 2] ∧ stF.src.toNat < 16 ∧ inFret (8 * 60) (2 ^ 56 + 480) 32 32 1 [1, 2, 4] := by
  decide

theorem witness_GatesAndChordFaults_gate : ¬acts run1 0 0x10 ∧ Instr.wellFormed (.add 0 { scaF with pred := 0x10 }) = true ∧
    Instr.wellFormed (.radd 0 { rduF with pred := 0x10 }) = true ∧ run1.takes (.dclr 0 { dxaF with pred := 0x10 }) = true := by
  unfold acts; decide
theorem witness_GatesAndChordFaults_loads : run1.regs.rising = true ∧ acts run1 1 ldF.pred ∧
    ldOk .ldv ldF = true ∧ run1.ldAddr .ldv 1 ldF = none ∧ ldOk .lds ldF = true ∧ run1.ldAddr .lds 1 ldF = none ∧
    ldOk .ldx ldF = true ∧ run1.ldAddr .ldx 1 ldF = none ∧ ldOk .ldp ldF = true ∧ run1.ldAddr .ldp 1 ldF = none := by
  unfold acts; decide
theorem witness_GatesAndChordFaults_stores : stOk .stv stF = true ∧ run1.stAddr .stv 0 { stF with imm := 1 } = none ∧
    stOk .sts stF = true ∧ run1.stAddr .sts 0 { stF with imm := 64 } = none ∧
    stOk .stp stF = true ∧ run1.stAddr .stp 0 { stF with imm := 61 } = none := by decide

theorem witness_ReduceElementwiseResults : acts run1 0 rduF.pred ∧ rduOk .radd rduF = true ∧ rduOk .rmax rduF = true ∧
    rduOk .rmin rduF = true ∧ rduOk .rfma rduF = true := by
  unfold acts; decide
theorem witness_ReduceAccumulateResults : acts run1 0 rduF.pred ∧ rduOk .racc { rduF with fmt := 3, ofmt := 0, vb := 3 } = true ∧
    rduOk .racc { rduF with fmt := 10, ofmt := 10, vb := 0 } = true ∧ rduOk .rwacc { rduF with fmt := 1, vb := 1 } = true := by
  unfold acts; decide
theorem witness_ReduceSelectResults : acts run1 0 rduF.pred ∧ rduOk .rarg rduF = true ∧
    rduOk .ramax rduF = true ∧ rduOk .rgtopk rduF = true ∧ (run1.sreg 0 rduF.sa).toNat / 2 ^ 8 % 2 ^ 8 + 1 ≤ fmtCount rduF.fmt.toNat := by
  unfold acts; decide
/-- run1 with S3 of SCD0 out of the range of RGTOPK's control word. -/
def runC : State := run1.setS 0 3 (BitVec.ofNat 64 (2 ^ 16))
theorem witness_ReduceSelectResults_fault :
    ¬((runC.sreg 0 rduF.sa).toNat / 2 ^ 16 = 0 ∧ (runC.sreg 0 rduF.sa).toNat / 2 ^ 6 % 4 = 0) := by decide
theorem witness_ReduceConvertResults : acts run1 0 rduF.pred ∧
    rduOk .rcvt { rduF with fmt := 0, ofmt := 1, vc := 1 } = true ∧ 128 * (1 + 1) ≤ fmtCount 1 ∧
    rduOk .rcvt { rduF with fmt := 3, ofmt := 0, vc := 0, mx := true } = true ∧
    rduOk .rcvt { rduF with fmt := 0, ofmt := 5, vc := 4 } = true ∧ 128 * (4 + 1) ≤ fmtCount 5 ∧
    rduOk .rsplat rduF = true ∧ rduOk .rnzm rduF = true := by
  unfold acts; decide
theorem witness_ReduceConvertResults_fault :
    fmtCount 0 < 128 * (((run1.setS 0 3 (BitVec.ofNat 64 (2 ^ 32))).sreg 0 3).toNat / 2 ^ 32 + 1) := by decide
theorem witness_ReduceQuantizeResults : acts run1 0 rduF.pred ∧ rduOk .rmxq { rduF with ofmt := 6 } = true ∧
    rduOk .rmxq { rduF with ofmt := 5 } = true := by
  unfold acts; decide
theorem witness_FilterSelectionResults : acts run1 0 fluF.pred ∧ fluOk fluF = true ∧ fluOk { fluF with fmt := 10, cmp := 0 } = true ∧
    inFret 0 (2 ^ 56) 512 64 0 [1, 2] := by
  unfold acts; decide

theorem witness_DistanceResults : acts run1 0 dxaF.pred ∧ run1.noDistance = false ∧ dxaOk .dqld { dxaF with fmt := 8 } = true ∧
    run1.dqldBad 0 { dxaF with fmt := 8 } (511 * 2 ^ 32) = false ∧ dxaOk .dscore { dxaF with fmt := 11 } = true ∧ dxaOk .dclr dxaF = true ∧
    dxaOk .dout dxaF = true := by
  unfold acts; decide
theorem witness_DistanceResults_fault : run1.dqldBad 0 { dxaF with fmt := 8 } (2 ^ 48 - 1) = true := by decide
theorem witness_RankResults : acts run1 0 rkuF.pred ∧ run1.noDistance = false ∧ rkuOk .rkmrg rkuF = true ∧
    rkuOk .rkmrgp { rkuF with k := 1023, fmt := 9 } = true ∧ rkuOk .rkout rkuF = true ∧ rkuOk .rkclr rkuF = true := by
  unfold acts; decide
theorem witness_RankResults_order : fmtInt32 = fmtInt32 ∧
    List.Pairwise (fun a b => ranksBefore false fmtInt32 b a = false) [((5 : BitVec 32), (1 : BitVec 32)), (3, 2), (3, 9)] := by decide
theorem witness_EngineOperationIssued : (∀ x ∈ run1.eng.ops, x.id < run1.lane.nextId) ∧ acts run1 0 gteF.pred ∧
    (run1.eng.ops.filter fun x => x.k == 0 && x.gte == true).length < 1024 ∧ gteOk .gidx gteF = true ∧ gteOk .glin gteF = true ∧
    gteOk .gpage gteF = true ∧ gteOk .gbag gteF = true ∧ movOk .mcopy movF = true ∧ movOk .msend movF = true ∧
    movOk .mred movF = true ∧ movOk .mdone movF = true := by
  unfold acts; decide

/-- An operation in the table of the gather engine of SCD0. -/
def op0 : EngOp :=
  { id := 0, k := 0, kind := .gidx, gte := true, gf := gteF, mf := movF, sx := 0, sy := 0, xidx := 0, bm := 0, src := 0, dst := 0,
    issue := 0, start := 0, occ := 8, seg := 1, chord := 0, tenant := 0, epoch := 0, begun := true, due := none, reads := [],
    writes := [], holders := [], carried := false, ahead := false, bmLater := true, rows := [], prefix_ := [], got := [], bad := [], met := [], missed := [],
    left := 0, issued := true, grants := [], landed := true, desc := [] }
/-- SCD0 with that operation and its events. -/
def engaged : State :=
  { live with eng := { EngSt.reset with ops := [op0] }, timed := [(16, .bitmap 0 0), (20, .engine 0 0), (21, .takeEngine 0 0)] }
theorem witness_EngineRowResults : engaged.eng.ops.find? (fun x => x.id == 0) = some op0 ∧ op0.bmLater = true ∧
    eventAt engaged (.bitmap 0 0) 16 ∧ eventAt engaged (.engine 0 0) 20 ∧ eventAt engaged (.takeEngine 0 0) 21 ∧ engaged.sectorsLeft 0 = [] ∧
    live.timed.find? (fun x => x.2 == .engine 0 0) = none ∧
    { op0 with begun := false, carried := true }.begun = false ∧ { op0 with begun := false, carried := true }.carried = true := by
  unfold eventAt; decide
theorem witness_SlotEncodingRoundTrip : slotCarries 1 (.sca .add scaF) ∧
    slotBits (BitVec.ofNat 1024 (slotWord (.sca .add scaF) <<< (slotPlace 1).1)) 1 = slotWord (.sca .add scaF) := by
  unfold slotCarries; decide
theorem witness_ChordIssuesItsSlots : run1.scdOut 31 = false ∧ slotRow 31 (.sca .add scaF) = some (.add 31 scaF) ∧
    run1.takes (.add 31 scaF) = true ∧ run1.time.skipped = false ∧ run1.seqDark = false ∧ run1.idleChord (run1.chordAt 0) = false := by
  decide

/-! ### Commands, memory, clock, registers -/

theorem witness_CommandsStopOnlyWhenIllFormed : run1.takes (.add 0 scaF) = true ∧
    nextOf (exec (.unitLossDetect (.stack 24) 0) run1) = none := by decide
theorem witness_MemoryAndClockKeptByEveryStep : memoryKept State.reset ∧ (nextOf (step State.reset)).isSome = true := by
  unfold memoryKept; decide
theorem witness_TablesKeptByEveryStep : tablesKept State.reset ∧ (nextOf (step State.reset)).isSome = true := by
  unfold tablesKept canonical; decide
theorem witness_MemoryReadsWhatWasStored : SMap.canon (0 : Byte) [(5, 1), (7, 2)] = true := by decide
theorem witness_ClockRowsRunTheClock : (1407 : BitVec 11).toNat < 1408 ∧ (23 : BitVec 5).toNat < 24 ∧ State.reset.time.cy < 1536 ∧
    State.reset.asleep = true := by decide
theorem witness_ClockRowsRunTheClock_awake : live.asleep = false := by decide
theorem witness_TurnaroundClearsRegisters : { TimeSt.reset with cy := 1472 }.cy = 1472 := by decide
theorem witness_ChordsIssueOnTheirCy : (({ live with time := { TimeSt.reset with aligned := true, cy := 1407 } } : State).chordsOn = true) ∧
    live.chordsOn = false ∧ (1408 : Nat) ≤ 1408 := by decide
theorem witness_ChangesTakeEffectAtTheirStroke : 1471 < 1472 ∧ (1472 : Nat) ≤ 1472 ∧
    ({ live with due := [(0, .resetWarm)] } : State).due = [(0, .resetWarm)] := by decide

theorem witness_RegisterAccessCodes : rowTarget (.raclr 3) = some (⟨.scdRaclr, 3, 0, 0⟩, 1) ∧ accepts live ⟨.scdRaclr, 3, 0, 0⟩ 1 ∧
    ¬accepts (live.wv .ctlScdout 8) ⟨.scdRaclr, 3, 0, 0⟩ 1 ∧
    (RegRef.rsv ⟨.seqSkipctl, 0, 0, 0⟩ &&& (0x100 : Word).toNat) ≠ 0 ∧
    RegRef.reservedValue ⟨.qosSmpSize, 0, 0, 0⟩ 3 = true := by
  unfold accepts; decide
theorem witness_RegisterAccessCodes_bits : (Reg.seqAlign.spec.mask .rw).testBit 16 = true ∧
    (Reg.seqAlign.spec.mask .w1c).testBit 30 = true ∧ (Reg.seqAlign.spec.mask .ro).testBit 31 = true ∧ live.regs.rising = true := by
  decide
theorem witness_RegisterWriteResults_shapers : accepts live ⟨.qosSubShr, 0, 16383, 0⟩ 1 ∧ accepts live ⟨.qosSubShb, 0, 0, 0⟩ 0xFFFFF ∧
    accepts live ⟨.qosSvcShr, 0, 16383, 7⟩ 1 ∧ accepts live ⟨.qosSvcShb, 0, 0, 0⟩ 0 := by
  unfold accepts; decide
/-- A live device whose sample ring is placed. -/
def ringed : State := (live.wv .qosSmpBaseHi 0x17F).wv .qosSmpBaseLo 0xC0000000
theorem witness_RegisterWriteResults_rings : rowTarget (.meterWrite 8191 2 0x00010001) = some (⟨.qosMetBurst, 0, 8191, 0⟩, 0x00010001) ∧
    accepts live ⟨.qosMetCtl, 0, 8191, 0⟩ 1 ∧
    accepts live ⟨.qosMirA, 0, 15, 0⟩ 0 ∧ accepts live ⟨.qosSmpBaseHi, 0, 0, 0⟩ 0x17F ∧
    accepts ringed ⟨.qosSmpSize, 0, 0, 0⟩ 5 ∧
    accepts live ⟨.ctlLogSize, 0, 0, 0⟩ 4 ∧ accepts live ⟨.ctlEvtSize, 0, 0, 0⟩ 4 ∧
    accepts live ⟨.ctlLogBaseLo, 0, 0, 0⟩ 0xC0200000 := by
  unfold accepts; decide
theorem witness_RegisterWriteResults_deferred : accepts live ⟨.laneOctcfg, 19, 3, 0⟩ 0x80000000 ∧ accepts live ⟨.dirAgent, 31, 31, 0⟩ 0 ∧
    rowTarget (.subscriberMapWrite (.portcfg 639) 0x10000000) = some (⟨.qosPortcfg, 0, 639, 0⟩, 0x10000000) ∧
    accepts live ⟨.qosPortcfg, 0, 639, 0⟩ 0x10000000 := by
  unfold accepts; decide
theorem witness_RegisterCommandsAndSlotSchedule : live.scdOut 31 = false ∧ (∀ e ∈ live.mem.inval, e.byReg = true → e.k ≠ 31) ∧
    (255 : Word).toNat < 256 ∧ (511 : Word).toNat < 512 ∧ ¬((512 : Word).toNat < 512 ∧ live.scdOut 0 = false) ∧
    accepts live ⟨.pheLsrctl, 15, 0, 0⟩ 0x80000000 ∧ live.lanes.lsrFltN.getLsbD 15 = true ∧
    ({ LanesSt.reset with lsrFltN := 0 }).lsrFltN.getLsbD 15 = false := by
  unfold accepts; decide
theorem witness_RegisterCommandsAndSlotSchedule_arm : live.time.slotAt = none ∧ 1 ≤ (64 : Word).toNat % 128 ∧ (64 : Word).toNat % 128 ≤ 64 ∧
    latchedAt { live with due := [(0, .slotSchedule)] } (fun d => d == .slotSchedule) .slotSchedule 0 ∧
    (64 : Word).getLsbD 28 = false ∧ (RegRef.rsv ⟨.seqSlotsched, 0, 0, 0⟩ &&& ((64 : Word) ||| 0x80000000).toNat) = 0 ∧
    1536 * (live.rv .seqSlotschedAtHi * 2 ^ 32 + live.rv .seqSlotschedAtLo) ≤ live.now + 64 ∧
    1536 * ((live.wv .seqSlotschedAtLo 1).rv .seqSlotschedAtHi * 2 ^ 32 + (live.wv .seqSlotschedAtLo 1).rv .seqSlotschedAtLo) >
      (live.wv .seqSlotschedAtLo 1).now + 64 := by
  unfold latchedAt; decide
theorem witness_RegisterCommandsAndSlotSchedule_cancel :
    ({ TimeSt.reset with slotAt := some 1 }).slotAt = some 1 ∧ live.now + 64 < 1536 * 1 ∧ (1 : Word).getLsbD 31 = false ∧
    (RegRef.rsv ⟨.seqSlotsched, 0, 0, 0⟩ &&& ((1 : Word) ||| 0x10000000).toNat) = 0 ∧ (1, Due.slotSchedule) ∈ [(1, Due.slotSchedule)] := by decide

/-- A context of SCD2 with one line, and the same one open. -/
def ctxArmed : State := live.wv .scdRcxLen 1 2 7
def ctxOpen_ : State := (ctxArmed.wf .scdRcxCfg 31 30 1 2 7)
theorem witness_ContextLifeCycle : ctxArmed.regs.rising = true ∧ ctxArmed.rcx.rising = true ∧ SMap.canon 0 ctxArmed.mem.bytes = true ∧
    ctxArmed.scdOut 2 = false ∧ ctxArmed.rf .scdRcxCfg 31 30 2 7 ≠ 1 ∧ ctxArmed.rcxPlaced 2 7 = true ∧
    latchedAt { ctxArmed with due := [(0, .ctxOpen 2 7)] } (fun d => d == .ctxOpen 2 7) (.ctxOpen 2 7) 0 ∧ 1536 * 0 ≤ ctxArmed.now ∧
    live.rcxPlaced 2 7 = false := by
  unfold latchedAt; decide
theorem witness_ContextLifeCycle_open : ctxOpen_.regs.rising = true ∧ ctxOpen_.rf .scdRcxCfg 31 30 2 7 = 1 ∧
    (ctxOpen_.ctx 2 7).completing = none ∧ ctxOpen_.scdOut 2 = false := by decide
theorem witness_ContextLifeCycle_reopen :
    let s : State := { (ctxArmed.wf .scdRcxCfg 31 30 2 2 7).wf .scdRcxCfg 18 18 1 2 7 with due := [(0, .ctxReopen 2 7)] }
    latchedAt s (fun d => d == .ctxReopen 2 7) (.ctxReopen 2 7) 0 ∧ 1536 * 0 ≤ s.now ∧ s.rf .scdRcxCfg 31 30 2 7 = 2 ∧ s.rcxAuto 2 7 = true := by
  unfold latchedAt; decide

/-- Octet 0 of PHE0 at one port of eight lanes, its laser on and its port up. -/
def lit : State :=
  let s := (live.wv .laneOctcfg 0x80000000 0 0).wf .pheLsrctl 31 31 1 0
  { s with lanes := { s.lanes with up := [(0, true)] } }
/-- A spare that retrains. -/
def spare0 : Retrain := { unit := 0, spare := 0, lane := 7, from_ := 4, port := 0 }
theorem witness_LanesAndPorts_faults : lit.regs.rising = true ∧ lit.lanes.up.rising = true ∧ lit.laneInUse 0 7 = true ∧
    lit.laneInUse 0 8 = false ∧ (lit.wv .laneSwapcfg 0 0).rf .laneSwapcfg 31 31 0 = 0 ∧ lit.rf .laneSwapcfg 31 31 0 = 1 ∧
    lit.rf .laneSpare 31 30 0 0 = 0 ∧ (∀ x ∈ lit.lanes.retrain, ¬(x.unit = 0 ∧ x.spare = 0)) ∧
    (lit.wf .laneSpare 30 30 1 0 0).rf .laneSpare 31 30 0 0 ≠ 0 ∧
    lit.rf .laneSwapcfg 15 0 0 < (0x1001 : BitVec 16).toNat ∧ (0x1000 : BitVec 16).toNat ≤ lit.rf .laneSwapcfg 15 0 0 := by decide
theorem witness_LanesAndPorts_training :
    [spare0].find? (fun x => x.unit == 0 && x.spare == 0) = some spare0 ∧ spare0.lane < 32 ∧ spare0.port < 640 ∧
    lit.lanesGood 0 = true ∧ lit.laserOn 0 = true ∧ lit.portUsable 0 = true ∧ live.portUp 0 = false ∧
    (∀ x ∈ lit.lanes.retrain, x.port ≠ 0) ∧ lit.portUsable 1 = false ∧ live.lanes.straps.getLsbD 2 = false ∧
    live.mgmtFailed true = false := by decide
theorem witness_LanesAndPorts_down : lit.acts.rising = true ∧ latchedAt { lit with due := [(1, .octet 0 0 7)] } (octetDue 0 0) (.octet 0 0 7) 1 ∧
    (∀ e ∈ [(1, Due.octet 0 0 7)], ∀ w, e.2 = .octet 0 0 w → w = 7) := by
  refine ⟨by decide, by unfold latchedAt; decide, ?_⟩
  simp
theorem witness_TimePinsAndI3c : live.regs.rising = true ∧ false = live.ptpOnM1 ∧ (live.wf .ctlMgmt 31 31 1).portUp 640 = true ∧
    live.rf .seqAlign 17 16 ≠ 2 ∧ (live.wf .seqAlign 17 16 2).rf .seqAlign 17 16 = 2 ∧ 64 < (65 : BitVec 16).toInt.natAbs ∧
    (-64 : BitVec 16).toInt.natAbs ≤ 64 ∧ (live.wf .seqAlign 31 31 1).rf .seqAlign 31 31 = 1 ∧ live.ready = true ∧ true ≠ live.ptpOnM1 ∧
    live.lanes.frstN = true ∧ live.lanes.pwrGood = true ∧ i3cReaches 0x1418 = true ∧ i3cReaches 8 = false ∧
    RegRef.locate 0x1418 = some ⟨.ctlPwrreq, 0, 0, 0⟩ ∧ (leBytes 4 0).length = 4 := by decide

/-! ### Request lanes -/

/-- An extent at place `i` of the mapped space. -/
def extAt (i form : Nat) : Extent :=
  { vbase := 2 ^ 53 + i * 2 ^ 21, len := 1, form := form, store := 0, ovfk := 1, st := 0, target := 0, aux := 0x200000, port := 0, baseid := 0,
    trayIp := 0 }
/-- A grant entry with every right for requesters, `len` granules from `base`. -/
def grantAt (base len : Nat) : Grant := { Grant.fresh with base := base, len := len, rights := 0x0F, st := .active }
/-- Tenant 0 active with a requester bound to port 0 and grants for near memory, the mapped extents and a scratchpad window. -/
def serve : State :=
  let s := live.wv .secBind 0x80000000 0 0
  { s with
    sec := { s.sec with
      tenants := [(0, { st := .active, epoch := 0, kshash := 0 })]
      grants := [(0, grantAt 0 1), (1, grantAt (2 ^ 53) 5), (2, grantAt (2 ^ 56) 1)] }
    tier := { s.tier with ext := [(0, extAt 0 1), (1, extAt 1 3), (2, extAt 2 4), (3, { extAt 3 2 with st := 4 })] } }
/-- A request of a kind at an address. -/
def ask (k : ReqKind) (a : Addr) (n : BitVec 8) : Req :=
  { kind := k, r := { req0 with cls := 2, addr := a, len := n, data := if k.read then [] else List.replicate n.toNat 1 } }
/-- The directory entry of line 0, with agent 1 on port 512 as its owner or sharer. -/
def entered (st : LineSt) : State :=
  let s := serve.wv .dirAgent 0x80000200 0 1
  { s with coh := { s.coh with entries := [(0, { way := 0, st := st, bcast := false, owner := if st = .s then none else some 1,
                                                 sharers := if st = .s then [1] else [] })] } }

theorem served_line {s : State} {x : Req} {pl : Place} {g : Option Nat} (b : Nat) (hb : pl.laneAddr x.r.addr.toNat = some b)
    (h : s.scdOut (s.pieceHome x) = false ∧ s.admission (s.pieceHome x) x = (pl, g, .ok) ∧ s.leader (s.pieceHome x) x s.now = none ∧
      s.mustHold (s.pieceHome x) x (b / 128) false = false ∧ s.orphan (b / 128) = false) : served s x pl g := by
  refine ⟨h.1, h.2.1, Or.inl h.2.2.1, fun a ha => ?_⟩
  rw [hb] at ha; cases ha
  exact ⟨h.2.2.2.1, Or.inl h.2.2.2.2⟩

theorem served_elsewhere {s : State} {x : Req} {pl : Place} {g : Option Nat} (hb : pl.laneAddr x.r.addr.toNat = none)
    (h : s.scdOut (s.pieceHome x) = false ∧ s.admission (s.pieceHome x) x = (pl, g, .ok) ∧ s.leader (s.pieceHome x) x s.now = none) :
    served s x pl g := by
  refine ⟨h.1, h.2.1, Or.inl h.2.2, fun a ha => ?_⟩
  rw [hb] at ha; cases ha

theorem witness_LoadsByPlace_near : served serve (ask .load 0 8) (.near 0) (some 0) ∧ pieceOk .load (ask .load 0 8).r = true ∧
    served serve (ask .get 0x1FFF80 128) (.near 0x1FFF80) (some 0) ∧ (serve.dir 0).st = .i := by
  refine ⟨served_line 0 rfl (by decide), by decide, served_line 0x1FFF80 rfl (by decide), by decide⟩
theorem witness_LoadsByPlace_lines : served (entered .s) (ask .load 0 8) (.near 0) (some 0) ∧
    served (entered .o) (ask .load 0 8) (.near 0) (some 0) ∧ served (entered .e) (ask .load 0 8) (.near 0) (some 0) ∧
    served (entered .m) (ask .load 0 8) (.near 0) (some 0) ∧ (∀ y ∈ (entered .m).coh.txns, y.id < (entered .m).lane.nextId) ∧
    (∃ e, (entered .m).dir 0 = e ∧ e.st = .m ∧ ((entered .m).agentPort 0 1).isSome = true) := by
  refine ⟨served_line 0 rfl (by decide), served_line 0 rfl (by decide), served_line 0 rfl (by decide), served_line 0 rfl (by decide),
    by decide, _, rfl, by decide⟩
theorem witness_LoadsByPlace_elsewhere : served serve (ask .load 0x100000000000000 8) (.scratch 0) (some 2) ∧
    served serve (ask .load 0x20000000000000 8) (.far 0) (some 1) ∧ served serve (ask .get 0x20000000200000 8) (.cold 1) (some 1) ∧
    served serve (ask .load 0x20000000400000 8) (.slot 2) (some 1) ∧ served serve (ask .load 0x20000000600000 8) .lost (some 1) ∧
    serve.slotLost (serve.extent 2) 0 = false ∧ (serve.readBlock (serve.extent 2) 0).1 = some (List.replicate 256 0) := by
  refine ⟨served_elsewhere rfl (by decide), served_elsewhere rfl (by decide), served_elsewhere rfl (by decide), served_elsewhere rfl (by decide),
    served_elsewhere rfl (by decide), by decide, by decide⟩

theorem witness_WritesByPlace : served serve (ask .store 0 8) (.near 0) (some 0) ∧ pieceOk .store (ask .store 0 8).r = true ∧
    served serve (ask .pstore 0x100000000000000 8) (.scratch 0) (some 2) ∧ served (entered .e) (ask .put 0 8) (.near 0) (some 0) ∧
    served serve (ask .store 0x20000000000000 8) (.far 0) (some 1) ∧ served serve (ask .put 0x20000000200000 8) (.cold 1) (some 1) ∧
    served serve (ask .pstore 0x20000000400000 8) (.slot 2) (some 1) ∧ served serve (ask .store 0x20000000600000 8) .lost (some 1) := by
  refine ⟨served_line 0 rfl (by decide), by decide, served_elsewhere rfl (by decide), served_line 0 rfl (by decide),
    served_elsewhere rfl (by decide), served_elsewhere rfl (by decide), served_elsewhere rfl (by decide), served_elsewhere rfl (by decide)⟩
/-- A RETR of segment 1, whose 8 bytes name the segment first. -/
def retrAsk : Req := { ask .retr 0 8 with r := { (ask .retr 0 8).r with ext := [0, 1, 0, 0, 0, 0, 0, 0] } }
theorem witness_WritesByPlace_retr : served { serve with seg := [(0, seg1)] } retrAsk (.near 0) (some 0) ∧ pieceOk .retr retrAsk.r = true := by
  exact ⟨served_line 0 rfl (by decide), by decide⟩

/-- An atomic on one 8-byte word. -/
def atomAsk (op : AtomicOp) (a : Addr) : Req :=
  { kind := .atomic op, r := { req0 with cls := 2, addr := a, len := 8, arg := BitVec.ofNat 32 (65536 * op.code + 8), ext := List.replicate 16 1 } }
def pubAsk : Req := { kind := .publish, r := { req0 with cls := 2, addr := 0, len := 16, ext := [1, 0, 0, 0, 0, 0, 0, 0] ++ List.replicate 8 2 } }
theorem witness_AtomicsByPlace : served serve (atomAsk .fadd 0) (.near 0) (some 0) ∧ pieceOk (.atomic .fadd) (atomAsk .fadd 0).r = true ∧
    served (entered .m) (atomAsk .cas 0) (.near 0) (some 0) ∧ served serve (atomAsk .swap 0x100000000000000) (.scratch 0) (some 2) ∧
    served serve (atomAsk .fxor 0x20000000000000) (.far 0) (some 1) ∧ served serve (atomAsk .fminu 0x20000000200000) (.cold 1) (some 1) ∧
    served serve pubAsk (.near 0) (some 0) ∧ pieceOk .publish pubAsk.r = true ∧ serve.regs.rising = true ∧
    leNat (serve.laneRead 0 6) < beAt pubAsk.r.ext 0 6 := by
  refine ⟨served_line 0 rfl (by decide), by decide, served_line 0 rfl (by decide), served_elsewhere rfl (by decide),
    served_elsewhere rfl (by decide), served_elsewhere rfl (by decide), served_line 0 rfl (by decide), by decide, by decide, by decide⟩

/-- The fields of a contribution line of kind `k` and `n` zero bytes for context 7 of SCD2. -/
def redReq (k : RedKind) (n : Nat) : LineReq :=
  { req0 with cls := 2, addr := 0x207, len := 0, data := List.replicate n 0, ext := List.replicate 4 0 ++ BitVec.ofNat 8 k.code :: List.replicate 11 0 }
def redAsk (k : RedKind) (n : Nat) : Req := { kind := .red k, r := redReq k n }
/-- Context 7 of SCD2 open, with a grant for its scratchpad. -/
def redOpen : State :=
  let s := (serve.wv .scdRcxLen 1 2 7).wf .scdRcxCfg 31 30 1 2 7
  { s with sec := { s.sec with grants := s.sec.grants ++ [(3, grantAt (windowOf 2) 4)] } }
theorem witness_ContributionLines : served redOpen (redAsk .dense 128) (.scratch 2) (some 3) ∧ pieceOk (.red .dense) (redReq .dense 128) = true ∧
    served redOpen (redAsk .done 0) (.scratch 2) (some 3) ∧ pieceOk (.red .done) (redReq .done 0) = true ∧
    redOpen.regs.rising = true ∧ redOpen.rcx.rising = true ∧ redOpen.rcxState 2 7 = 1 ∧ (redOpen.ctx 2 7).completing = none ∧
    redOpen.rcxGen 2 7 = 0 ∧ redOpen.rcxFmt 2 7 = 0 ∧ (0 : Nat) ∉ (redOpen.ctx 2 7).done := by
  refine ⟨served_elsewhere rfl (by decide), by decide, served_elsewhere rfl (by decide), by decide, by decide⟩
theorem witness_ContributionLines_discarded : served { redOpen with regs := (redOpen.wf .scdRcxCfg 31 30 2 2 7).regs } (redAsk .dense 128) (.scratch 2) (some 3) ∧
    served { redOpen with rcx := [(519, { done := [0], declared := 0, opened := none, completing := none })] } (redAsk .done 0) (.scratch 2) (some 3) ∧
    served redOpen { redAsk .sparse 8 with r := { redReq .sparse 8 with data := List.replicate 8 0 } } (.scratch 2) (some 3) ∧
    redOpen.rcxSparse 2 7 = false := by
  refine ⟨served_elsewhere rfl (by decide), served_elsewhere rfl (by decide), served_elsewhere rfl (by decide), by decide⟩

/-- What a request dequeued on cy 0 keeps. -/
def carry0 : Carry := { entry := true, t0 := 0, place := 0, ends := true }
/-- `entered` with a transaction of agent 1 on line 0. -/
def txn0 : Txn :=
  { id := 4, k := 0, line := 0, kind := .readX, req := some (ask .rdX 0 128), grantIx := none, agent := some 1, cause := (0, 0), carry := carry0, start := 0,
    snoops := [], wbpend := [], wbGot := [], readAt := some 46, readEnd := some 218, data := none, need := true, pushes := [],
    pushed := false, overtaken := false, ready := 0, gone := [], met := [],
    before := { way := 0, st := .i, bcast := false, owner := none, sharers := [] } }
def snoop1 : Snoop := { agent := 1, opid := 9, opc := 0x16, built := 16, hand := 16, until_ := none }
def busy0 : State := { entered .m with coh := { (entered .m).coh with txns := [txn0] }, lane := { (entered .m).lane with nextId := 5 } }
def held0 : Held := { k := 0, req := ask .load 0 8, place := 0, line := 0, released := true }
/-- A load of line 0 on its way, path near. -/
def load0 : LaneOp :=
  { id := 3, k := 0, req := ask .load 0 8, p := 0, due := 212, path := .near, grant := none, status := .ok, data := List.replicate 8 0,
    carry := carry0, fill := none, eff := 0, refresh := false, followers := [], ext := none, waits := false, readAt := 40 }

theorem witness_QueuesHoldsAndRefusals : serve.regs.rising = true ∧ serve.pieceHome (ask .load 0 8) = 0 ∧ pieceOk .load (ask .load 0 8).r = true ∧
    ReqKind.reply .load = false ∧ (serve.wv .ctlScdout 1).scdOut 0 = true ∧
    serve.reqPlace 0 (ask .load 0 8) = .near 0 ∧ busy0.mustHold 0 (ask .load 0 8) 0 false = true ∧
    serve.mustHold 0 (ask .load 0 8) 0 false = false ∧
    live.admission 0 (ask .load 0 8) = (.near 0, none, .tenantGone) ∧ State.reset.admission 0 (ask .load 0 8) = (.near 0, none, .notReady) := by
  decide
theorem witness_QueuesHoldsAndRefusals_combining :
    let s : State := { serve with lane := { serve.lane with ops := [load0], nextId := 5 } }
    s.combinable 0 (ask .load 0 8) (.near 0) = true ∧ s.leader 0 (ask .load 0 8) s.now = some load0 := by decide
theorem witness_QueuesHoldsAndRefusals_full : 512 ≤ countIf (fun (h : Held) => h.k == 0) (List.replicate 512 held0) := by decide
theorem witness_QueuesHoldsAndRefusals_slot :
    let q : QReq := { req := ask .load 0 8, at_ := 0, cells := 2 }
    let s := live.setReqQueue 0 2 [q]
    s.scdOut 0 = false ∧ s.heldHead 0 = none ∧ (2 : Nat) < 8 ∧ (4 : BitVec 8).getLsbD 2 = true ∧ s.reqQueue 0 2 = [q] ∧
    (∀ b < 2, (4 : BitVec 8).getLsbD b = true → s.reqQueue 0 b = []) ∧ live.heldHead 0 = none ∧
    (∀ c < 8, (255 : BitVec 8).getLsbD c = true → live.reqQueue 0 c = []) := by decide
theorem witness_QueuesHoldsAndRefusals_held :
    let s : State := { serve with time := { serve.time with cy := 1 }, lane := { serve.lane with held := [held0] } }
    s.heldHead 0 = some held0 ∧ s.scdOut 0 = false ∧ 2 = held0.req.r.cls.toNat ∧
    (({ s with lane := { s.lane with held := [] } } : State).dequeue 0 held0.req (some held0.place)).lane.held = dropFirst (fun y => y == held0) s.lane.held := by
  decide
theorem witness_QueuesHoldsAndRefusals_response :
    let s : State := { serve with lane := { serve.lane with ops := [load0], nextId := 5 }, timed := [(212, .respond 0 3)] }
    eventAt s (.respond 0 3) 212 ∧ serve.timed.find? (fun e => e.2 == .respond 0 3) = none ∧ load0.fill = none ∧ load0.waits = false ∧
    s.findOp 3 = some load0 ∧ load0.k = 0 ∧ load0.req.kind.coherent = false ∧ (s.tenant load0.req.r.tenant).epoch = load0.req.r.tepoch ∧
    s.opOnLost load0 = false ∧ ({ s with pwr := { s.pwr with lostStack := 1 } } : State).opOnLost load0 = true ∧ s.findOp 4 = none ∧
    (live.tenant 0).epoch ≠ 1 := by
  unfold eventAt; decide

/-- A coherence request of agent 1 on port 512. -/
def cohAsk (k : ReqKind) : Req :=
  { kind := k, r := { req0 with cls := 0, addr := 0, len := 128, port := 512, data := if k = .wb ∨ k = .wbKeep then List.replicate 128 1 else [] } }
/-- `entered` with the agent's port bound to the tenant. -/
def agentServe (st : LineSt) : State := (entered st).wv .secBind 0x80080000 0 0
theorem cohServed_at {s : State} {x : Req} {a : BitVec 5} {g : Option Nat}
    (h : s.scdOut (s.pieceHome x) = false ∧ s.admission (s.pieceHome x) x = (.near x.r.addr.toNat, g, .ok) ∧
      s.agentOn (s.pieceHome x) x.r.port.toNat = some a ∧ s.mustHold (s.pieceHome x) x (x.r.addr.toNat / 128) false = false) :
    cohServed s x a g := h
/-- No directory entries. -/
def agentEmpty : State := { agentServe .m with coh := CohSt.reset }
/-- The 16 ways of set 0 of SCD0 taken by lines 2^20·n. -/
def agentFull : State :=
  { agentServe .m with coh := { CohSt.reset with entries := (List.range 16).map fun n =>
      ((n + 1) * 2 ^ 20, { way := n, st := .m, bcast := false, owner := some 1, sharers := [] }) } }
theorem witness_CoherenceRequests : cohServed (agentServe .m) (cohAsk .rdS) 1 (some 0) ∧ pieceOk .rdS (cohAsk .rdS).r = true ∧
    cohServed (agentServe .s) (cohAsk .rdX) 1 (some 0) ∧ cohServed (agentServe .o) (cohAsk .upg) 1 (some 0) ∧
    (agentServe .m).orphan 0 = false ∧ cohServed (agentServe .m) (cohAsk .wb) 1 (some 0) ∧ pieceOk .wb (cohAsk .wb).r = true ∧
    ({ agentServe .m with coh := { (agentServe .m).coh with orphans := [0] } } : State).orphan 0 = true := by
  exact ⟨cohServed_at (by decide), by decide, cohServed_at (by decide), cohServed_at (by decide), by decide, cohServed_at (by decide),
    by decide, by decide⟩
/-- A lookup of line 0 that ends. -/
def look (kind : LookupKind) (k : ReqKind) : Lookup := { kind := kind, line := 0, req := cohAsk k, grant := some 0, p := 0, carry := carry0 }
theorem witness_CoherenceRequests_lookups : (∀ y ∈ (agentServe .m).coh.txns, y.id < (agentServe .m).lane.nextId) ∧
    (agentServe .m).coh.entries.rising = true ∧ (look .request .rdS).kind = .request ∧ (agentServe .m).busy 0 = false ∧
    (agentServe .m).agentOn 0 (look .request .rdS).req.r.port.toNat = some 1 ∧ ((agentServe .e).dir 0).st = .e ∧
    ((agentServe .s).dir 0).st = .s ∧ (1 : BitVec 5) ∈ ((agentServe .s).dir 0).sharers ∧ busy0.busy 0 = true ∧
    ((agentServe .m).dir 0).st ≠ .i ∧ (agentEmpty.dir 0).st = .i ∧ (look .write .rdS).kind = .write ∧
    ({ agentServe .e with lane := { LaneSt.reset with ops := [load0], nextId := 5 } } : State).lane.ops.find? (fun (o : LaneOp) => o.id == 3) = some load0 ∧
    ({ agentServe .m with coh := { (agentServe .m).coh with orphans := [0] } } : State).orphan 0 = true ∧
    ((agentServe .m).dir 0).owner = some 1 := by decide
theorem witness_CoherenceRequests_ways : agentEmpty.entry 0 = none ∧ agentFull.entry 0 = none ∧
    (∀ w < 16, ∃ y ∈ agentFull.setEntries 0 0, y.2.way = w) ∧ (∀ y ∈ agentEmpty.setEntries 0 0, y.2.way ≠ 0) ∧
    (agentFull.victim 0 0).isSome = true ∧ agentFull.victims 0 < 64 := by decide
theorem witness_CoherenceRequests_push : let w : Txn := { txn0 with wbpend := [1] }
    let s : State := { agentServe .m with coh := { (agentServe .m).coh with txns := [w] }, lane := { LaneSt.reset with nextId := 5 } }
    s.txnOn 0 = some w ∧ (∀ v ∈ s.coh.txns, v.id = w.id → v = w) ∧ w.overtaken = false ∧ (1 : BitVec 5) ∈ w.wbpend ∧
    (∀ y ∈ s.coh.txns, y.id < s.lane.nextId) := by
  decide

theorem witness_CoherenceReplies : let w : Txn := { txn0 with snoops := [snoop1] }
    let s : State := { entered .m with coh := { (entered .m).coh with txns := [w] }, timed := [(16, .snoop 0 4 1)] }
    let x : Req := { cohAsk .ack with r := { (cohAsk .ack).r with opid := 9 } }
    let fits (w : Txn) (y : Snoop) : Bool := w.cause.1 == x.r.tenant && y.opid == x.r.opid && y.until_.isNone
    pieceOk .ack x.r = true ∧ s.pieceHome x = 0 ∧ s.scdOut 0 = false ∧ w.overtaken = false ∧
    s.coh.txns.find? (fun w => w.k == 0 && w.snoops.any (fits w)) = some w ∧ w.snoops.find? (fits w) = some snoop1 ∧
    eventAt s (.snoop 0 4 1) 16 ∧ s.coh.txns.find? (fun w => w.id == 4 && w.k == 0) = some w ∧
    (s.cohFrame 0 1 0x16 0 0 w.cause.1 w.cause.2 9 []).isSome = true ∧ s.timed.find? (fun e => e.2 == .snoop 0 4 2) = none ∧
    w.snoops.find? (fun y => y.agent == 1 && y.open_ s.now) = some snoop1 ∧ s.snoopExpires 0 4 2 = none := by
  unfold eventAt; decide
theorem witness_CoherenceReplies_home : let s : State := { busy0 with time := { busy0.time with cy := 218 }, timed := [(218, .homeEnd 0 4)] }
    s.coh.txns.find? (fun w => w.id == 4 && w.k == 0) = some txn0 ∧ txn0.kind = .readX ∧ eventAt s (.homeEnd 0 4) 218 ∧
    txn0.need = true ∧ txn0.snoops = [] ∧ txn0.readAt = some 46 ∧ txn0.readEnd = some 218 ∧ 218 ≤ s.now ∧ txn0.ready ≤ s.now ∧
    s.stackOut (stackOf 0) = false ∧ s.uncorrectable 0 128 = false := by
  unfold eventAt; decide

/-! ### Trays, governor, egress, frames -/

/-- A frame for port 0. -/
def frame0 : Frame :=
  { port := 0, cls := 2, size := 64, body := .plain [], dest := 0, src := 0, udp := 0, v4 := false, vlan := none, tenant := none, fwd := none,
    key := none, inPort := 0x3FF, ce := false, yellow := false, enq := 0 }
/-- A forward of `load0`, held for a tray. -/
def trayOp : LaneOp := { load0 with path := .tray, waits := true }
def fwd0 : Fwd := { id := 9, tenant := 0, opid := 77, kind := .request 3, stroke := 0, port := 0, pieces := 1 }
theorem witness_TraysGovernorAndEgress_tray :
    let s : State := { serve with lane := { serve.lane with ops := [trayOp], fwd := [fwd0], nextId := 10 } }
    s.regs.rising = true ∧ s.net.planned.rising = true ∧ s.net.barrier.rising = true ∧ fwd0 ∈ s.lane.fwd ∧ s.findOp 3 = some trayOp ∧
    s.tier.jobs = [] ∧ (∀ y ∈ s.lane.fwd, y.tenant = 0 → y.opid ≠ 78) ∧ (∀ y ∈ s.lane.fwd, y.id ≠ 10) ∧
    (∀ y ∈ s.lane.fwd, (y.tenant = fwd0.tenant ∧ y.opid = fwd0.opid) ∨ y.id = fwd0.id → y = fwd0) ∧ trayOp.grant = none ∧ (0 : Byte).toNat = Status.ok.code := by decide
theorem witness_TraysGovernorAndEgress_governor :
    let s : State := { serve with net := { serve.net with governed := [(2 ^ 32 * 3 + 7, 5)], pacing := [(5, frame0)] } }
    s.net.governed.find (2 ^ 32 * (3 : Tenant).toNat + (7 : BitVec 32).toNat) = some 5 ∧ s.net.governed.find 7 = none ∧ s.flowWaits 5 = false ∧
    s.net.pacing.find? (fun x => x.1 == (5 : BitVec 13).toNat) = some ((5 : BitVec 13).toNat, frame0) ∧
    (s.flow 5).next ≤ s.now ∧ s.net.pacing.find? (fun x => x.1 == 6) = none := by decide
theorem witness_TraysGovernorAndEgress_late :
    let s : State := { serve with net := { serve.net with flows := [(5, { State.flow serve 5 with next := 1 })] } }
    ¬((s.wv .lmtRgCfg 0x80000000).rf .lmtRgCfg 31 31 = 0 ∨ ((s.wv .lmtRgCfg 0x80000000).flow 5).next ≤ s.now) := by decide
/-- One planned frame on port 0. -/
def planned0 : State := { lit with net := { lit.net with planned := [(0, [frame0])], busy := [(1, 5)], barrier := [(0, [3, 9])] } }
theorem witness_TraysGovernorAndEgress_egress : planned0.now < SMap.get 0 planned0.net.busy (1 : Port).toNat ∧
    SMap.get 0 planned0.net.busy (0 : Port).toNat ≤ planned0.now ∧ planned0.frames (.planned 0) = frame0 :: [] ∧ frame0.port = 0 ∧
    planned0.portUp 0 = true ∧ planned0.staleFrame frame0 = some frame0 ∧
    ({ planned0 with lanes := LanesSt.reset } : State).portUp 0 = false ∧ planned0.net.barrier.find 1 = none ∧
    planned0.net.barrier.find 0 = some [3, 9] ∧ planned0.beforeBarrier 0 3 = false ∧
    ({ planned0 with net := { planned0.net with node := [(2, [{ frame0 with key := some 0x800 }])] } } : State).beforeBarrier 0 3 = true := by decide
theorem witness_TraysGovernorAndEgress_samples : ({ ringed with net := { ringed.net with samples := [(0, [1, 2])] } } : State).net.samples = [(0, [1, 2])] ∧
    ¬((ringed.rv .qosSmpHead + 2 ^ 32 - ringed.rv .qosSmpTail) % 2 ^ 32 = 2 ^ ringed.rf .qosSmpSize 4 0) ∧
    (((ringed.wv .qosSmpHead 16).rv .qosSmpHead + 2 ^ 32 - ringed.rv .qosSmpTail) % 2 ^ 32 = 2 ^ ringed.rf .qosSmpSize 4 0) ∧
    SMap.canon 0 ringed.mem.bytes = true := by decide
theorem witness_FramesReceived : lit.regs.rising = true ∧ (0 : Port).toNat < 642 ∧ lit.portUp 0 = true ∧ (lit.owner 0).isSome = true ∧
    lit.portUp 1 = false ∧ (live.wf .ctlMgmt 31 31 1).portUp 640 = true ∧ live.net.planned.rising = true ∧
    (live.wf .ctlMgmt 31 31 1).ownIp 640 (live.wf .ctlMgmt 31 31 1).mgmtIp = true ∧ live.ownIp 640 1 = false := by decide

/-! ### Host commands -/

/-- A command of ring 1 that names no buffer. -/
def cmd0 : Cmd := { q := 1, cmdid := 1, fence := false, arg0 := 0, arg1 := 0, arg2 := 0, buf := 0, buflen := 0 }
/-- A command of ring 1 with a buffer of 64 bytes in the control region. -/
def cmd64 : Cmd := { cmd0 with buf := 0x017FC0400000, buflen := 64 }
def ring1 : Ring := { n := 4, cring := 0x017FD0000000, pring := 0x017FD0010000, cdb := 0, chead := 0, pdb := 0, ctail := 0 }
/-- A device with ring 1 and one command in it. -/
def rung : State := { serve with fw := { serve.fw with rings := [(1, { ring1 with cdb := 1 })] } }

theorem witness_CommandsRefusedPostedAndTaken : commandRow cmd0 (.regRead cmd0) 0x01 0 ∧ commandRow cmd64 (.extSet cmd64) 0x20 64 ∧
    kindRow cmd0 (.resetWarm cmd0) 0x60 ∧ (cmd64.buf ≠ 0 ∧ (0x017FC0000000 + 1 : Nat) ≤ cmd64.buf.toNat) ∧
    ({ cmd64 with buf := 0 } : Cmd).buf.toNat < 0x017FC0000000 ∧
    (begun (serve.wf .ctlWdtstat 31 31 1 0 0) cmd0 0x31).rotHeld = true ∧
    rung.ring 1 = some { ring1 with cdb := 1 } ∧ quietLog (rung.wv .ctlLogCfg 0) ∧ (Cmd.running cmd0 0x01).opcode < 2 ^ 16 ∧
    SMap.canon 0 rung.mem.bytes = true := by
  unfold commandRow kindRow quietLog; decide
theorem witness_CommandsRefusedPostedAndTaken_take : rung.nextTake = some (1 : BitVec 4).toNat ∧
    entryZeros (rung.laneRead ring1.cring 64) = true ∧ rung.nextTake ≠ some (2 : BitVec 4).toNat ∧
    entryZeros ((rung.store (ring1.cring + 3) [1]).laneRead ring1.cring 64) = false := by decide
/-- Ring 1 with one command entry, of OPCODE `op`. -/
def ringEntry (op : Nat) : State := rung.store ring1.cring (leBytes 2 op)
theorem witness_CommandTaken : rung.ring (1 : BitVec 4).toNat = some { ring1 with cdb := 1 } ∧ rung.nextTake = some (1 : BitVec 4).toNat ∧
    entryZeros ((ringEntry 1).laneRead ring1.cring 64) = true ∧ leAt ((ringEntry 1).laneRead ring1.cring 64) 0 2 = 1 ∧
    commandRow (entryCmd 1 ((ringEntry 1).laneRead ring1.cring 64)) (.regRead (entryCmd 1 ((ringEntry 1).laneRead ring1.cring 64))) 1 0 ∧
    (ringEntry 0x60).nextTake = some 1 ∧ leAt ((ringEntry 0x61).laneRead ring1.cring 64) 0 2 = 0x61 ∧
    (entryCmd 1 ((ringEntry 0x60).laneRead ring1.cring 64)).arg0.toNat % 16 = 0 ∧ bufOk (entryCmd 1 ((ringEntry 0x60).laneRead ring1.cring 64)) 0 = true := by
  unfold commandRow; decide
theorem witness_RingsDoorbellsAndLogs_registers : bufOk cmd0 0 = true ∧ (RegRef.locate 0x1418).isSome = true ∧
    (cmd0.arg0.toNat % 2 ^ 32 % 4 = 0 ∧ (blockOf 0x1418).isSome = true) ∧ (2 : Nat) % 4 ≠ 0 ∧ (begun serve cmd0 1).dieOut 0x1418 = false := by decide
theorem witness_RingsDoorbellsAndLogs_rings : (begun serve cmd0 3).ring 2 = none ∧ inControl 0x017FD0000000 (64 * 2 ^ 4) = true ∧
    inControl 0x017FD0010000 (32 * 2 ^ 4) = true ∧ (begun serve cmd0 3).ringClash 0x017FD0000000 (64 * 2 ^ 4) = false ∧
    (begun rung cmd0 4).ring 1 = some { ring1 with cdb := 1 } ∧ (∀ x ∈ (begun serve { cmd0 with q := 2 } 4).fw.running, x.q.toNat ≠ 1) ∧
    serve.pstate ≠ 2 ∧ rung.ready = true ∧ (0 + 2 ^ 32 - 0) % 2 ^ 32 ≤ 2 ^ 4 := by decide
theorem witness_RingsDoorbellsAndLogs_logs :
    let e : TracePoint := { core := 20, level := 0, number := 0x5FFF, args := List.replicate 5 1 }
    let s := serve.wv .ctlLogCfg 0x00200000
    e.core.toNat ≤ 20 ∧ e.number.toNat < 0x6000 ∧ e.args.length ≤ 5 ∧ ((s.rf .ctlLogCfg 31 16).testBit (e.number.toNat / 4096) = true ∧
      e.level.toNat ≤ s.rf .ctlLogCfg 1 0) ∧ (serve.wv .ctlLogCfg 0).rf .ctlLogCfg 31 16 = 0 ∧
    s.onLostStack (s.logBase) 64 = false ∧ serve.fw.events = [] ∧ ((serve.alert 5).event 0x0022 1 0 0 []).fw.events ≠ [] ∧
    serve.onLostStack serve.evtBase 64 = false := by decide

/-! ### Memory tiers, tenants, grants -/

/-- Extent 4, far-cached and empty, with four pages of shadow at 1 MiB. -/
def tiers : State := { serve with tier := { serve.tier with ext := serve.tier.ext ++ [(4, { extAt 4 2 with aux := 0x100000 })] } }
theorem witness_ExtentsAndBases : bufOk cmd64 64 = true ∧ bufOk cmd0 0 = true ∧
    ({ cmd0 with arg0 := 4 } : Cmd).arg0.toNat % 2 ^ 14 = 4 ∧ (begun tiers cmd0 0x22).job 4 = none ∧ (∀ w ∈ (begun tiers cmd0 0x22).tier.waiting, w.1 ≠ 4) ∧
    ((begun tiers cmd0 0x22).extent 4).form = 2 ∧ ((begun tiers cmd0 0x22).extent 4).st = 0 ∧ ((begun tiers cmd0 0x22).extent 0).form ≠ 2 ∧
    ((begun tiers cmd0 0x22).extent 3).st = 4 ∧ (begun serve cmd0 0x27).noDelta = false ∧ (begun serve cmd0 0x27).rf .ctlBringup 29 29 = 1 ∧
    (((begun serve cmd0 0x27).extent 1).form = 3 ∧ 0 + 32 ≤ 32 * ((begun serve cmd0 0x27).extent 1).len) ∧
    ({ tiers with tier := { tiers.tier with jobs := [{ x := 4, kind := 0, cmd := none, todo := [], out := [], status := .ok }] } } : State).job 4 ≠ none := by
  decide
/-- Extent 4 filled, its page 0 dirty or not. -/
def filled (dirty : Bool) : State :=
  let s := tiers
  { s with tier := { s.tier with ext := serve.tier.ext ++ [(4, { extAt 4 2 with aux := 0x100000, st := 2 })],
                                 dirty := if dirty then [(256, true)] else [] } }
theorem witness_ExtentsAndBases_filled : ((filled true).extent 4).st = 2 ∧ (filled true).dirtyPages ((filled true).extent 4) 0 1 = [0] ∧
    (filled false).dirtyPages ((filled false).extent 4) 0 1 = [] ∧ 0 + 512 ≤ ((filled true).extent 4).pages ∧
    (∀ p < 1, (filled true).uncorrectable (0x100000 + 4096 * p) 4096 = false) ∧ bufOk cmd64 1 = true ∧
    ((filled true).extent 4).pages ≤ 8 * 64 := by decide
theorem witness_ExtentsAndBases_bases :
    let s : State := { serve with sec := { serve.sec with grants := [(0, { grantAt 0 1 with rights := 0x2F })] } }
    let u := begun s cmd0 0x28
    u.noDelta = false ∧ u.tenantCovers 0 0 256 = true ∧ u.basePlanned.find 1 = none ∧ u.inUserNear 0 256 = true ∧
    u.tenantCovers 0 0x10000000 256 = false ∧ (∀ e ∈ u.extPlanned, ¬(e.2.form = 4 ∧ e.2.baseid = 1)) ∧
    s.tier.ext.rising = true ∧ s.tier.bases.rising = true := by decide
theorem witness_ExtentsAndBases_due :
    let s : State := { serve with due := [(0, .extApply 5 (extAt 5 1)), (0, .baseApply 1 none)] }
    latchedAt s (descriptorDue (5 : BitVec 14).toNat) (.extApply (5 : BitVec 14).toNat (extAt 5 1)) 0 ∧
    latchedAt s (baseDue (1 : BitVec 12).toNat) (.baseApply (1 : BitVec 12).toNat none) 0 ∧ 1536 * 0 ≤ s.now := by
  unfold latchedAt; decide
theorem witness_ExtentsAndBases_status : (begun serve cmd64 0x20).extSetStatus 6 { extAt 6 0 with ovfk := 0, aux := 0 }.bytes = .ok ∧
    (begun serve cmd64 0x20).extSetStatus 6 (List.replicate 64 0) ≠ .ok ∧
    (begun serve cmd64 0x20).extSetStatus 6 (List.replicate 64 1) ≠ .ok ∧
    (begun { serve with sec := { serve.sec with variant := 2 } } cmd0 0x27).noDelta = true := by decide

/-- A job of extent 4 that nothing waits for. -/
def jobbed (kind : Nat) : State :=
  { filled false with tier := { (filled false).tier with jobs := [{ x := 4, kind := kind, cmd := none, todo := [], out := [], status := .ok }] },
                      due := [(0, .extState 4 2), (0, .extState 4 0)], timed := [(0, .flushDone 4)] }
theorem witness_FarCachedAndFlash : (jobbed 0).regs.rising = true ∧
    (jobbed 0).job 4 = some { x := 4, kind := 0, cmd := none, todo := [], out := [], status := .ok } ∧ (jobbed 0).tier.ext.find 4 ≠ none ∧
    latchedAt (jobbed 0) (fun d => d == .extState 4 2) (.extState 4 2) 0 ∧ (jobbed 1).job 4 ≠ none ∧ eventAt (jobbed 1) (.flushDone 4) 0 ∧
    latchedAt (jobbed 2) (fun d => d == .extState 4 0) (.extState 4 0) 0 ∧ 1536 * 0 ≤ (jobbed 2).now := by
  unfold latchedAt eventAt; decide
def ftl0 : FtlOp := { id := 9, op := 3, off := 0, write := true, data := [1, 2], len := 2, heldFor := none, stroke := 0 }
def flash : State :=
  { serve with tier := { serve.tier with ftl := [ftl0], mapped := [(1, 0)], moving := [1] },
               lane := { serve.lane with ops := [{ load0 with path := .cold, waits := true }], nextId := 10 } }
theorem witness_FarCachedAndFlash_flash : flash.ftlOp 9 = some ftl0 ∧ (flash.findOp 3).isSome = true ∧ SMap.canon 0 flash.tier.cold = true ∧
    ({ flash with tier := { flash.tier with ftl := [{ ftl0 with heldFor := some 0 }] } } : State).ftlOp 9 = some { ftl0 with heldFor := some 0 } ∧
    flash.tier.mapped.find (1 : BitVec 34).toNat ≠ none ∧ (1 : BitVec 34).toNat ∈ flash.tier.moving ∧
    flash.tier.mapped.find (2 : BitVec 34).toNat = none ∧ serve.noDelta = false ∧ 100 * 1 < 2 * 100 ∧ ¬(1000 * 1 < 5 * 100) := by decide

/-- Tenant 0 with its keys loaded and a session bound to it. -/
def slotOf (st : SlotSt) (role : Nat) : KeySlot := { KeySlot.fresh with st := st, role := role, key := [] }
def keyed (st : SlotSt) : State :=
  { serve with sec := { serve.sec with slots := [(1, slotOf .loaded 1), (2, slotOf st 2), (3, slotOf .loaded 3)],
                                       sessions := [(1, { kshash := 0, fresh := some 0 })] } }
theorem witness_TenantsAndKeys : SMap.canon TenantRec.fresh serve.sec.tenants = true ∧ SMap.canon KeySlot.fresh (keyed .suspended).sec.slots = true ∧
    serve.sec.grants.rising = true ∧ bufOk cmd64 48 = true ∧ (begun serve cmd64 0x30).rotHeld = false ∧
    (begun serve { cmd64 with arg0 := 1 } 0x30).plannedTenant 1 = .free ∧ (begun serve cmd0 0x31).plannedTenant 0 = .active ∧
    (begun { serve with sec := { serve.sec with tenants := [(1, { st := .active, epoch := 0, kshash := 0 })] } } { cmd0 with arg0 := 1 } 0x31).plannedTenant 1 = .active ∧
    (begun (keyed .loaded) cmd0 0x32).plannedSlot 1 = .loaded ∧ (begun (keyed .loaded) cmd0 0x32).plannedSlot 3 = .loaded ∧
    ((begun (keyed .loaded) cmd0 0x32).slot 3).role = 3 ∧ bufOk cmd64 cmd64.buflen.toNat = true ∧ inControl 0x017FC0400000 64 = true ∧
    inControl 0 64 = false := by decide
theorem witness_TenantsAndKeys_sessions : let s := keyed .suspended
    let b : List Byte := [0, 0, 0, 0] ++ List.replicate 64 1
    s.rotHeld = false ∧ beAt b 0 2 < 1024 ∧ s.plannedTenant 0 = .active ∧ s.sessionBound 1 0 = true ∧ s.sessionFresh 1 0 = true ∧
    b.length = 4 + 64 ∧ s.plannedSlot 0 = .empty ∧ s.plannedSlot 2 = .suspended ∧ s.sessionBound 0 0 = false := by decide
theorem witness_TenantsAndKeys_epochs :
    latchedAt { serve with due := [(0, .tenantCreate 1 5)] } (epochDue 1) (.tenantCreate 1 5) 0 ∧
    latchedAt { serve with due := [(0, .tenantReset 0)] } (epochDue 0) (.tenantReset 0) 0 ∧
    latchedAt { serve with due := [(0, .tenantRemove 0)] } (epochDue 0) (.tenantRemove 0) 0 ∧ 1536 * 0 ≤ serve.now ∧ (∀ j, j < 4 → j ≠ 2 → ((keyed .retiring).slot j).st ≠ .retiring) := by
  unfold latchedAt; decide
theorem witness_TenantsAndKeys_slots : ((keyed .retiring).slot (2 : BitVec 12).toNat).st = .retiring ∧
    ((keyed .scrubbing).slot (2 : BitVec 12).toNat).st = .scrubbing ∧ ((keyed .scrubbing).slot 2).removal = false ∧
    (keyed .scrubbing).rotHeld = false ∧ ((keyed .loaded).slot 2).st ≠ .retiring ∧
    (({ serve with sec := { serve.sec with tenants := [(0, { st := .retiring, epoch := 1, kshash := 0 })] } } : State).tenant 0).st = .retiring := by decide
theorem witness_GrantEntries : serve.sec.grants.rising = true ∧ SMap.canon 0 serve.mem.bytes = true ∧ bufOk cmd64 32 = true ∧
    (begun serve cmd64 0x33).plannedTenant 0 = .active ∧ (begun live cmd64 0x33).plannedTenant 0 ≠ .active ∧
    (begun serve cmd64 0x33).grantBad 7 (List.replicate 32 0) = true ∧
    (begun serve cmd64 0x33).grantBad 7 (leBytes 8 (2 ^ 53 + 0x2000000) ++ leBytes 4 1 ++ List.replicate 6 0 ++ [1] ++ List.replicate 13 0) = false ∧
    ((begun serve cmd0 0x35).plannedGrant 9).st = .free ∧ ((begun serve cmd0 0x35).plannedGrant 0).st = .active := by decide
def granting (st : GrantSt) (rights : BitVec 8) (n : Nat) : State :=
  { serve with sec := { serve.sec with grants := [(0, { grantAt 0 1 with st := st, rights := rights, inflight := n })] } }
theorem witness_GrantEntries_states : ((granting .zeroing 0x2F 0).grant (0 : BitVec 16).toNat).st = .zeroing ∧
    ((granting .revoking 0x0F 0).grant 0).inflight = 0 ∧ ((granting .revoking 0x2F 1).grant 0).st = .revoking ∧
    ((granting .scrubbing 0x2F 0).grant 0).st = .scrubbing ∧ (granting .revoking 0x2F 1).rotHeld = false ∧
    (∀ o ∈ (granting .revoking 0x2F 1).lane.ops, o.grant = some 0 ∧ o.followers = []) ∧ (granting .revoking 0x2F 1).coh.txns = [] ∧
    (serve.tenant 0).st ≠ .retiring ∧ (begun (granting .revoking 0x0F 1) cmd0 0x35).due = [] ∧
    ((begun (granting .revoking 0x0F 1) cmd0 0x35).plannedGrant 0).st = .revoking ∧
    ((begun (granting .scrubbing 0x2F 0) cmd0 0x35).plannedGrant 0).st = .scrubbing ∧
    latchedAt { serve with due := [(0, .grantSet 0 Grant.fresh)] } (grantDue 0) (.grantSet 0 Grant.fresh) 0 := by
  unfold latchedAt; decide

/-! ### The fabric protocol -/

/-- A map of three devices, all of the council; this device's serial is 0. -/
def map0 : MapImage :=
  { epoch := 0, capo := 0, council := [0, 1, 2], devs := [0, 1, 2].map fun d => { serial := d, stage := 0, lost := false, ip := 5 }, mems := [], comps := [] }
def meshed (map : MapImage) : State :=
  { serve with fab := { serve.fab with key := some (List.replicate 32 0), map := some map }, time := { serve.time with stroke := 1000 } }
def msg0 : FabMsg := { fidx := 0, nfrm := 1, serial := 1, epoch := 1, capo := 2000, seq := 0, chunk := 0, payload := List.replicate 64 0, tagOk := true }
/-- A change of the map that waits for its capo point. -/
def change0 : MapChange := { epoch := 1, capo := 2000, image := mapOf msg0.payload, full := false }
theorem witness_FabricMessages : fabricRow msg0 (.heartbeat msg0) 1 ∧ (meshed map0).fabHeld = false ∧ (meshed map0).fabOk msg0 = true ∧
    (meshed map0).fabOk { msg0 with tagOk := false } = false ∧ (2 ≤ ({ msg0 with nfrm := 2 } : FabMsg).nfrm.toNat ∧
    (∃ j < 2, ∀ x ∈ (meshed map0).gathered 2 { msg0 with nfrm := 2 }, x.fidx.toNat ≠ j)) ∧ msg0.nfrm.toNat ≤ 1 ∧ (meshed map0).regs.rising = true ∧
    (((((serve.wf .ctlWdtstat 31 31 1 0 5).wf .ctlWdtstat 31 31 1 0 6).wf .ctlWdtstat 31 31 1 0 7).wf .ctlWdtstat 31 31 1 0 8).fabHeld = true) := by
  unfold fabricRow; decide
theorem witness_FabricMessages_changes : let s := meshed { map0 with council := [0, 1] }
    let h : State := { s with fab := { s.fab with heard := [(1, 1000)] } }
    s.mapEpoch = 0 ∧ msg0.epoch = s.mapEpoch + 1 ∧ s.serial = 0 ∧ s.serial ∈ s.council ∧
    (meshed { map0 with council := [1] }).manager = none ∧ h.manager = some 0 ∧ msg0.serial ∈ s.council ∧
    epochAbove 3 s.mapEpoch = true ∧ (3 : BitVec 16) ≠ s.mapEpoch + 1 ∧ epochAbove s.mapEpoch 0xFFFF = true ∧
    epochAbove s.mapEpoch 1 = false ∧ ¬(s.serial ∈ change0.image.council ∧ s.lanes.straps.getLsbD 3 = false) ∧
    (s.fab.map.getD MapImage.empty).bytes.length ≤ 4096 ∧ mapSize msg0.payload ≤ 4096 ∧ s.fab.chunks = [] := by decide
theorem witness_FabricMessages_manager : let s := meshed map0
    let p : State := { s with fab := { s.fab with proposal := some (change0, [0]), acting := true, states := [(0, 0, none)] } }
    p.fab.proposal = some (change0, [0]) ∧ (1 : Dword) ∉ [(0 : Dword)] ∧ p.council.length / 2 + 1 ≤ [(0 : Dword)].length + 1 ∧
    p.time.stroke + 16 ≤ change0.capo ∧ p.fab.heir ≠ some change0 ∧ (∀ x ∈ p.fab.states, x.1 ≠ 1) ∧ p.fab.acting = true ∧ ((1 : Dword), 0xFFFF) ∉ p.fab.losses := by decide
theorem witness_FabricMessages_inherited : let s := meshed map0
    let w : State := { s with fab := { s.fab with acting := true, states := [(0, 0, none), (1, 0, some change0)] } }
    w.inherited = some change0 ∧ w.council.length / 2 + 1 ≤ [(0 : Dword)].length + 1 ∧ (s.fab.map.getD MapImage.empty).capo + 256 ≤ s.time.stroke := by
  decide
theorem witness_FabricTimesAndMap : let s := meshed { map0 with council := [1, 2] }
    let h : State := { s with fab := { s.fab with heard := [(1, 1000)] } }
    s.regs.rising = true ∧ s.acts.rising = true ∧ bufOk cmd64 64 = true ∧ bufOk cmd64 32 = true ∧ s.fabHeld = false ∧ s.serial ∉ s.council ∧
    h.manager = some 1 ∧ (1 : Dword) ≠ s.serial ∧ h.fab.heard.find 1 = some 1000 ∧ h.fab.acting = false ∧
    (h.deviceIp 1).isSome = true ∧ h.fab.key.isSome = true ∧ cmd64.buflen.toNat < (s.fab.map.getD MapImage.empty).bytes.length ∧
    (meshed map0).serial ∈ (meshed map0).council ∧ s.fab.map ≠ none ∧ s.time.stroke % 64 = 40 ∧
    ({ s with time := { s.time with stroke := 1024 } } : State).time.stroke % 64 = 0 ∧ serve.fab.map = none ∧
    ({ s with fab := { s.fab with graceUntil := some 1000 } } : State).fab.graceUntil = some 1000 ∧ s.time.cy < 1536 ∧ s.fab.graceUntil = none := by
  decide
theorem witness_FabricTimesAndMap_losses : let s := meshed { map0 with council := [1, 2] }
    let h : State := { s with fab := { s.fab with heard := [(1, 1000), (2, 900)] } }
    let w : State := { h with fab := { h.fab with heard := h.fab.heard.erase 2 } }
    h.fab.heard.find 2 = some 900 ∧ w.isManager = false ∧ w.manager = some 1 ∧
    ({ h with lanes := { h.lanes with downAt := [(3, 999)] } } : State).lanes.downAt.find 3 = some 999 ∧ h.fab.map ≠ none ∧ h.fab.heard.find 3 = none ∧
    h.lanes.downAt.find 3 = none := by decide
theorem witness_FabricTimesAndMap_manager : let s := meshed map0
    let h : State := { s with fab := { s.fab with heard := [(1, 1000), (2, 900)], acting := true, proposal := some (change0, [0]) } }
    ({ h with fab := { h.fab with heard := h.fab.heard.erase 2 } } : State).isManager = true ∧ h.fab.acting = true := by decide
theorem witness_FabricTimesAndMap_capo : let m : MapMem := { reqid := 9, dev := 0, port := 3, tenant := 0, comp := 0, role := 0, lost := false }
    let c : MapChange := { change0 with image := { change0.image with mems := [m] } }
    let s : State := { meshed map0 with due := [(0, .capo)], fab := { (meshed map0).fab with pend := some c } }
    latchedAt s (fun d => d == .capo) .capo 0 ∧ 1536 * 0 ≤ s.now ∧ s.fab.pend = some c ∧ (map0.merge c).mems = [m] ∧ m.reqid.toNat < 0xFFFE ∧
    m.port.toNat < 642 := by
  unfold latchedAt; decide

/-! ### Segments and firmware -/

/-- An image of segment 1 without chords, its digest that of no bytes. -/
def img0 : List Byte := leBytes 2 1 ++ leBytes 2 1 ++ leBytes 6 0 ++ [1, 0, 0, 0, 0, 0] ++ sha384 []
def loads0 : State :=
  { serve with seg := [(0, { seg1 with st := .verifying })], fw := { serve.fw with loads := [(Cmd.running cmd0 0x10, img0, 0)] } }
theorem witness_SegmentLifeCycle : SMap.canon 0 serve.scd.ctr = true ∧ SMap.canon KeySlot.fresh serve.sec.slots = true ∧ bufOk cmd64 0x40 = true ∧
    headerOk img0 = true ∧ (imageStub img0).no = 1 ∧ loads0.segment 1 = some { seg1 with st := .verifying } ∧ loads0.isDue (.segReady 1) = false ∧
    reported ((loading loads0 1 []).loadFails img0) = none ∧
    (begun { serve with seg := [(0, seg1)] } { cmd0 with arg0 := 1 } 0x11).segment 1 = some seg1 ∧ seg1.st = .ready ∧ seg1.unloading = false := by
  decide
theorem witness_SegmentLifeCycle_descriptor : (begun serve cmd64 0x10).freeDescriptor = some 0 ∧ (begun serve cmd64 0x10).fw.loads = [] := by decide
theorem witness_SegmentLifeCycle_changes :
    let s : State := { serve with seg := [(0, seg1)], due := [(0, .segRemove 1), (0, .segDisable 1), (0, .segReplace seg1.image)] }
    let v : State := { loads0 with due := [(0, .segReady 1)] }
    latchedAt v (fun d => d == .segReady 1) (.segReady 1) 0 ∧ latchedAt s (fun d => d == .segRemove 1) (.segRemove 1) 0 ∧
    latchedAt s (fun d => d == .segDisable 1) (.segDisable 1) 0 ∧ s.segment 1 = some seg1 ∧
    latchedAt s (replaceDue 1) (.segReplace seg1.image) 0 ∧ 1536 * 0 ≤ s.now ∧
    latchedAt { serve with due := [(8, .remap 3)] } remapDue (.remap 3) 8 ∧ ∀ k, serve.isDue (.remap k) = false := by
  unfold latchedAt; decide
theorem witness_SegmentLifeCycle_disabled :
    let s : State := { serve with seg := [(0, { seg1 with st := .disabled })], fw := { serve.fw with disabling := [(1, some (Cmd.running cmd0 0x12))] } }
    s.fw.disabling = [(1, some (Cmd.running cmd0 0x12))] ∧ s.isDue (.segDisable 1) = false ∧ s.eng.ops = [] ∧ s.scds.length = 32 ∧
    (serve.wv .ctlScdout 1).scds.length < 32 := by decide
theorem witness_LoadChecks : sha384 (img0.drop 0x40) = sub img0 0x10 48 ∧ sha384 ((img0 ++ [1]).drop 0x40) ≠ sub (img0 ++ [1]) 0x10 48 ∧
    headerOk (0 :: img0.drop 1) = false ∧ sha384 ((0 :: img0.drop 1).drop 0x40) = sub (0 :: img0.drop 1) 0x10 48 ∧
    (live.tenant (imageOf img0).tenant).st ≠ .active ∧ serve.segment 1 = none ∧
    ({ serve with sec := { serve.sec with variant := 1 } } : State).noDistance = true ∧ slotOn (BitVec.ofNat 1024 (2 ^ 1024 - 1)) 11 = true ∧
    ¬(leAt img0 4 2 > 1023) ∧ headerOk (leBytes 4 0x10001 ++ leBytes 2 1024 ++ img0.drop 6) = false := by decide
theorem witness_LoadChecks_failed : let s : State := { loads0 with sec := { loads0.sec with tenants := [] } }
    s.regs.rising = true ∧ s.fw.loads = [(Cmd.running cmd0 0x10, img0, 0)] ∧
    (reported ((loading s 1 []).loadFails img0)).map (fun f => f.check) = some 4 := by decide
theorem witness_FirmwareAndWatchdogs : let x : FwType := { FwType.fresh with st := 1, staged := some (5, 6) }
    let s : State := { serve with fw := { serve.fw with types := [(2, x), (3, { x with st := 2 }), (4, { x with st := 3 }), (5, { x with st := 4 }),
      (6, { x with st := 2, retryAt := some 64 })] } }
    s.lanes.frstN = true ∧ (s.fwType 6).retryAt = some 64 ∧ (s.fwType 3).retryAt = none ∧ s.regs.rising = true ∧ SMap.canon FwType.fresh s.fw.types = true ∧ SMap.canon 0 s.sec.svnMin = true ∧ bufOk cmd64 1 = true ∧
    (begun s cmd0 0x51).rotHeld = false ∧ (begun s { cmd0 with arg0 := 2 } 0x52).fwType 2 = x ∧ s.emergency = false ∧
    (begun (s.wf .ctlEmerg 31 30 1) { cmd0 with arg0 := 2 } 0x52).emergency = true ∧ (s.fwType (3 : BitVec 3).toNat).st = 2 ∧
    (s.fwType 4).st = 3 ∧ (s.fwType 5).st = 4 ∧ s.ring 3 = none := by decide
theorem witness_FirmwareAndWatchdogs_watchdog : let s := serve.wf .ctlWdtstat 31 30 1 0 20
    (20 : BitVec 5).toNat ≤ 20 ∧ 20 < (21 : BitVec 5).toNat ∧ s.rf .ctlWdtstat 31 30 0 20 = 1 ∧ serve.rf .ctlWdtstat 31 30 0 20 ≠ 1 ∧
    (∃ m, ({ s with fw := { s.fw with expired := [(20, 0)] } } : State).fw.expired.find 20 = some m ∧ s.time.stroke ≤ m + 65536) := by
  exact ⟨by decide, by decide, by decide, by decide, 0, by decide⟩
theorem witness_FabricMessages_propose : let s := meshed { map0 with council := [1, 5], devs := map0.devs }
    let h : State := { s with sec := { s.sec with serial := 5 }, fab := { s.fab with heard := [(1, 1000)] } }
    h.serial ∈ h.council ∧ h.manager = some msg0.serial ∧ h.fab.acked = none ∧ msg0.epoch = h.mapEpoch + 1 ∧
    ¬(h.serial ∈ change0.image.council ∧ h.lanes.straps.getLsbD 3 = false) ∧ h.fabOk msg0 = true := by decide

/-! ### Resets, power, bring-up, losses -/

theorem witness_ResetAndPowerCommands : bufOk cmd0 0 = true ∧
    (Cmd.withLow { cmd0 with arg0 := 0x1F0000 } 3 2).arg0.toNat = 2 + (0x1F0000 : Dword).toNat / 2 ^ 16 % 2 ^ 10 * 2 ^ 16 ∧
    (Cmd.withLow { cmd0 with arg0 := 0x10 } 3 2).arg0.toNat ≠ 2 + (0x10 : Dword).toNat / 2 ^ 16 % 2 ^ 10 * 2 ^ 16 ∧
    (begun serve cmd0 0x60).scds.length = 32 ∧ (begun serve cmd0 0x60).plannedTenant 0 = .active ∧ (begun live cmd0 0x60).plannedTenant 0 ≠ .active ∧
    (begun serve cmd0 0x61).rf .ctlBringup 25 24 < 2 ∧ 2 ≤ (begun (serve.wf .ctlBringup 25 24 2) cmd0 0x61).rf .ctlBringup 25 24 ∧
    (begun serve cmd0 0x61).fwBusy = false ∧ (begun { live with regs := live.regs } cmd0 0x61).l2Refused = false ∧
    (begun (granting .zeroing 0x2F 0) cmd0 0x61).sec.grants.any (fun g => g.2.st == .zeroing) = true ∧
    (begun { serve with fw := { serve.fw with types := [(2, { FwType.fresh with st := 2 })] } } cmd0 0x61).fwBusy = true := by decide
theorem witness_ResetsAndPowerStates : 
    serve.regs.rising = true ∧ serve.lanes.up.rising = true ∧ SMap.canon TenantRec.fresh serve.sec.tenants = true ∧
    SMap.canon FwType.fresh serve.fw.types = true ∧ serve.mem.wbuf = [] ∧ serve.sec.removals = [] ∧ 1536 * 0 ≤ serve.now ∧
    latchedAt { serve with due := [(0, .resetWarm)] } resetDue .resetWarm 0 ∧
    latchedAt { serve with due := [(0, .resetScd 31)] } resetDue (.resetScd 31) 0 ∧ serve.isLost (.scd 31) = false ∧
    latchedAt { serve with due := [(0, .tenantReset 0)] } resetDue (.tenantReset 0) 0 := by
  unfold latchedAt; decide
theorem witness_ResetsAndPowerStates_power : let s (l : Nat) : State := { serve with pwr := { serve.pwr with target := some (l, 0) } }
    serve.pwr.target = none ∧ (s 2).workDone = true ∧ ({ s 2 with eng := engaged.eng } : State).workDone = false ∧ (s 2).pwr.target = some (2, 0) ∧ (s 3).pwr.target = some (3, 0) ∧ (s 4).pwr.target = some (4, 0) ∧
    (let v := (serve.setPhase 0x20).wf .ctlBringup 25 24 2
     v.pwr.trip = false ∧ 0x20 ≤ v.phase ∧ v.phase ≤ 0x42 ∧ v.pstate = 2) ∧
    ((serve.setPhase 0x30).wf .ctlBringup 25 24 3).pstate = 3 ∧ ¬(0x20 ≤ (serve.setPhase 0x10).phase) := by decide
theorem witness_EmergencyLevels : serve.regs.rising = true ∧ serve.pwr.trip = false ∧ ({ serve with pwr := { serve.pwr with trip := true } } : State).pwr.trip = true ∧
    serve.rf .ctlEmerg 31 30 = 0 ∧ 110 ≤ (110 : BitVec 8).toNat ∧ ¬(110 ≤ (109 : BitVec 8).toNat ∨ 95 ≤ (94 : BitVec 8).toNat) ∧
    102 ≤ (102 : BitVec 8).toNat ∧ ((3000 :: serve.pwr.powerLog).take 1024).sum / 1 = 3000 ∧
    ((serve.wf .ctlEmerg 31 30 1).rf .ctlEmerg 31 30 = 1 ∧ ({ serve.pwr with clearFrom := some 0 }).clearFrom = some 0 ∧ 0 + 1024 ≤ 1024) ∧
    serve.pwr.clearFrom = none ∧ ({ serve.pwr with sensors := some ⟨95, 80, 0⟩ }).sensors ≠ none ∧
    ¬(102 ≤ (101 : BitVec 8).toNat ∨ 90 ≤ (85 : BitVec 8).toNat) ∧ 85 ≤ (85 : BitVec 8).toNat := by decide
theorem witness_BringupPhases : let at_ (n : Nat) : State := serve.setPhase n
    (at_ 1).regs.rising = true ∧ (at_ 1).acts.rising = true ∧ (at_ 1).phase = 1 ∧ (at_ 2).phase = 2 ∧ (at_ 4).phase = 4 ∧ (at_ 5).phase = 5 ∧
    (at_ 6).phase = 6 ∧ (at_ 7).phase = 7 ∧ (at_ 4).pwr.marksDone = false ∧ ((at_ 0x10).phase ∉ [1, 2, 4, 5, 6, 7]) ∧
    ({ at_ 4 with pwr := { serve.pwr with marksDone := true } } : State).lanes.straps.getLsbD 0 = false ∧
    ({ LanesSt.reset with straps := 1 }).straps.getLsbD 0 = true ∧ serve.pwr.tested = false ∧ (at_ 6).rf .seqAlign 31 31 = 0 ∧
    ((at_ 6).wf .seqAlign 31 31 1).rf .seqAlign 31 31 = 1 ∧ serve.time.ptp = 0 ∧ (at_ 0x41).phase = 0x41 ∧
    ({ serve.pwr with runHalf := some true }).runHalf = some true ∧ serve.lanes.frstN = true ∧ 31 ≤ serve.scds.length ∧
    serve.rf .ctlStkout 25 24 ≠ 3 ∧ (serve.wv .ctlScdout 3).scds.length < 31 ∧ serve.sec.edIdent = serve.sec.edIdent.fused := by decide
theorem witness_UnitsLostAndReturned : serve.regs.rising = true ∧ serve.live.rising = true ∧ 24 ≤ (24 : BitVec 5).toNat ∧
    serve.isLost (.scd 31) = false ∧ serve.isLost (.stack 23) = false ∧ serve.isLost (.mid 7) = false ∧ serve.isLost (.seq 1) = false ∧
    serve.isLost (.phe 15) = false ∧ serve.isLost (.eio 3) = false ∧ (serve.wv .ctlScdout 8).isLost (.scd 3) = true ∧ serve.pwr.detected = [] ∧
    serve.scds.length = 32 ∧ serve.phase ≠ 0xE0 := by decide
theorem witness_UnitsLostAndReturned_record : let d (u : LostUnit) : State := { serve with pwr := { serve.pwr with detected := [(u, 1, 0)] } }
    (d (.scd 3)).pwr.detected = [(.scd 3, 1, 0)] ∧ (d (.stack 0)).pwr.detected = [(.stack 0, 1, 0)] ∧
    (filled true).lostExtents 16 ≠ [] ∧ (filled true).tier.ext.rising = true ∧ ({ serve.time with cy := 1408 }).cy = 1408 ∧ serve.time.cy ≠ 1408 ∧ (d (.seq 1)).pwr.detected ≠ [] := by decide
theorem witness_UnitsLostAndReturned_return :
    let s : State := { serve with due := [(0, .remap 3), (0, .handback 3)], pwr := { serve.pwr with resetScd := some (3, 0, 4096) } }
    latchedAt s remapDue (.remap 3) 0 ∧ latchedAt s (fun d => d == .handback 3) (.handback 3) 0 ∧ 1536 * 0 ≤ s.now ∧
    s.pwr.resetScd = some (3, 0, 4096) ∧ s.coh.entries = [] ∧ serve.time.resyncUntil = none ∧
    ({ serve.time with resyncUntil := some 8 }).resyncUntil = some 8 := by
  unfold latchedAt; decide

/-! ### Small runs

The expected results are those of the spec's worked examples and rules, named in each comment. -/

/-- The state after a command. -/
def after (i : Instr) (s : State) : State := (nextOf (exec i s)).getD s
/-- Scalars 1 and 2 of SCD0. -/
def twoScalars (a b : Dword) : State := { live with scd := { live.scd with s := [(1, a), (2, b)] } }

/-- Table 3.9: ADD is modulo 2^64 and lands 1 cy after its issue. -/
theorem test_add_wraps : (after (.add 0 scaF) (twoScalars 0xFFFFFFFFFFFFFFFF 3)).timed = [(1, .land (.sca 0 61 2))] := by decide
/-- Table 3.9: MUL keeps the low 64 bits and lands after 4 cy. -/
theorem test_mul_low : (after (.mul 0 scaF) (twoScalars 0x100000000 0x100000003)).timed = [(4, .land (.sca 0 61 0x300000000))] := by decide
/-- Table 3.9: SAR shifts in the sign. -/
theorem test_sar_sign : (after (.sar 0 scaF) (twoScalars 0x8000000000000000 65)).timed = [(1, .land (.sca 0 61 0xC000000000000000))] := by decide
/-- Table 3.9: MIN and MAX compare as signed numbers. -/
theorem test_max_signed : (after (.max 0 scaF) (twoScalars 0xFFFFFFFFFFFFFFFF 3)).timed = [(1, .land (.sca 0 61 3))] := by decide
/-- Example of R284: value 0xFFFFFF00 has not reached target 0x100, and the value 0x100 has. -/
theorem test_pcnt_wrap : ({ prdF with sa := 1 } : PrdF).imm = 5 ∧
    (after (.pcnt 0 { prdF with sa := 1 }) { twoScalars 0x100 0 with scd := { (twoScalars 0x100 0).scd with ctr := [(5, 0xFFFFFF00)] } }).timed =
      [(2, .land (.prd 0 15 0))] ∧
    (after (.pcnt 0 { prdF with sa := 1 }) { twoScalars 0x100 0 with scd := { (twoScalars 0x100 0).scd with ctr := [(5, 0x100)] } }).timed =
      [(2, .land (.prd 0 15 (BitVec.allOnes 256)))] := by decide
/-- Example after R235: address 0x1234567880. -/
theorem test_address_decode : stackOf 0x1234567880 = 7 ∧ stackOffset 0x1234567880 = 0xC22E4880 ∧ bankOf 0x1234567880 = 50 ∧
    rawHome 0x1234567880 = 11 := by decide
/-- Table 8.4: the same address, by dequeue cy. -/
theorem test_refresh_class : inRefresh 0x1234567880 (200 * 1536 + 1020) 40 = false ∧ inRefresh 0x1234567880 (200 * 1536 + 1100) 40 = true ∧
    inRefresh 0x1234567880 (201 * 1536 + 100) 40 = true ∧ inRefresh 0x1234567880 (201 * 1536 + 120) 40 = false := by decide
/-- Example after R262: the overflow record of block 0x1234 with OVFK 2. -/
theorem test_overflow_record : ovfRecord { extAt 0 4 with aux := 0, ovfk := 2 } 0x1234 = 0x2D780 := by decide
/-- Example of R205: −200 in FP8-E4M3, and in INT8 without and with saturation. -/
theorem test_convert : rduResult fmtE4M3 false .nearest (numOf fmtInt32 0xFFFFFF38) = 0xF4 ∧
    rduResult fmtInt8 false .nearest (numOf fmtInt32 0xFFFFFF38) = 0x38 ∧ rduResult fmtInt8 true .nearest (numOf fmtInt32 0xFFFFFF38) = 0x80 := by
  decide
/-- Example of R206: 2^24 + 1 is a tie that rounds to 2^24, and 2^24 + 2 is exact. -/
theorem test_add_rounds : rduResult fmtFp32 false .nearest ((decodeFloat fmtFp32 0x4B800000).add (decodeFloat fmtFp32 0x3F800000)) = 0x4B800000 ∧
    rduResult fmtFp32 false .nearest ((decodeFloat fmtFp32 0x4B800000).add (decodeFloat fmtFp32 0x40000000)) = 0x4B800001 := by decide
/-- Table 6.8: five elements divided by 2 in FP4-E2M1. -/
theorem test_fp4 : [0x40D80000, 0x40200000, 0x3FA66666, 0xBEB33333, 0x3DCCCCCD].map
    (fun x => rduResult fmtE2M1 false .nearest (decodeFloat fmtFp32 x)) = [7, 4, 3, 9, 0] := by decide
/-- Table 11.9: the flow after strokes 1,000, 1,001, 1,005 and 1,025. -/
theorem test_governor_flow : let f : Flow := State.flow live 0
    let a := live.flowUpdate { f with acks := 384, marks := 96 }
    let b := live.flowUpdate { a with acks := 320, marks := 240 }
    let c := live.flowUpdate { b with hold := 0, acks := 320, marks := 160 }
    let d := live.flowUpdate { c with hold := 0, quiet := 15, acks := 256 }
    [a, b, c, d].map (fun x => (x.hold, x.quiet, x.step, live.flowRate x 4000)) =
      [(4, 0, 2, 3363), (3, 0, 2, 3363), (4, 0, 5, 2593), (0, 0, 4, 2828)] := by decide
/-- The identity of the bring-up example of the package: FWL-9628. -/
theorem test_identity : ({ live with sec := { live.sec with variant := 1 } } : State).ctlId = 0xFA3D9641 := by decide
/-- Table 2.7: a load of a line in no agent's hands is answered 212 cy after its dequeue, 38 cy when the stack cache holds it. -/
theorem test_load_latency : (after (.load (ask .load 0x2000 8).r) serve).timed.length = 1 ∧
    (after (.load (ask .load 0x2000 8).r) { serve with mem := { serve.mem with scache := [(64, 0)] } }).timed.any (fun e => e.1 == 38) = true := by
  decide
/-- R508 and Table 17.5: a command with a buffer outside the control region posts NO_GRANT. -/
theorem test_command_refused : leAt ((after (.extGet { cmd64 with buf := 0 }) { rung with regs := (rung.wv .ctlLogCfg 0).regs }).bankRead ring1.pring 32) 6 1 =
    Status.noGrant.code := by decide
/-- FIPS 197, appendix C.3 (R415 names AES-256; the algorithm is the standard's, log entry 6). -/
theorem test_aes256 : aesEncrypt (aesKeys (List.range 32)) ((List.range 16).map (· * 17)) =
    [0x8E, 0xA2, 0xB7, 0xCA, 0x51, 0x67, 0x45, 0xBF, 0xEA, 0xFC, 0x49, 0x90, 0x4B, 0x49, 0x60, 0x89] := by decide
/-- Test case 14 of the GCM specification: zero key, nonce and block. -/
theorem test_gcm : (gcmSeal (List.replicate 32 0) 0 [] (List.replicate 16 0)).take 17 =
    [0xCE, 0xA7, 0x40, 0x3D, 0x4D, 0x60, 0x6B, 0x6E, 0x07, 0x4E, 0xC5, 0xD3, 0xBA, 0xF3, 0x9D, 0x18, 0xD0] := by decide
/-- IEEE 1619, vector 10: the first block of data unit 0xFF under a 64-byte key (R415). -/
theorem test_xts : (xtsUnit true (beBytes 64 0x27182818284590452353602874713526624977572470936999595749669676273141592653589793238462643383279502884197169399375105820974944592) 0xFF
    ((List.range 128).map (BitVec.ofNat 8))).take 16 = beBytes 16 0x1C3B3A102F770386E4836C99E370CF9B := by decide
/-- A chord with one slot. -/
def chordOf (n : Nat) (o : SlotOp) : BitVec 1024 := BitVec.ofNat 1024 (2 ^ (11 + n) + slotWord o <<< (slotPlace n).1)
/-- R122: a QS slot with CLASSMASK bit 5 on cy 0 keeps RDB from an operation on cy 20, and not from one on cy 22. -/
theorem test_rdb_held : let r := chordOf 8 (.rdu .radd { rduF with vb := 1 })
    let g (n : Nat) : Image := { seg1.image with len := n + 1, chords := chordOf 0 (.qs 32) :: List.replicate (n - 1) 0 ++ [r] }
    check13 (g 20) = some (failAt 13 20) ∧ check13 (g 22) = none := by decide
/-- After Table 5.10: DQLD and DSCORE of one array carry one FMT. -/
theorem test_query_format : let q := chordOf 14 (.dxa .dqld { dxaF with fmt := 8 })
    let g (fmt : BitVec 4) : Image := { seg1.image with len := 2, chords := [q, chordOf 14 (.dxa .dscore { dxaF with fmt := fmt })] }
    queryBreak (g 8) = none ∧ queryBreak (g 9) = some 1 := by decide

end Sys2Proof.Tests
end

