-- ==== Sys2Proof/Proofs/Stroke.lean ====
section
/-! The chord of a cy (R42), and the boundary at which a latched change takes effect (R46, R47). -/

namespace Sys2Proof.Machine

/-! ### The chord of the current cy -/

theorem State.issueNow_of_chordsOn {s : State} (hOn : s.chordsOn = true) (hCy : s.time.cy < 1408) :
    s.issueNow = s.chordIssue s.time.cy :=
  if_pos ⟨hCy, hOn⟩

theorem State.issueNow_of_window {s : State} (hCy : 1408 ≤ s.time.cy) : s.issueNow = s :=
  if_neg fun h => Nat.not_lt.mpr hCy h.1

theorem State.issueNow_of_chordsOff {s : State} (hOff : s.chordsOn = false) : s.issueNow = s :=
  if_neg fun h => Bool.false_ne_true (hOff.symm.trans h.2)

/-! ### The stroke for which a change is latched -/

theorem State.boundary_of_lt {s : State} (hCy : s.time.cy < 1472) : s.boundary = s.time.stroke + 1 := if_pos hCy

theorem State.boundary_of_ge {s : State} (hCy : 1472 ≤ s.time.cy) : s.boundary = s.time.stroke + 2 :=
  if_neg (Nat.not_lt.mpr hCy)

theorem State.latchNext_eq (s : State) (d : Due) : s.latchNext d = { s with due := s.due ++ [(s.boundary, d)] } := rfl

/-! ### The changes that a stroke applies -/

/-- Taking the only change that is latched empties the list before the change acts. -/
theorem State.dueTake_only {s : State} {e : Nat × Due} (h : s.due = [e]) :
    s.dueTake e = ({ s with due := [] } : State).dueApply e.2 := by
  simp [State.dueTake, h, dropFirst]

/-- A stroke leaves changes of later strokes latched. -/
theorem State.duesApply_of_later {s : State} (h : ∀ e ∈ s.due, s.time.stroke < e.1) : s.duesApply = s := by
  have hNow : s.due.filter (fun e => decide (e.1 ≤ s.time.stroke)) = [] :=
    List.filter_eq_nil_iff.mpr fun e he => by simpa using h e he
  simp [State.duesApply, hNow, forEach]

/-- The only change latched is taken when its stroke has come, whether it is a reset or comes before the resets. -/
theorem State.duesApply_only {s : State} {e : Nat × Due} (h : s.due = [e]) (hNow : e.1 ≤ s.time.stroke) :
    s.duesApply = ({ s with due := [] } : State).dueApply e.2 := by
  rw [← State.dueTake_only h]
  cases hLast : e.2.last with
  | false => simp [State.duesApply, h, hNow, hLast, forEach]
  | true => simp [State.duesApply, h, hNow, hLast, forEach]

end Sys2Proof.Machine

namespace Sys2Proof.Claim

open Sys2Proof Sys2Proof.Machine

/-- Settles O18: the two conditions of `issueNow` are the work window and `chordsOn`. -/
theorem chordsIssueOnTheirCy : Obligations.ChordsIssueOnTheirCy := fun _ =>
  ⟨fun hOn hCy => State.issueNow_of_chordsOn hOn (Nat.lt_succ_of_le hCy), State.issueNow_of_window, State.issueNow_of_chordsOff⟩

/-- Settles O19: `latchNext` latches for the boundary of the current cy, and `duesApply` takes a change when its stroke has come. -/
theorem changesTakeEffectAtTheirStroke : Obligations.ChangesTakeEffectAtTheirStroke := by
  refine ⟨fun s d => ⟨fun hCy => ?_, fun hCy => ?_⟩, fun s n d hDue => ⟨fun hLater => ?_, fun hNow => ?_⟩⟩
  · rw [State.latchNext_eq, State.boundary_of_lt hCy]
  · rw [State.latchNext_eq, State.boundary_of_ge hCy]
  · exact State.duesApply_of_later (by simpa [hDue] using hLater)
  · exact State.duesApply_only hDue hNow.ge

end Sys2Proof.Claim
end

/-! The load checks of a segment image (R98, R99, Table 3.13): the checks as a table, the choice among the checks that fail, and what a
refused load leaves behind. -/

namespace Sys2Proof.Machine

open Sys2Proof.Claim (loading)

/-! ### Checks 3 to 14 as a table -/

/-- Check 3: a segment that is not loaded, with 64 loaded. -/
def State.check3 (s : State) (g : Image) : Option LoadFail :=
  if (s.segment g.no).isNone && decide (64 ≤ s.seg.length) then some (failAt 3 0) else none

/-- Check 4: a tenant that is not active, or a key slot of it that its removal retires. -/
def State.check4 (s : State) (g : Image) : Option LoadFail :=
  if (s.tenant g.tenant).st != .active || (s.slotsOf g.tenant).any fun i => (s.slot i).st == .retiring && (s.slot i).removal
  then some (failAt 4 0) else none

/-- A chord keeps clear of the distance and rank slots of a part that does not have them (check 6). -/
def State.chordPresent (s : State) (c : BitVec 1024) : Bool :=
  !(s.noDistance && (List.range 5).any fun i => slotOn c (11 + i))

/-- The answers of checks 3 to 14, in this order. -/
def State.checks (s : State) (g : Image) : List (Option LoadFail) :=
  [s.check3 g, s.check4 g, (lowest [firstChord g chordFormOk, rankBreak g, queryBreak g, lateAhead g]).map (failAt 5),
   (firstChord g s.chordPresent).map (failAt 6), (firstChord g (opsAll SlotOp.fmtOk)).map (failAt 7),
   (firstChord g (opsAll fun o => predMode o.pred < 3 || o.maskOk)).map (failAt 8),
   check9 g, check10 s g, check11 g, check12 g, check13 g, check14 g]

theorem State.loadFails_of_hash {s : State} {b : List Byte} (h : sha384 (b.drop 0x40) ≠ sub b 0x10 48) :
    s.loadFails b = [failAt 1 0] :=
  if_pos (bne_iff_ne.mpr h)

theorem State.loadFails_of_header {s : State} {b : List Byte} (hHash : sha384 (b.drop 0x40) = sub b 0x10 48)
    (hHeader : headerOk b = false) : s.loadFails b = [failAt 2 0] := by
  simp [State.loadFails, hHash, hHeader]

/-- An image that can be read further: the failures are the answers of the table. -/
theorem State.loadFails_of_read {s : State} {b : List Byte} (hHash : sha384 (b.drop 0x40) = sub b 0x10 48)
    (hHeader : headerOk b = true) : s.loadFails b = (s.checks (imageOf b)).reduceOption := by
  have hOption (p : Bool) (f : LoadFail) (fs : List (Option LoadFail)) :
      ((if p = true then some f else none) :: fs).reduceOption = (if p = true then [f] else []) ++ fs.reduceOption := by
    cases p <;> rfl
  have hCons (o : Option LoadFail) (fs : List (Option LoadFail)) : (o :: fs).reduceOption = o.toList ++ fs.reduceOption := by
    cases o <;> rfl
  simp only [State.loadFails, hHash, hHeader, bne_self_eq_false, Bool.not_true, Bool.false_eq_true, if_false, State.checks,
    State.check3, State.check4, hOption, hCons, List.reduceOption_nil, List.append_nil, List.append_assoc]
  rfl

theorem State.mem_loadFails {s : State} {b : List Byte} {f : LoadFail} (hHash : sha384 (b.drop 0x40) = sub b 0x10 48)
    (hHeader : headerOk b = true) (hCheck : some f ∈ s.checks (imageOf b)) : f ∈ s.loadFails b := by
  rw [State.loadFails_of_read hHash hHeader]
  exact List.reduceOption_mem_iff.mpr hCheck

/-! ### The numbers of the checks -/

/-- Every failure that a check answers carries the number of the check. -/
def Numbered (n : Nat) (o : Option LoadFail) : Prop := ∀ f ∈ o, f.check = n

theorem numbered_ite {n : Nat} {p : Prop} [Decidable p] : Numbered n (if p then some (failAt n 0) else none) := by
  intro f hf
  obtain ⟨-, ⟨⟩⟩ := Option.mem_ite_none_right.mp hf
  rfl

theorem numbered_map {α : Type} {n : Nat} {o : Option α} {k : α → LoadFail} (h : ∀ a, (k a).check = n) : Numbered n (o.map k) := by
  intro f hf
  obtain ⟨a, -, rfl⟩ := Option.mem_map.mp hf
  exact h a

theorem numbered_findSome {α : Type} {n : Nat} {xs : List α} {k : α → Option LoadFail} (h : ∀ a, Numbered n (k a)) :
    Numbered n (xs.findSome? k) := by
  intro f hf
  obtain ⟨a, -, ha⟩ := List.exists_of_findSome?_eq_some hf
  exact h a f ha

theorem check9_numbered (g : Image) : Numbered 9 (check9 g) := by
  unfold check9
  extract_lets refs
  split
  · rintro f ⟨⟩
    rfl
  · split
    · next hKind =>
      rintro f ⟨⟩
      refine numbered_findSome (fun r => ?_) _ hKind
      split
      · exact numbered_map fun _ => rfl
      · rintro _ ⟨⟩
    · exact numbered_findSome fun _ => numbered_map fun _ => rfl

theorem check10_numbered (s : State) (g : Image) : Numbered 10 (check10 s g) :=
  numbered_findSome fun _ => numbered_map fun _ => rfl

theorem check14_numbered (g : Image) : Numbered 14 (check14 g) := by
  refine numbered_findSome fun f => ?_
  split
  · exact numbered_map fun _ => rfl
  · rintro _ ⟨⟩

/-- The table lists the checks by ascending number. -/
theorem State.checks_numbered (s : State) (g : Image) :
    List.Forall₂ Numbered [3, 4, 5, 6, 7, 8, 9, 10, 11, 12, 13, 14] (s.checks g) := by
  have hMap (n : Nat) (o : Option Nat) : Numbered n (o.map (failAt n)) := numbered_map fun _ => rfl
  exact .cons numbered_ite <| .cons numbered_ite <| .cons (hMap 5 _) <| .cons (hMap 6 _) <| .cons (hMap 7 _) <| .cons (hMap 8 _) <|
    .cons (check9_numbered g) <| .cons (check10_numbered s g) <| .cons (hMap 11 _) <| .cons (hMap 12 _) <| .cons (hMap 13 _) <|
    .cons (check14_numbered g) .nil

theorem sublist_of_numbered {ns : List Nat} {os : List (Option LoadFail)} (h : List.Forall₂ Numbered ns os) :
    (os.reduceOption.map LoadFail.check).Sublist ns := by
  induction h with
  | nil => exact .slnil
  | @cons n o ns os hn _ ih =>
    cases o with
    | none => exact ih.cons n
    | some f =>
      rw [List.reduceOption_cons_of_some, List.map_cons, hn f rfl]
      exact ih.cons_cons n

/-- Which checks failed is a part of the list 3 to 14 in its order. -/
theorem State.loadFails_checks_sublist {s : State} {b : List Byte} (hHash : sha384 (b.drop 0x40) = sub b 0x10 48)
    (hHeader : headerOk b = true) :
    ((s.loadFails b).map LoadFail.check).Sublist [3, 4, 5, 6, 7, 8, 9, 10, 11, 12, 13, 14] := by
  rw [State.loadFails_of_read hHash hHeader]
  exact sublist_of_numbered (s.checks_numbered _)

/-- No check fails twice, and the failures come by ascending number. -/
theorem State.loadFails_ascending (s : State) (b : List Byte) : ((s.loadFails b).map LoadFail.check).Pairwise (· < ·) := by
  by_cases hHash : sha384 (b.drop 0x40) = sub b 0x10 48
  · cases hHeader : headerOk b with
    | false => rw [State.loadFails_of_header hHash hHeader]; exact List.pairwise_singleton _ _
    | true => exact (by decide : List.Pairwise (· < ·) _).sublist (State.loadFails_checks_sublist hHash hHeader)
  · rw [State.loadFails_of_hash hHash]
    exact List.pairwise_singleton _ _

/-! ### When checks 2, 3, 4 and 6 fail -/

/-- R99: a TENANT above 1,023 is a header fault. -/
theorem headerOk_of_tenant {b : List Byte} (h : 1023 < leAt b 4 2) : headerOk b = false := by
  have : ¬leAt b 4 2 < 1024 := by omega
  simp [headerOk, this]

theorem State.check3_of_full {s : State} {g : Image} (hNew : s.segment g.no = none) (hFull : s.seg.length = 64) :
    s.check3 g = some (failAt 3 0) := by
  simp [State.check3, hNew, hFull]

theorem State.check4_of_gone {s : State} {g : Image} (h : (s.tenant g.tenant).st ≠ .active) : s.check4 g = some (failAt 4 0) := by
  simp [State.check4, h]

/-- The lowest number that meets a test lies no higher than any number that meets it. -/
theorem firstBelow_le {n i : Nat} {p : Nat → Bool} (hi : i < n) (hp : p i = true) : ∃ j ≤ i, firstBelow n p = some j := by
  unfold firstBelow
  cases hFind : (List.range n).find? p with
  | none => exact absurd hp (List.find?_eq_none.mp hFind i (List.mem_range.mpr hi))
  | some j =>
    refine ⟨j, Nat.le_of_not_lt fun hlt => ?_, rfl⟩
    have hBefore := (List.find?_range_eq_some.mp hFind).2.2 i hlt
    simp [hp] at hBefore

/-- The first chord that fails a test comes no later than any chord that fails it. -/
theorem firstChord_le {g : Image} {ok : BitVec 1024 → Bool} {i : Nat} {c : BitVec 1024} (hLen : i < g.len)
    (hChord : g.chords[i]? = some c) (hBad : ok c = false) : ∃ j ≤ i, firstChord g ok = some j :=
  firstBelow_le hLen (by simp [hChord, hBad])

theorem State.chordPresent_of_slot {s : State} {c : BitVec 1024} {n : Nat} (hPart : s.noDistance = true) (hn : n < 5)
    (hSlot : slotOn c (11 + n) = true) : s.chordPresent c = false := by
  have : (List.range 5).any (fun i => slotOn c (11 + i)) = true := List.any_eq_true.mpr ⟨n, List.mem_range.mpr hn, hSlot⟩
  simp [State.chordPresent, hPart, this]

/-! ### The failure that is reported -/

/-- The statuses of the load checks in the order of R99. -/
def statusOrder : List Status := [.tenantGone, .noGrant, .unitAbsent, .formatUnsupported]

theorem checkStatus_mem_statusOrder (n : Nat) : checkStatus n ∈ statusOrder := by
  unfold checkStatus
  split_ifs <;> decide

theorem reported_eq (fs : List LoadFail) :
    reported fs = statusOrder.findSome? fun st => fs.find? fun f => checkStatus f.check == st := rfl

theorem reported_eq_none_iff {fs : List LoadFail} : reported fs = none ↔ fs = [] := by
  rw [reported_eq, List.findSome?_eq_none_iff]
  constructor
  · intro h
    refine List.eq_nil_iff_forall_not_mem.mpr fun f hf => ?_
    exact List.find?_eq_none.mp (h _ (checkStatus_mem_statusOrder f.check)) f hf (beq_self_eq_true _)
  · rintro rfl _ _
    rfl

/-- The search through a list of keys finds an element whose key comes first in that list, the first one of that key. -/
theorem findSome_find_spec {α β : Type} [DecidableEq β] {key : α → β} {order : List β} {xs : List α} {f : α}
    (h : order.findSome? (fun k => xs.find? fun x => key x == k) = some f) :
    xs.find? (fun x => key x == key f) = some f ∧ ∀ x ∈ xs, order.idxOf (key f) ≤ order.idxOf (key x) := by
  induction order with
  | nil => cases h
  | cons k order ih =>
    rw [List.findSome?_cons] at h
    cases hFind : xs.find? fun x => key x == k with
    | some g =>
      rw [hFind] at h
      obtain rfl : g = f := Option.some.inj h
      have hKey : key g = k := by simpa using List.find?_some hFind
      exact ⟨hKey ▸ hFind, fun x _ => by rw [hKey, List.idxOf_cons_self]; exact Nat.zero_le _⟩
    | none =>
      rw [hFind] at h
      obtain ⟨hFirst, hLeast⟩ := ih h
      have hOther : ∀ x ∈ xs, k ≠ key x := fun x hx hk => List.find?_eq_none.mp hFind x hx (by simp [hk])
      refine ⟨hFirst, fun x hx => ?_⟩
      rw [List.idxOf_cons_ne _ (hOther f (List.mem_of_find?_eq_some hFirst)), List.idxOf_cons_ne _ (hOther x hx)]
      exact Nat.succ_le_succ (hLeast x hx)

/-- In a list by ascending number, the first failure of a test has the lowest number among those that meet it. -/
theorem check_le_of_find {fs : List LoadFail} {p : LoadFail → Bool} {f x : LoadFail}
    (hAsc : (fs.map LoadFail.check).Pairwise (· < ·)) (hFind : fs.find? p = some f) (hx : x ∈ fs) (hp : p x = true) :
    f.check ≤ x.check := by
  obtain ⟨-, before, later, rfl, hBefore⟩ := List.find?_eq_some_iff_append.mp hFind
  rw [List.map_append, List.map_cons] at hAsc
  have hLater := (List.pairwise_cons.mp (List.pairwise_append.mp hAsc).2.1).1
  rcases List.mem_append.mp hx with hx | hx
  · exact absurd hp (by simpa using hBefore x hx)
  · rcases List.mem_cons.mp hx with rfl | hx
    · exact Nat.le_refl _
    · exact (hLater _ (List.mem_map_of_mem hx)).le

/-! ### A load that is refused -/

/-- A descriptor shows the segment VERIFYING, and not yet as one that a finished load makes READY. -/
def State.verifies (s : State) (no : SegNo) : Bool :=
  match s.segment no with
  | some g => g.st == .verifying && !s.isDue (.segReady no)
  | none => false

/-- The checks are judged with the load out of the list and the descriptor that shows it empty. -/
theorem loading_eq_ite (s : State) (no : SegNo) (xs : List (Running × List Byte × Nat)) :
    loading s no xs = if s.verifies no = true then ({ s with fw := { s.fw with loads := xs } } : State).eraseSegment no
      else { s with fw := { s.fw with loads := xs } } := by
  unfold loading State.verifies
  cases s.segment no <;> simp

/-- `loading` changes the list of loads and the descriptors, and nothing else. -/
theorem loading_eq (s : State) (no : SegNo) (xs : List (Running × List Byte × Nat)) :
    loading s no xs = { s with fw := { s.fw with loads := xs }, seg := (loading s no xs).seg } := by
  rw [loading_eq_ite]
  cases s.verifies no <;> rfl

/-- SEQ_LOADERR of a failure (Table 3.17). -/
def LoadFail.word (f : LoadFail) : Nat :=
  (checkStatus f.check).code * 2 ^ 24 + f.check * 2 ^ 20 + (if f.sect31 then 2 ^ 16 else 0) + f.tile * 2 ^ 11 + f.where_

theorem LoadFail.word_eq_fields (f : LoadFail) :
    fld (checkStatus f.check).code 24 + fld f.check 20 + fld (b2n f.sect31) 16 + fld f.tile 11 + f.where_ = f.word := by
  simp only [fld, Nat.shiftLeft_eq, LoadFail.word, b2n]
  cases f.sect31 <;> rfl

/-- The load at the front is out of the list, and the descriptor that showed it is empty (R100). -/
def State.loadTaken (s : State) (b : List Byte) (xs : List (Running × List Byte × Nat)) : State :=
  { s with
    fw := { s.fw with loads := xs }
    seg := if headerOk b = true then (loading s (imageStub b).no xs).seg else s.seg }

/-- The load at the front has failed, and its completion is still to be posted: SEQ_LOADERR and SEQ_LOADERR_SEG name the failure
(R98). -/
def State.loadRefused (s : State) (b : List Byte) (xs : List (Running × List Byte × Nat)) (f : LoadFail) : State :=
  ((s.loadTaken b xs).wv .seqLoaderr f.word).wv .seqLoaderrSeg (imageStub b).no.toNat

theorem State.loadRefused_rv_loaderrSeg {s : State} (b : List Byte) (xs : List (Running × List Byte × Nat)) (f : LoadFail)
    (h : s.regs.rising = true) : (s.loadRefused b xs f).rv .seqLoaderrSeg = (imageStub b).no.toNat := by
  refine (State.rv_wv_self _ _ _ _ _ (State.regs_rising_wv _ _ _ _ _ h)).trans (Nat.mod_eq_of_lt ?_)
  exact (imageStub b).no.isLt.trans (by decide)

theorem State.loadRefused_rv_loaderr {s : State} (b : List Byte) (xs : List (Running × List Byte × Nat)) (f : LoadFail)
    (h : s.regs.rising = true) : (s.loadRefused b xs f).rv .seqLoaderr = f.word % 2 ^ 32 :=
  (State.rv_wv_of_ne _ (State.regs_rising_wv _ _ _ _ _ h) (by decide)).trans (State.rv_wv_self _ _ _ _ _ h)

@[simp] theorem State.loadRefused_seg (s : State) (b : List Byte) (xs : List (Running × List Byte × Nat)) (f : LoadFail) :
    (s.loadRefused b xs f).seg = if headerOk b = true then (loading s (imageStub b).no xs).seg else s.seg := by
  rw [State.loadRefused, State.wv_seg, State.wv_seg]
  rfl

@[simp] theorem State.loadRefused_due (s : State) (b : List Byte) (xs : List (Running × List Byte × Nat)) (f : LoadFail) :
    (s.loadRefused b xs f).due = s.due := by
  rw [State.loadRefused, State.wv_due, State.wv_due]
  rfl

@[simp] theorem State.loadRefused_scd (s : State) (b : List Byte) (xs : List (Running × List Byte × Nat)) (f : LoadFail) :
    (s.loadRefused b xs f).scd = s.scd := by
  rw [State.loadRefused, State.wv_scd, State.wv_scd]
  rfl

@[simp] theorem State.loadRefused_mem (s : State) (b : List Byte) (xs : List (Running × List Byte × Nat)) (f : LoadFail) :
    (s.loadRefused b xs f).mem = s.mem := by
  rw [State.loadRefused, State.wv_mem, State.wv_mem]
  rfl

/-- A load that fails ends with the status of the failure. -/
theorem State.loadDone_of_reported {s : State} {r : Running} {b : List Byte} {n : Nat} {xs : List (Running × List Byte × Nat)}
    {f : LoadFail} (hLoads : s.fw.loads = (r, b, n) :: xs)
    (hFail : reported ((loading s (imageStub b).no xs).loadFails b) = some f) :
    s.loadDone = (((s.loadRefused b xs f).complete r (checkStatus f.check)).trace (s.loadRefused b xs f).loadCore 2 0x5001
      [(imageStub b).no.toNat, (checkStatus f.check).code]).loadNext := by
  unfold State.loadDone
  simp -zeta only [hLoads]
  extract_lets fw u no verifying others res st t g w
  have hOthers : others = loading s no xs := (loading_eq_ite s no xs).symm
  have hRes : res = some f := (congrArg (fun x : State => reported (x.loadFails b)) hOthers).trans hFail
  have hSt : st = checkStatus f.check := by simp only [st, hRes]
  have hTaken : t = s.loadTaken b xs := by
    cases hHeader : headerOk b with
    | false => simp [t, hHeader, State.loadTaken, u, fw]
    | true => simp [t, hHeader, State.loadTaken, hOthers, ← loading_eq, no]
  have hRefused : w = s.loadRefused b xs f := by
    simp only [w, hRes, hTaken, LoadFail.word_eq_fields, State.loadRefused, no]
  rw [hSt, hRefused]

theorem exec_segmentLoadComplete_of_front {s : State} {r : Running} {b : List Byte} {n : Nat}
    {xs : List (Running × List Byte × Nat)} (hLoads : s.fw.loads = (r, b, n) :: xs) :
    exec (.segmentLoadComplete (imageStub b).no) s = .next s.loadDone := by
  show execSegmentLoadComplete _ s = _
  simp [execSegmentLoadComplete, hLoads]

end Sys2Proof.Machine

namespace Sys2Proof.Claim

open Sys2Proof Sys2Proof.Machine

/-- Settles O53: the failures of an image that can be read are answers of checks 3 to 14, listed by ascending number, so that the first
one found of the first status in the order of R99 has the lowest number of that status; `loadRefused` is the state it leaves. -/
theorem loadChecks : Obligations.LoadChecks := by
  refine ⟨fun s b => ⟨fun h => ?_, fun hHash h => ?_, headerOk_of_tenant, fun hHash hHeader => ?_, fun _ => rfl,
    reported_eq_none_iff, fun f hf => ?_⟩, fun s no r b n xs f hRising hLoads hNo hFail => ?_⟩
  · rw [State.loadFails_of_hash h]
    rfl
  · rw [State.loadFails_of_header hHash h]
    rfl
  · have hSub := s.loadFails_checks_sublist hHash hHeader
    refine ⟨s.loadFails_ascending b, fun f hf => ?_, fun hNew hFull => ?_, fun hGone => ?_, fun hPart i hLen c hChord hSlots => ?_⟩
    · have hRange : ∀ m ∈ [3, 4, 5, 6, 7, 8, 9, 10, 11, 12, 13, 14], 3 ≤ m ∧ m ≤ 14 := by decide
      exact hRange _ (hSub.subset (List.mem_map_of_mem hf))
    · exact ⟨failAt 3 0, State.mem_loadFails hHash hHeader (by simp [State.checks, State.check3_of_full hNew hFull]), rfl⟩
    · exact ⟨failAt 4 0, State.mem_loadFails hHash hHeader (by simp [State.checks, State.check4_of_gone hGone]), rfl⟩
    · obtain ⟨m, hm, hSlot⟩ := hSlots
      obtain ⟨j, hj, hFirst⟩ := firstChord_le hLen hChord (s.chordPresent_of_slot hPart hm hSlot)
      exact ⟨failAt 6 j, State.mem_loadFails hHash hHeader (by simp [State.checks, hFirst]), rfl, hj⟩
  · obtain ⟨hFirst, hLeast⟩ := findSome_find_spec ((reported_eq _).symm.trans hf)
    refine ⟨List.mem_of_find?_eq_some hFirst, hLeast, fun x hx hSame => ?_⟩
    exact check_le_of_find (s.loadFails_ascending b) hFirst hx (beq_iff_eq.mpr hSame)
  · subst hNo
    have hExec := exec_segmentLoadComplete_of_front hLoads
    rw [State.loadDone_of_reported hLoads hFail] at hExec
    exact ⟨s.loadRefused b xs f, hExec, State.loadRefused_rv_loaderr b xs f hRising, State.loadRefused_rv_loaderrSeg b xs f hRising,
      s.loadRefused_seg b xs f, s.loadRefused_due b xs f, s.loadRefused_scd b xs f, s.loadRefused_mem b xs f⟩

end Sys2Proof.Claim
